-- ==== Sys2Proof/Word.lean ====
section
/-! DEFINITION. The machine's words and their plainest arithmetic. -/

namespace Sys2Proof

/-- A 32-bit register or instruction word. -/
abbrev Word := BitVec 32

/-- A byte of memory. -/
abbrev Byte := BitVec 8

/-- A tick label or another 64-bit value. -/
abbrev Long := BitVec 64

/-- The unsigned value of a bit: 1 or 0. -/
def bit (b : Bool) : Nat := if b then 1 else 0

/-- Bits `hi : lo` of a natural number, as a natural number. -/
def bitsOf (v lo width : Nat) : Nat := v / 2 ^ lo % 2 ^ width

/-- `v` with its `width` bits from `lo` on replaced by those of `x`. -/
def setBits (v lo width x : Nat) : Nat :=
  v / 2 ^ (lo + width) * 2 ^ (lo + width) + x % 2 ^ width * 2 ^ lo + v % 2 ^ lo

/-- A bit vector with every bit one. -/
def ones (w : Nat) : BitVec w := BitVec.allOnes w

/-- `n` little-endian bytes of `v`. -/
def bytesOf : Nat → Nat → List Byte
  | 0, _ => []
  | n + 1, v => BitVec.ofNat 8 v :: bytesOf n (v / 256)

/-- The value of little-endian bytes. -/
def ofBytes : List Byte → Nat
  | [] => 0
  | b :: bs => b.toNat + 256 * ofBytes bs

end Sys2Proof
end

