-- ==== Sys2Proof/Syntax.lean ====
section
/-! DEFINITION. The commands of the block: one constructor per row of the spec's opcode table, with the row's operands.
An operand carries what comes from outside the block: which channel, core, stream or register; a value; the data of the
moment.  `label` operands are ticks.  Operand types allow exactly the values the spec gives the field. -/

namespace Sys2Proof

/-- A lane-format field (R95). -/
abbrev Fmt := BitVec 3

/-- A clock domain (R20). -/
inductive Domain where
  | sclk | tclk | kclk | mclk | hclk | pclk | aclk
deriving DecidableEq, Repr

/-- A synthesiser that can be in holdover (R189). -/
inductive Synth where
  | sample | tower | memory | panel | backup
deriving DecidableEq, Repr

/-- A synthesiser with spread spectrum (R197). -/
inductive Spread where
  | tower | panel | memory
deriving DecidableEq, Repr

/-- Bits of one 66-bit Tether block that its lane flips on the way (R205): the physical lane as `TTH_LANE_SEL` numbers it,
the column of the frame, the bits of the sync header and of the payload as sent. -/
structure BlockErr where
  lane : Nat
  col : Fin 16
  header : BitVec 2
  payload : BitVec 64
deriving DecidableEq, Repr

/-- What the lanes do to a Tether frame (R205, R209): the bits they flip, and the eye margins by logical lane. -/
structure FrameLanes where
  errors : List BlockErr
  margins : List (Nat × Nat)
deriving DecidableEq, Repr

/-- What a presence window sees of the clock inputs (R188, R192): REFIN held its swing of 100 mV, and `SCLK_IN` is present and
measured in 14–17.5 GHz. -/
structure ClockInputs where
  swing : Bool
  sclkIn : Bool
deriving DecidableEq, Repr

/-- What the AMC finds of one DIMM (R326): its channel, whether its SPD reads, its capacity in GiB, a number that stands for
its rank count, device width and die density, and the highest `RATE` code it supports. -/
structure Dimm where
  ch : Fin 8
  spd : Bool
  gib : Nat
  kind : Nat
  rate : Nat
deriving DecidableEq, Repr

/-- Who receives the data of an uncorrectable error (R344). -/
inductive UeReader where
  | data (stream : Fin 64) (addr : Nat)
  | tag (stream : Fin 64) (ch : Fin 2)
  | glow (ch : Fin 2)
  | dma (c : Fin 32)
  | bar5
deriving DecidableEq, Repr

/-- Link width (R351). -/
inductive LinkWidth where
  | x4 | x8 | x16
deriving DecidableEq, Repr

/-- Link rate in GT/s (R351, R384). -/
inductive LinkRate where
  | g2_5 | g5 | g8 | g16 | g32 | g64
deriving DecidableEq, Repr

/-- Who writes through BAR2 (R24, R378). -/
inductive Bar2Writer where
  | host | peer
deriving DecidableEq, Repr

/-- What a read through BAR4 fetches: bytes of a command that a drive carries out, or plain bytes at an offset (R352, R380). -/
inductive Bar4Read where
  | command (q : Fin 16) (cid : BitVec 16) (off len : Nat)
  | plain (offset : BitVec 26) (len : Nat)
deriving DecidableEq, Repr

/-- A configuration register of a stream (R385). -/
inductive StrReg where
  | cfg | rate | ring | ringBase | prodAddr
deriving DecidableEq, Repr

/-- A register of an NVMe queue pair (R386). -/
inductive NvqReg where
  | cfg | nsid | sq | cq | sqdb | cqdb | lba | nlba | timeout
deriving DecidableEq, Repr

/-- A panel register that only a link that is off may write (R391). -/
inductive PnlReg where
  | link | panel
deriving DecidableEq, Repr

/-- What an image load meets at its source (R88, R455): no source, or the flash boot header (flash only), the size of the
flash in bytes (flash only) and the bytes of the container; `got` counts the bytes of segment data read before a host read
completed with an error, none if none did. -/
inductive LoadData where
  | absent
  | found (boot : List (BitVec 8)) (flashSize : Nat) (container : List (BitVec 8)) (got : Option Nat)
deriving DecidableEq, Repr

/-- The seven release steps (R425). -/
inductive ReleaseStep where
  | s1 | s2 | s3 | s4 | s5 | s6 | s7
deriving DecidableEq, Repr

/-- What wakes the part from SLEEP beside a write to `PWR_CTRL` (R433). -/
inductive WakeSource where
  | gpio (pin : Fin 16)
  | gauge
deriving DecidableEq, Repr

/-- How an accepted life-cycle transition goes (R452): to its end, with a burn that fails verification, or interrupted once
its pending field is burned. -/
inductive Transit where
  | done | failed | interrupted
deriving DecidableEq, Repr

/-- What a self-test leaves at its end (R464, R466): its end marker, count, signature and the comparison with the ROM, and
the failures it recorded: Tether lanes, DDR channels with their first failing pin, PCIe and DSI lanes, SRAM repairs and a
row that no spare repairs. -/
structure TestEnd where
  done : Bool
  count : BitVec 32
  sig : BitVec 32
  sigOk : Bool
  fwd : BitVec 34
  ret : BitVec 3
  ddr : List (Fin 8 × BitVec 7)
  pcie : BitVec 16
  dsi : BitVec 4
  dsiClk : Bool
  repairs : BitVec 16
  unrepaired : Option (BitVec 26)
deriving DecidableEq, Repr

/-- What a register write meets outside the block, beside its data: the DIMMs that `AMC_CFG.APPLY` finds (R326), whether
`SCLK_IN` is present and in range at `CLK_SC_CTRL.APPLY` (R192), and how the burns of a life-cycle command go (R452). -/
structure WriteEnv where
  dimms : List Dimm
  sclkIn : Bool
  how : Transit
  ok : Bool
deriving DecidableEq, Repr

/-- A command (a row of the opcode table). -/
inductive Instr where
  /-- REGISTER_WRITE (R5): A BAR0 write to a register that has no row of its own sets or clears fields according to the access type of each field. -/
  | registerWrite (addr : BitVec 26) (data : List (BitVec 8)) (env : WriteEnv)
  /-- MIRROR_WRITE (R124): A direct BAR0 write to a timeline mirror register is discarded and sets KPR_TL_STATUS.DIRECT. -/
  | mirrorWrite (addr : BitVec 26) (data : BitVec 32)
  /-- DOMAIN_CLOCK_GOOD (R22): A domain's clock becomes good (lock plus 4,096 stable cycles) and the domain's reset is released. -/
  | domainClockGood (d : Domain)
  /-- CLK_NOT_READY (R22): A software release request waits 1 ms without clock-good; it fails with CLK_NOT_READY and the block stays in reset. -/
  | clkNotReady (block : Fin 13)
  /-- TICK_WRAP (R56): The 64-bit tick counter wraps to 0 and a status marker carrying WRAP is emitted. -/
  | tickWrap
  /-- ANCHOR_COMMIT (R44): A write of 1 to STR_ANCHOR_CTRL.COMMIT copies the anchor values, checks them, and either increments the anchor index or refuses with BUSY, FUTURE or STALE. -/
  | anchorCommit
  /-- ANCHOR_RECORDS_EMITTED (R45): Emission of the anchor record into every enabled stream finishes, and STR_ANCHOR_STATUS.BUSY clears. -/
  | anchorRecordsEmitted
  /-- RANGE_SYNC_EDGE (R54): An armed part sees RANGE_SYNC_IN high after low on a REFIN rising edge, and schedules a synchronising reset 2,048 ticks later with the phase measured. `edge` and `frac` are the tick and fraction at the REFIN edge. -/
  | rangeSyncEdge (edge : BitVec 64) (frac : BitVec 10)
  /-- SYNC_DEFERRED (R50): A synchronising reset deferred from a lamp block that already held a sync tick takes effect at the first sample of the next lamp block. -/
  | syncDeferred
  /-- SYNC_OUT_PULSE_END (R55): Four REFIN periods after it rose, RANGE_SYNC_OUT returns low. -/
  | syncOutPulseEnd
  /-- RANGE_ARM (R54): A write of 1 to SEC_RANGE_CTRL.ARM arms the sampling of RANGE_SYNC_IN. -/
  | rangeArm
  /-- RANGE_DISARM (R54): A write of 1 to SEC_RANGE_CTRL.DISARM clears ARM. -/
  | rangeDisarm
  /-- RANGE_LOAD_WRITE (R55): A 64-bit write of SEC_RANGE_LOAD takes effect, or is discarded while ARM is set and sets WR_ARMED. -/
  | rangeLoadWrite (value : BitVec 64)
  /-- QUEUE_ENTRY_WRITE (R76): The dispatch unit writes a pipeline output as a whole entry into a bound Beacon queue, and then increments WR. The output is the oldest one waiting for the dispatch unit; `bufferFull` names the cores whose 16 KiB dispatch buffer has no room. -/
  | queueEntryWrite (bufferFull : BitVec 16)
  /-- QRD_WRITE (R77): A core writes QRD[q] to consume entries, and the flags of the passed entries are ORed into FLAGACC. -/
  | qrdWrite (core : Fin 16) (q : Fin 4) (value : BitVec 32)
  /-- POST (R78): A core writes POST with a descriptor address, and a Beacon user record is queued with FLAGACC ORed in; the core stalls while the post FIFO is full. -/
  | post (core : Fin 16) (addr : BitVec 32)
  /-- POST_COPIED (R79): The stream engine finishes copying a posted descriptor and payload, and POSTED increments. -/
  | postCopied (core : Fin 16)
  /-- BEACON_FAULT (R81): A Beacon core stops at a faulting instruction, records code, address and PC, and raises BCN_FAULT. -/
  | beaconFault (core : Fin 16) (code : BitVec 4) (addr : BitVec 32)
  /-- BEACON_HANG (R81): A core runs its watchdog count of cycles without a QRD write or POST, and faults with HANG. -/
  | beaconHang (core : Fin 16)
  /-- BEACON_RESTART (R82): 10 µs after a fault with auto-restart on, the core's registers are cleared, its queues are emptied into drop counts, FLAGACC takes GAP, and the core starts at its restart vector. -/
  | beaconRestart (core : Fin 16)
  /-- BCN_RUN (R90): A write to BCN_RUN starts halted cores at their entry, and faulted cores at their restart vector. -/
  | bcnRun (mask : BitVec 16)
  /-- BCN_HALT (R90): A write to BCN_HALT halts the named cores at their next instruction boundary. -/
  | bcnHalt (mask : BitVec 16)
  /-- BCN_WDOG_WRITE (R90): A write to BCN_n_WDOG takes effect and restarts that core's hang count from zero. -/
  | bcnWdogWrite (core : Fin 16) (data : BitVec 32)
  /-- QUEUE_CFG_WRITE (R74): A write to a queue's CFG or SLOTS register is discarded while the queue is bound, and sets CFG_BUSY. -/
  | queueCfgWrite (core : Fin 16) (q : Fin 4) (slots : Bool) (data : BitVec 32)
  /-- KEEPER_TRAP (R83): A Keeper trap records its code and address and runs the trap handler with cst.TRAP set. -/
  | keeperTrap (code : BitVec 4) (addr : BitVec 32)
  /-- KPR_WDT_EXPIRE (R84): The Keeper watchdog reaches zero, reloads, restarts the Keeper with CAUSE 3h, sets the WDT cause bit and raises KPR_WDT. -/
  | kprWdtExpire
  /-- WDT_CTRL_WRITE (R84): A write to KPR_WDT_CTRL sets PERIOD and EN, subject to the range check. -/
  | wdtCtrlWrite (data : BitVec 32)
  /-- WDT_KICK (R84): Writing 5A5Ah to KPR_WDT_KICK reloads the watchdog count. -/
  | wdtKick (data : BitVec 32)
  /-- KPR_HALT (R89): A write to KPR_CTRL.HALT halts the Keeper at the next instruction boundary and ends any timeline stall without queuing. -/
  | kprHalt
  /-- KPR_RESUME (R89): A write to KPR_CTRL.RESUME clears HALT and resumes the Keeper. -/
  | kprResume
  /-- KPR_RESTART (R85): A restart request halts the Keeper, drains its store buffer and measures its code, unless no image is loaded or a restart is already running. -/
  | kprRestart
  /-- KEEPER_RESTART_DONE (R85): The code measurement ends: on a match the Keeper starts at its restart vector, otherwise Fog-signal mode is entered. -/
  | keeperRestartDone
  /-- MBOX_DB_RING (R86): A host write to KPR_MBOX_DB.RING sets the Keeper's mailbox flag. -/
  | mboxDbRing
  /-- MBOX_OUT7_WRITE (R86): A Keeper write to KPR_MBOX_OUT7 raises KPR_MBOX. -/
  | mboxOut7Write (data : BitVec 32)
  /-- LOAD_GO (R459): A write to LCS_LOAD_CTRL.GO requests an image load from flash or host memory, or is discarded with LOAD_DROP. -/
  | loadGo (data : BitVec 32)
  /-- IMAGE_LOAD_DONE (R458): The signature and digest checks end: the PIPE entries are queued and the cores start, or the load fails with its result code. -/
  | imageLoadDone (source : LoadData)
  /-- ILLEGAL_INSTRUCTION (R94): An undefined or disallowed encoding raises the Beacon fault or Keeper trap ILLEGAL and writes nothing. -/
  | illegalInstruction (core : Fin 17) (word second : BitVec 32)
  /-- NOP (R99): No operation. -/
  | nop (core : Fin 17)
  /-- ADD (R99): gd := ga + gb, clamped or wrapped per S. -/
  | add (core : Fin 17) (sat : Bool) (gd ga gb : Fin 16)
  /-- SUB (R99): gd := ga − gb. -/
  | sub (core : Fin 17) (sat : Bool) (gd ga gb : Fin 16)
  /-- MUL (R99): gd := low 32 bits of the signed product. -/
  | mul (core : Fin 17) (sat : Bool) (gd ga gb : Fin 16)
  /-- MULH (R99): gd := high 32 bits of the signed product. -/
  | mulh (core : Fin 17) (gd ga gb : Fin 16)
  /-- AND (R99): Bitwise and of two registers. -/
  | and (core : Fin 17) (gd ga gb : Fin 16)
  /-- OR (R99): Bitwise or of two registers. -/
  | or (core : Fin 17) (gd ga gb : Fin 16)
  /-- XOR (R99): Bitwise exclusive or of two registers. -/
  | xor (core : Fin 17) (gd ga gb : Fin 16)
  /-- SLL (R99): Signed left shift by a register count. -/
  | sll (core : Fin 17) (sat : Bool) (gd ga gb : Fin 16)
  /-- SRL (R99): Logical right shift by a register count. -/
  | srl (core : Fin 17) (gd ga gb : Fin 16)
  /-- SRA (R99): Arithmetic right shift by a register count. -/
  | sra (core : Fin 17) (gd ga gb : Fin 16)
  /-- SLT (R99): Signed set-less-than. -/
  | slt (core : Fin 17) (gd ga gb : Fin 16)
  /-- SLTU (R99): Unsigned set-less-than. -/
  | sltu (core : Fin 17) (gd ga gb : Fin 16)
  /-- MIN (R99): Signed minimum. -/
  | min (core : Fin 17) (gd ga gb : Fin 16)
  /-- MAX (R99): Signed maximum. -/
  | max (core : Fin 17) (gd ga gb : Fin 16)
  /-- ABS (R99): Absolute value. -/
  | abs (core : Fin 17) (sat : Bool) (gd ga : Fin 16)
  /-- ADDI (R99): Adds a sign-extended immediate. -/
  | addi (core : Fin 17) (sat : Bool) (gd ga : Fin 16) (imm : BitVec 15)
  /-- ANDI (R99): Ands with a zero-extended immediate. -/
  | andi (core : Fin 17) (gd ga : Fin 16) (imm : BitVec 15)
  /-- ORI (R99): Ors with a zero-extended immediate. -/
  | ori (core : Fin 17) (gd ga : Fin 16) (imm : BitVec 15)
  /-- XORI (R99): Exclusive-ors with a zero-extended immediate. -/
  | xori (core : Fin 17) (gd ga : Fin 16) (imm : BitVec 15)
  /-- SLLI (R99): Signed left shift by an immediate. -/
  | slli (core : Fin 17) (sat : Bool) (gd ga : Fin 16) (n : BitVec 5)
  /-- SRLI (R99): Logical right shift by an immediate. -/
  | srli (core : Fin 17) (gd ga : Fin 16) (n : BitVec 5)
  /-- SRAI (R99): Arithmetic right shift by an immediate. -/
  | srai (core : Fin 17) (gd ga : Fin 16) (n : BitVec 5)
  /-- SLTI (R99): Signed set-less-than against an immediate. -/
  | slti (core : Fin 17) (gd ga : Fin 16) (imm : BitVec 15)
  /-- LUI (R99): Loads an immediate into the upper half of a register. -/
  | lui (core : Fin 17) (gd : Fin 16) (imm : BitVec 16)
  /-- LLI (R99): Loads an immediate into the lower half of a register. -/
  | lli (core : Fin 17) (gd : Fin 16) (imm : BitVec 16)
  /-- BEQ (R99): Branches if the registers are equal. -/
  | beq (core : Fin 17) (ga gb : Fin 16) (off : BitVec 15)
  /-- BNE (R99): Branches if the registers differ. -/
  | bne (core : Fin 17) (ga gb : Fin 16) (off : BitVec 15)
  /-- BLT (R99): Branches if less than, signed. -/
  | blt (core : Fin 17) (ga gb : Fin 16) (off : BitVec 15)
  /-- BGE (R99): Branches if greater or equal, signed. -/
  | bge (core : Fin 17) (ga gb : Fin 16) (off : BitVec 15)
  /-- BLTU (R99): Branches if less than, unsigned. -/
  | bltu (core : Fin 17) (ga gb : Fin 16) (off : BitVec 15)
  /-- BGEU (R99): Branches if greater or equal, unsigned. -/
  | bgeu (core : Fin 17) (ga gb : Fin 16) (off : BitVec 15)
  /-- JMP (R99): Jumps PC-relative. -/
  | jmp (core : Fin 17) (off : BitVec 23)
  /-- JAL (R99): Jumps and links into g15. -/
  | jal (core : Fin 17) (off : BitVec 23)
  /-- JR (R101): Jumps to a register address. -/
  | jr (core : Fin 17) (ga : Fin 16)
  /-- JALR (R101): Jumps to a register address and links. -/
  | jalr (core : Fin 17) (gd ga : Fin 16)
  /-- LOOP (R102): Starts a hardware loop whose count comes from a register. -/
  | loop (core : Fin 17) (ga : Fin 16) (len : BitVec 10)
  /-- LOOPI (R102): Starts a hardware loop whose count is an immediate. -/
  | loopi (core : Fin 17) (count : BitVec 13) (len : BitVec 10)
  /-- LOOP_BACK_EDGE (R102): The last instruction of a loop body completes: the count decrements, and the loop either continues at its start or pops its level. -/
  | loopBackEdge (core : Fin 17)
  /-- MOVS (R100): Copies between any two scalar-numbered registers. -/
  | movs (core : Fin 17) (dst src : BitVec 6)
  /-- MOVSI (R100): Writes a sign-extended immediate into any scalar-numbered register. -/
  | movsi (core : Fin 17) (dst : BitVec 6) (imm : BitVec 17)
  /-- FENCE (R104): Completes when the store buffer is empty and earlier uncached stores have completed (Keeper); takes one cycle on a Beacon core. -/
  | fence (core : Fin 17)
  /-- BRK (R99): Raises the BREAK fault or trap. -/
  | brk (core : Fin 17)
  /-- RETT (R104): Restores the loop stack, clears cst.TRAP and returns to epc. -/
  | rett (core : Fin 17)
  /-- AMOD (R99): Post-modifies a pointer by an immediate with circular addressing, without any access. -/
  | amod (core : Fin 17) (x : Fin 8) (imm : BitVec 15)
  /-- WAITQ (R104): Stalls the core until QWR[q] differs from the register value. -/
  | waitq (core : Fin 17) (q : Fin 4) (ga : Fin 16)
  /-- WAITQ_WAKE (R104): QWR[q] changes and a core stalled in waitq resumes. -/
  | waitqWake (core : Fin 17)
  /-- SIGNAL (R104): Sets BCN_n_ATTN.SIGNAL and writes its immediate to CODE. -/
  | signal (core : Fin 17) (imm : BitVec 16)
  /-- VMOV (R106): Vector copy. -/
  | vmov (core : Fin 17) (fmt : Fmt) (vd va : Fin 32)
  /-- VADD (R106): Lane-wise addition. -/
  | vadd (core : Fin 17) (sat : Bool) (fmt : Fmt) (vd va vb : Fin 32)
  /-- VSUB (R106): Lane-wise subtraction. -/
  | vsub (core : Fin 17) (sat : Bool) (fmt : Fmt) (vd va vb : Fin 32)
  /-- VMULQ (R108): Lane-wise Q15, integer or float product. -/
  | vmulq (core : Fin 17) (sat : Bool) (fmt : Fmt) (vd va vb : Fin 32)
  /-- VMIN (R106): Lane-wise minimum. -/
  | vmin (core : Fin 17) (fmt : Fmt) (vd va vb : Fin 32)
  /-- VMAX (R106): Lane-wise maximum. -/
  | vmax (core : Fin 17) (fmt : Fmt) (vd va vb : Fin 32)
  /-- VABS (R106): Lane-wise absolute value. -/
  | vabs (core : Fin 17) (sat : Bool) (fmt : Fmt) (vd va : Fin 32)
  /-- VNEG (R106): Lane-wise negation. -/
  | vneg (core : Fin 17) (sat : Bool) (fmt : Fmt) (vd va : Fin 32)
  /-- VAND (R106): Lane-wise and. -/
  | vand (core : Fin 17) (fmt : Fmt) (vd va vb : Fin 32)
  /-- VOR (R106): Lane-wise or. -/
  | vor (core : Fin 17) (fmt : Fmt) (vd va vb : Fin 32)
  /-- VXOR (R106): Lane-wise exclusive or. -/
  | vxor (core : Fin 17) (fmt : Fmt) (vd va vb : Fin 32)
  /-- VSHL (R106): Lane-wise left shift. -/
  | vshl (core : Fin 17) (sat : Bool) (fmt : Fmt) (vd va : Fin 32) (n : BitVec 5)
  /-- VSRA (R106): Lane-wise arithmetic right shift. -/
  | vsra (core : Fin 17) (fmt : Fmt) (vd va : Fin 32) (n : BitVec 5)
  /-- VSRL (R106): Lane-wise logical right shift. -/
  | vsrl (core : Fin 17) (fmt : Fmt) (vd va : Fin 32) (n : BitVec 5)
  /-- VCONJ (R106): Complex conjugate of each lane. -/
  | vconj (core : Fin 17) (sat : Bool) (fmt : Fmt) (vd va : Fin 32)
  /-- VMAG2 (R106): Squared magnitude of each complex lane, as int32. -/
  | vmag2 (core : Fin 17) (sat : Bool) (fmt : Fmt) (vd va : Fin 32)
  /-- VFMA (R106): Fused binary32 multiply-add into vd. -/
  | vfma (core : Fin 17) (sat : Bool) (fmt : Fmt) (vd va vb : Fin 32)
  /-- VCVT (R109): Converts between the lane formats of the defined pairs. -/
  | vcvt (core : Fin 17) (sat : Bool) (fmt : Fmt) (vd va : Fin 32) (src : Fmt) (half : Bool)
  /-- VPERM (R106): Permutes lanes by index. -/
  | vperm (core : Fin 17) (fmt : Fmt) (vd va vb : Fin 32)
  /-- VALN (R106): Extracts aligned lanes from two concatenated vectors. -/
  | valn (core : Fin 17) (fmt : Fmt) (vd va vb : Fin 32) (n : BitVec 4)
  /-- VGET (R106): Moves one lane into a scalar register. -/
  | vget (core : Fin 17) (fmt : Fmt) (gd : Fin 16) (va : Fin 32) (j : BitVec 5)
  /-- VPUT (R106): Writes a scalar register into one lane. -/
  | vput (core : Fin 17) (fmt : Fmt) (vd : Fin 32) (ga : Fin 16) (j : BitVec 5)
  /-- VHMAX (R106): Finds the largest lane and its index. -/
  | vhmax (core : Fin 17) (fmt : Fmt) (vd va : Fin 32)
  /-- VMAC (R107): Multiply-accumulates int16 products into an accumulator. -/
  | vmac (core : Fin 17) (sat : Bool) (fmt : Fmt) (an : Fin 4) (zero neg : Bool) (va vb : Fin 32)
  /-- VMACP (R107): Multiply-accumulates with the coefficient third operand. -/
  | vmacp (core : Fin 17) (sat : Bool) (fmt : Fmt) (an : Fin 4) (zero neg : Bool) (va : Fin 32)
  /-- VPMAC (R107): Accumulates (va + vb) × p. -/
  | vpmac (core : Fin 17) (sat : Bool) (fmt : Fmt) (an : Fin 4) (zero neg : Bool) (va vb : Fin 32)
  /-- VPMSC (R107): Accumulates (va − vb) × p. -/
  | vpmsc (core : Fin 17) (sat : Bool) (fmt : Fmt) (an : Fin 4) (zero neg : Bool) (va vb : Fin 32)
  /-- VCMAC (R107): Complex multiply-accumulate. -/
  | vcmac (core : Fin 17) (sat : Bool) (fmt : Fmt) (an : Fin 4) (zero neg : Bool) (va vb : Fin 32)
  /-- VCMACJ (R107): Complex multiply-accumulate with a conjugated operand. -/
  | vcmacj (core : Fin 17) (sat : Bool) (fmt : Fmt) (an : Fin 4) (zero neg : Bool) (va vb : Fin 32)
  /-- VCMACP (R107): Complex multiply-accumulate with p. -/
  | vcmacp (core : Fin 17) (sat : Bool) (fmt : Fmt) (an : Fin 4) (zero neg : Bool) (va : Fin 32)
  /-- VCMACPJ (R107): Complex multiply-accumulate with conj(p). -/
  | vcmacpj (core : Fin 17) (sat : Bool) (fmt : Fmt) (an : Fin 4) (zero neg : Bool) (va : Fin 32)
  /-- VRND (R108): Rounds accumulator lanes into a vector. -/
  | vrnd (core : Fin 17) (sat : Bool) (fmt : Fmt) (vd : Fin 32) (an : Fin 4) (n : BitVec 5)
  /-- VRNDW (R108): Rounds half of the accumulator lanes into int32 lanes. -/
  | vrndw (core : Fin 17) (sat : Bool) (fmt : Fmt) (vd : Fin 32) (an : Fin 4) (n : BitVec 5) (half : Bool)
  /-- VAMOV (R106): Loads shifted vector lanes into an accumulator. -/
  | vamov (core : Fin 17) (fmt : Fmt) (an : Fin 4) (va : Fin 32) (n : BitVec 5)
  /-- VACLR (R106): Clears an accumulator. -/
  | vaclr (core : Fin 17) (fmt : Fmt) (an : Fin 4)
  /-- LD (R112): Loads a 32-bit word. -/
  | ld (core : Fin 17) (gd : Fin 16) (x : Fin 8) (mode : BitVec 3) (off : BitVec 12)
  /-- ST (R112): Stores a 32-bit word. `env` is what a Keeper store to a register meets outside the block. -/
  | st (core : Fin 17) (ga : Fin 16) (x : Fin 8) (mode : BitVec 3) (off : BitVec 12) (env : WriteEnv)
  /-- VLD (R112): Loads 32 bytes into a vector. -/
  | vld (core : Fin 17) (vd : Fin 32) (x : Fin 8) (mode : BitVec 3) (off : BitVec 12)
  /-- VST (R112): Stores a vector. -/
  | vst (core : Fin 17) (va : Fin 32) (x : Fin 8) (mode : BitVec 3) (off : BitVec 12)
  /-- VLDB (R112): Broadcast-loads a word into every lane. -/
  | vldb (core : Fin 17) (vd : Fin 32) (x : Fin 8) (mode : BitVec 3) (off : BitVec 12)
  /-- VLD2 (R113): Makes an X load and a Y load. -/
  | vld2 (core : Fin 17) (vx : Fin 32) (px : Fin 8) (mx : Bool) (vy : Fin 32) (py : Fin 8) (my : Bool)
  /-- VLDST (R113): Makes an X load and a Y store. -/
  | vldst (core : Fin 17) (vx : Fin 32) (px : Fin 8) (mx : Bool) (vy : Fin 32) (py : Fin 8) (my : Bool)
  /-- VSTLD (R113): Makes an X store and a Y load. -/
  | vstld (core : Fin 17) (vx : Fin 32) (px : Fin 8) (mx : Bool) (vy : Fin 32) (py : Fin 8) (my : Bool)
  /-- VST2 (R113): Makes an X store and a Y store. -/
  | vst2 (core : Fin 17) (vx : Fin 32) (px : Fin 8) (mx : Bool) (vy : Fin 32) (py : Fin 8) (my : Bool)
  /-- LI (R115): Loads a 32-bit immediate from the second word. -/
  | li (core : Fin 17) (gd : Fin 16) (imm : BitVec 32)
  /-- TL_AT (R120): Sets the held target from two registers. -/
  | tlAt (core : Fin 17) (ga gb : Fin 16)
  /-- TL_ATD (R120): Adds a 56-bit delta to the held target. -/
  | tlAtd (core : Fin 17) (delta : BitVec 56)
  /-- TL_SET (R128): Queues a scalar timeline entry with an immediate operand, checked for order and lead. -/
  | tlSet (core : Fin 17) (unit : BitVec 4) (sel : BitVec 20) (opnd : BitVec 32) (imm : Bool)
  /-- TL_SETR (R128): Queues a scalar timeline entry with a register operand. -/
  | tlSetr (core : Fin 17) (unit : BitVec 4) (sel : BitVec 20) (ga : Fin 16) (imm : Bool)
  /-- TL_LOAD (R135): Queues a table load, reading its descriptor at acceptance. -/
  | tlLoad (core : Fin 17) (unit : BitVec 4) (sel : BitVec 20) (desc : BitVec 32) (imm : Bool)
  /-- TL_STALL_END (R129): A place frees in the queue and the stalled instruction is accepted, with its lead tested at that moment. -/
  | tlStallEnd
  /-- TL_LOAD_COPY_DONE (R136): The load engine finishes copying a table into its shadow, and KPR_TL_LOADS.DONE increments. -/
  | tlLoadCopyDone
  /-- TL_FLUSH (R138): A write to KPR_TL_CTRL.FLUSH empties the named unit queues and abandons their running loads. -/
  | tlFlush (units : BitVec 16)
  /-- ATTEN (R146): The attenuation changes at tick T and opens a 96-tick front-end step window. `label` is the tick of the element (every entry row). -/
  | atten (n : Fin 2) (label : BitVec 64)
  /-- PREAMP (R146): The preamplifier switches at tick T and opens a front-end step window. -/
  | preamp (n : Fin 2) (label : BitVec 64)
  /-- FT_THR (R157): A fast-comparator threshold changes and starts a 64-tick threshold hold. -/
  | ftThr (n : Fin 2) (label : BitVec 64)
  /-- FT_CTRL (R156): Comparator enable, polarity, hysteresis, routing and forwarding change at T. `beyondc` is the output a changed polarity decides afresh. -/
  | ftCtrl (n : Fin 2) (label : BitVec 64) (beyond0 beyond1 : Bool)
  /-- NCO_FREQ (R219): The _HI entry puts the staged 48-bit NCO frequency in force with continuous phase. -/
  | ncoFreq (n : Fin 2) (label : BitVec 64)
  /-- NCO_PHASE (R219): The NCO phase steps, and the outputs affected carry SETTLE. -/
  | ncoPhase (n : Fin 2) (label : BitVec 64)
  /-- DEC_K (R221): The decimation exponent changes with a restart of the chain. -/
  | decK (n : Fin 2) (label : BitVec 64)
  /-- SPAN_MODE (R220): Full span is switched on or off with a restart of the chain. -/
  | spanMode (n : Fin 2) (label : BitVec 64)
  /-- RANK_CTRL (R227): The rank-filter settings change and the hysteresis state resets to low. -/
  | rankCtrl (n : Fin 2) (label : BitVec 64)
  /-- THR_HIGH (R228): The high threshold changes. -/
  | thrHigh (n : Fin 2) (label : BitVec 64)
  /-- THR_LOW (R228): The low threshold changes. -/
  | thrLow (n : Fin 2) (label : BitVec 64)
  /-- OUT_CTRL (R223): The gain and the threshold-event enables change. -/
  | outCtrl (n : Fin 2) (label : BitVec 64)
  /-- ENABLE (R249): A Lens engine is enabled, setting a grid origin, or disabled. -/
  | enable (n : Fin 2) (label : BitVec 64)
  /-- FFT_LOG2N (R238): The FFT size changes and the frame becomes the grid origin. -/
  | fftLog2n (n : Fin 2) (label : BitVec 64)
  /-- WINDOW (R241): The window changes. -/
  | window (n : Fin 2) (label : BitVec 64)
  /-- KAISER_BETA (R242): The Kaiser β changes. -/
  | kaiserBeta (n : Fin 2) (label : BitVec 64)
  /-- HOP_DIV (R239): The hop changes and the frame becomes the grid origin. -/
  | hopDiv (n : Fin 2) (label : BitVec 64)
  /-- DET_MODE (R245): The detector mode changes and the detector origin is reset. -/
  | detMode (n : Fin 2) (label : BitVec 64)
  /-- DET_COUNT (R245): The detector group size changes. -/
  | detCount (n : Fin 2) (label : BitVec 64)
  /-- BIN_FIRST (R248): The first bin of the range changes. -/
  | binFirst (n : Fin 2) (label : BitVec 64)
  /-- BIN_LAST (R248): The last bin of the range changes. -/
  | binLast (n : Fin 2) (label : BitVec 64)
  /-- FORMAT (R254): The record format changes between LOG16 and LIN32. -/
  | format (n : Fin 2) (label : BitVec 64)
  /-- USER_WINDOW (R242): A loaded user window table comes into force. -/
  | userWindow (n : Fin 2) (label : BitVec 64)
  /-- MASK_CTRL (R260): A mask condition's control changes and its count clears. -/
  | maskCtrl (label : BitVec 64)
  /-- MASK (R261): A mask point table comes into force and its condition clears. -/
  | mask (label : BitVec 64)
  /-- PROG_CTRL (R267): A trigger program is enabled or disabled and restarts at step 0. -/
  | progCtrl (label : BitVec 64)
  /-- PROG (R263): A program table comes into force and the program restarts. -/
  | prog (label : BitVec 64)
  /-- HOLDOFF (R271): The holdoff changes for labels from T. -/
  | holdoff (label : BitVec 64)
  /-- AUTO (R272): The auto-mode timeout changes. -/
  | auto (label : BitVec 64)
  /-- PRE (R276): The pre-trigger count changes, or is refused while armed. -/
  | pre (label : BitVec 64)
  /-- SECTOR_POST (R276): The post-trigger count changes, or is refused while armed. -/
  | sectorPost (label : BitVec 64)
  /-- SEG_RING (R277): The slot count, channels and spill setting change, or are refused while armed. -/
  | segRing (label : BitVec 64)
  /-- ARM (R278): The Sector unit is checked and armed, and slot 0 opens at the arm label. -/
  | arm (label : BitVec 64)
  /-- DISARM (R281): The Sector unit disarms, completing or abandoning the open slot. -/
  | disarm (label : BitVec 64)
  /-- GEOM (R316): A Glow geometry change requests a boundary, or stops the channel at once when EN = 0. -/
  | geom (n : Fin 2) (label : BitVec 64)
  /-- INTEG (R311): The integration length changes and a boundary is requested. -/
  | integ (label : BitVec 64)
  /-- PERSIST (R314): The persistence settings change for later snapshots. -/
  | persist (label : BitVec 64)
  /-- SNAP_CTRL (R313): The snapshot, record, end, clear and colour settings change. -/
  | snapCtrl (label : BitVec 64)
  /-- LUT (R319): A colour table comes into force for later snapshots. -/
  | lut (label : BitVec 64)
  /-- START_SRC (R295): The interval start source and enable change, ending the statistics set. -/
  | startSrc (label : BitVec 64)
  /-- STOP_MASK (R295): The stop sources and stop count change, ending the statistics set. -/
  | stopMask (label : BitVec 64)
  /-- GATE_CTRL (R297): The gate settings change. -/
  | gateCtrl (label : BitVec 64)
  /-- STAT_N (R299): The statistics set size changes, ending the current set. -/
  | statN (label : BitVec 64)
  /-- CAL_CTRL (R294): The code-density-only setting changes at each channel's next role change. -/
  | calCtrl (label : BitVec 64)
  /-- CAP (R332): The capture mode of a channel changes, reserving write rate and starting a new capture. -/
  | cap (n : Fin 2) (label : BitVec 64)
  /-- RING (R333): A capture ring region changes and a new capture starts. -/
  | ring (n : Fin 2) (label : BitVec 64)
  /-- STREAM_EN (R367): A stream's record sources are enabled or disabled from T. -/
  | streamEn (k : Fin 64) (label : BitVec 64)
  /-- MARK (R126): A status marker whose PARAM is the operand goes into every enabled stream. -/
  | mark (label : BitVec 64)
  /-- FREEZE (R176): Calibration of the named channels freezes or unfreezes. -/
  | freeze (label : BitVec 64)
  /-- ROTATE (R177): A relief swap is requested, or the staged USER trim is committed with a SETTLE window. -/
  | rotate (label : BitVec 64)
  /-- SWAP_SCHED (R170): The swap grid of the named channels is set, with its origin at the next lamp block. -/
  | swapSched (label : BitVec 64)
  /-- SCAN_MASK (R403): The Gauge scan mask changes at the next conversion. -/
  | scanMask (label : BitVec 64)
  /-- URGENT (R404): A timeline urgent conversion request is queued. -/
  | urgent (label : BitVec 64)
  /-- BIND (R71): A queue binding is replaced or removed, and WR, RD and the drop count are zeroed. -/
  | bind (label : BitVec 64)
  /-- CPAGE (R72): The current coefficient page of a binding changes. -/
  | cpage (label : BitVec 64)
  /-- RESYNC_V (R125): The _HI entry puts the staged 64-bit RESYNC load value in force. -/
  | resyncV (label : BitVec 64)
  /-- RESYNC (R50): A synchronising reset is made at T with the RESYNC_V load value, or is refused as below the natural count. -/
  | resync (label : BitVec 64)
  /-- SYNC_OUT (R55): RANGE_SYNC_OUT is driven high from the next REFIN edge, or OUT_NOREF is set. `edge` says that a REFIN rising edge follows before REFIN is declared absent. -/
  | syncOut (label : BitVec 64) (edge : Bool)
  /-- TRIGOUT_SRC (R284): A TRIG_OUT pin switches between FAST and TOWER and takes its pulse shape. -/
  | trigoutSrc (p : Fin 2) (label : BitVec 64)
  /-- XTRIG_CTRL (R285): The XTRIG input and output settings change. -/
  | xtrigCtrl (label : BitVec 64)
  /-- FRONT_END_STEP_END (R146): The 96-tick step window ends, SETTLE stops and the comparators go live. -/
  | frontEndStepEnd (n : Fin 2)
  /-- THRESHOLD_HOLD_END (R157): A comparator hold ends and its contribution follows the live comparator. -/
  | thresholdHoldEnd (n c : Fin 2)
  /-- COMPARATOR_TRANSITION (R159): A fast comparator changes state at the input; it drives the routed pins and is captured for the forwarding reports. -/
  | comparatorTransition (n c : Fin 2) (v : Bool) (label : BitVec 64)
  /-- OVR_FIRE (R152): The OVR comparator fires and starts 127 further samples of OVR marking. -/
  | ovrFire (n : Fin 2) (label : BitVec 64)
  /-- TRIP_FIRE (R152): The trip comparator fires and starts 383 further samples of OVR marking. -/
  | tripFire (n : Fin 2) (label : BitVec 64)
  /-- OVR_MARK_END (R152): The latest running OVR count ends and the marking stops. -/
  | ovrMarkEnd (n : Fin 2)
  /-- OVERLOAD_EPISODE_END (R153): 35,000 ticks after the last firing the episode ends and LMP_n_OVR_END is raised. -/
  | overloadEpisodeEnd (n : Fin 2)
  /-- LAMP_ENTRY_ARRIVE (R162): A timeline entry reaches the lamp-side store, or is found LATE because its target has passed. -/
  | lampEntryArrive (u : Fin 15)
  /-- PEAK_CLEAR (R164): A write of LMP_n_PEAK.CLEAR sets PEAK to 0. -/
  | peakClear (n : Fin 2)
  /-- TRIGOUT_PULSE_START (R284): The lamp drives TRIG_OUT high at the requested tick, or at once if the request came late. `label` is the tick at which the lamp drives the pin. -/
  | trigoutPulseStart (p : Fin 2) (label : BitVec 64)
  /-- TRIGOUT_PULSE_END (R284): The pulse's 64 × WIDTH ticks end and the pin returns low. -/
  | trigoutPulseEnd (p : Fin 2)
  /-- SWAP_GRID_POINT (R170): A scheduled grid point is reached and the relief swap is performed, deferred or missed. -/
  | swapGridPoint (n : Fin 2) (arrived : Bool)
  /-- DEFERRED_SWAP_PERFORM (R176): The deferred swap is performed at the first lamp block after the last frozen sample. -/
  | deferredSwapPerform (n : Fin 2)
  /-- REFERENCE_WINDOW_END (R171): The relief slice's reference window ends and its shadow window begins. -/
  | referenceWindowEnd (n : Fin 2)
  /-- CHECK_WINDOW_START (R171): The check window begins 6,400,000 samples before the next grid point. -/
  | checkWindowStart (n : Fin 2)
  /-- CHECK_WINDOW_END (R174): The new BG values are verified against the plausibility tests. -/
  | checkWindowEnd (n : Fin 2) (bg : BitVec 32) (lowsig : Bool) (residOffset residGain : Nat)
  /-- FACTORY_TRIM_READ_DONE (R180): The factory set is read from OTP and its CRC is checked, with a re-read on failure. -/
  | factoryTrimReadDone (data : List (BitVec 8))
  /-- USER_TRIM_READ_DONE (R181): The user-trim block is read and checked, with up to 3 attempts. -/
  | userTrimReadDone (data : Option (List (BitVec 8)))
  /-- TRIM_SET_APPLIED (R179): The complete trim set is applied at a lamp block, the steps and grids restart, and CAL_TRIM_LOADED is raised. -/
  | trimSetApplied (label : BitVec 64)
  /-- REFIN_WINDOW_END (R188): A 10 µs presence window ends and REFIN is judged good or not. -/
  | refinWindowEnd (edges : Nat) (seen : ClockInputs) (khz : Nat)
  /-- HOLDOVER_LOCK (R190): A synthesiser in holdover completes its pull-in and locks. -/
  | holdoverLock (y : Synth)
  /-- BACKUP_CLOCK_LOCK (R191): The backup clock locks to REFIN and TCLK and KCLK run from it. -/
  | backupClockLock
  /-- CLK_START (R191): A write to CLK_SYS_CTRL.START starts the tower, memory and panel synthesisers, or is discarded. -/
  | clkStart
  /-- TOWER_SYNTH_LOCK (R191): The tower synthesiser locks and TCLK switches glitch-free to 1.5 GHz. -/
  | towerSynthLock
  /-- REF_NOM_WRITE (R191): A write to CLK_REF_NOM takes effect, or is discarded after START with code 7h. -/
  | refNomWrite (data : BitVec 32)
  /-- SC_APPLY (R196): A write to CLK_SC_CTRL.APPLY checks the sample-clock settings and sends them to the lamp. `sclkIn` says that SCLK_IN is present and measured in 14–17.5 GHz. -/
  | scApply (sclkIn : Bool)
  /-- SC_RETUNE (R196): At the first lamp block after the settings arrive, the synthesiser reloads and CLKLOST marking begins. -/
  | scRetune (label : BitVec 64)
  /-- SC_LOCK (R196): The sample clock becomes good at the new rate and CLK_SC_LOCKED is raised. -/
  | scLock (label : BitVec 64)
  /-- SC_LOSS (R200): Sample-clock loss is declared and the blocks back to D − 64,000 are marked CLKLOST. -/
  | scLoss (label : BitVec 64)
  /-- SCLK_IN_LOSS (R195): SCLK_IN fails and the internal VCO takes over at the tracked frequency. -/
  | sclkInLoss (label : BitVec 64)
  /-- TOWER_CLK_LOSS (R199): TCLK is switched to the backup clock and Fog-signal mode is entered. -/
  | towerClkLoss
  /-- MEM_CLK_LOSS (R346): The memory synthesiser loses lock: the PHY moves to the backup clock, the DRAM self-refreshes and the writer stops. -/
  | memClkLoss
  /-- MEM_CLK_RELOCK (R199): The memory synthesiser relocks and the AMC exits self-refresh and retrains. -/
  | memClkRelock
  /-- PANEL_CLK_LOSS (R399): The panel synthesiser loses lock and the panel engine stops at a tile boundary. -/
  | panelClkLoss
  /-- PANEL_CLK_RELOCK (R399): The panel synthesiser relocks and the link restarts with every tile owed. -/
  | panelClkRelock
  /-- ACLK_LOSS (R199): The TCLK monitor sees ACLK out of range; ACLK_OK clears and FAULT_N is asserted. -/
  | aclkLoss
  /-- SPREAD_WRITE (R197): A spread register write is accepted, or discarded whole with code 9h. -/
  | spreadWrite (y : Spread) (data : BitVec 32)
  /-- SPREAD_CHANGE (R197): A pending spread setting takes effect at a triangle minimum or at the synthesiser's next start. -/
  | spreadChange (y : Spread)
  /-- FORWARD_FRAME (R208): A forward Tether frame arrives; its packets are taken, or it is discarded on a CRC failure. `pairs` are the channel A and B codes of its lamp blocks, oldest first. -/
  | forwardFrame (lanes : FrameLanes) (pairs : List (List (BitVec 12) × List (BitVec 12)))
  /-- LANE_SWITCH (R210): At the switch frame both dies apply the new lane map. -/
  | laneSwitch (ret : Bool)
  /-- CLOCK_LANE_FAIL (R210): The active forwarded clock lane fails and the receivers move to clock lane 1. -/
  | clockLaneFail
  /-- RETURN_FRAME (R211): A return frame reaches the lamp; its packets are taken, duplicates discarded and acknowledged. -/
  | returnFrame (lanes : FrameLanes)
  /-- RETURN_RESEND (R211): An unacknowledged return packet is sent again after 4 return frames. -/
  | returnResend
  /-- RETURN_LINK_TIMEOUT (R212): No valid return frame reaches the lamp for 1 µs. -/
  | returnLinkTimeout
  /-- RETRAIN (R213): A write of TTH_CTRL.RETRAIN starts Tether training. -/
  | retrain
  /-- TRAINING_PHASE_DONE (R213): A training phase ends, bad lanes are replaced, and training proceeds, repeats or gives up. -/
  | trainingPhaseDone (bad : BitVec 34) (margins : List (Nat × Nat))
  /-- FILTER_OUTPUT (R217): The filter chain produces an IQ output and a trace value from its support. `codes` are the input samples of the output's support, oldest first. -/
  | filterOutput (n : Fin 2) (codes : List (BitVec 12))
  /-- LENS_FRAME (R240): A windowed frame is transformed into a spectrum and delivered to its consumers. -/
  | lensFrame (n : Fin 2)
  /-- MAX_EXP_CLEAR (R256): A write of LNS_n_MAX_EXP.CLEAR sets E to 0. -/
  | maxExpClear (n : Fin 2)
  /-- SECTOR_EVENT (R268): A source event enters a program's reorder buffer, or is dropped when the buffer is full. -/
  | sectorEvent
  /-- SECTOR_LABEL (R266): When every source is known for a label, each program is stepped and its candidates are combined. -/
  | sectorLabel (label : BitVec 64)
  /-- STEP_TIMEOUT (R266): A step reaches MAX samples after its entry; the program returns to step 0, completing with source 37 if TIMEOUT_FIRE is set. -/
  | stepTimeout (p : Fin 4)
  /-- AUTO_TRIGGER (R272): No trigger comes within AUTO samples of h_end, and a forced candidate arises. -/
  | autoTrigger
  /-- SEGMENT_END (R279): A segment completes; in single-pass mode the last slot disarms the unit. -/
  | segmentEnd
  /-- XTRIG_EDGE (R285): A falling XTRIG input edge gives a source 34 event at τ + 320. `tau` is the pipeline time at which the pin first reads low. -/
  | xtrigEdge (tau : BitVec 64)
  /-- XTRIG_PULSE_START (R285): τ reaches the pulse start, or the decision comes late, and XTRIG is pulled low. -/
  | xtrigPulseStart (label : BitVec 64)
  /-- XTRIG_PULSE_END (R285): The XTRIG pulse width ends and the pin is released. -/
  | xtrigPulseEnd
  /-- TRIG_IN_EDGE (R290): An edge on TRIG_IN or REFIN is stamped to 1/1,024 tick and used as a source event, a start or a stop. `stop` is the sample count of the stopping SCLK edge and `code` the stages passed. -/
  | trigInEdge (c : Fin 3) (rising : Bool) (stop code : Nat)
  /-- COARSE_OVERFLOW (R296): The coarse count reaches 2^32 and the measurement ends with OVF. -/
  | coarseOverflow
  /-- GATE_OPEN (R297): IVU_GATE becomes active at an SCLK edge, opening a gate. -/
  | gateOpen (label : BitVec 64)
  /-- GATE_CLOSE (R296): The gate becomes inactive and an open measurement ends with GATE_END. -/
  | gateClose (label : BitVec 64)
  /-- TWO_PERIOD_CALIBRATION (R292): A relief interpolator's calibration cycle ends and passes or fails. The four codes of each set. -/
  | twoPeriodCalibration (c : Fin 3) (one two : List Nat)
  /-- CODE_DENSITY_TABLE (R293): A code-density table completes after 2^20 hits; READY may be set. -/
  | codeDensityTable (c : Fin 3) (hits : List Nat)
  /-- ROLE_CHANGE (R291): At a free SCLK cycle the two interpolators of a channel change roles. -/
  | roleChange (c : Fin 3)
  /-- GLOW_UPDATE (R307): A spectrum adds one hit to a cell of each stored column. -/
  | glowUpdate (n : Fin 2)
  /-- SNAPSHOT_COMPLETE (R315): A snapshot is stored, NEWEST changes, the dirty map updates and a record may be emitted. -/
  | snapshotComplete (n : Fin 2)
  /-- AMC_APPLY (R341): A write of AMC_CFG.APPLY populates and trains the memory, or changes its rate. `data` is the write to AMC_CFG; `dimms` is what the AMC finds on its channels. -/
  | amcApply (data : BitVec 32) (dimms : List Dimm)
  /-- INITIAL_TRAINING_DONE (R341): Initial training ends and AMC_READY is raised. -/
  | initialTrainingDone
  /-- DIMM_TEMP_CHECK (R341): A 100 ms DIMM temperature read finds a drift of more than 10 °C and requests a retrain. DIMM temperatures in °C, by channel. -/
  | dimmTempCheck (temps : List (Fin 8 × Int))
  /-- TEMP_RETRAIN (R341): The capture FIFO falls to 1 MiB or 1 s passes, and a full retrain starts. -/
  | tempRetrain
  /-- FULL_RETRAIN_DONE (R341): A full retrain completes and traffic resumes. -/
  | fullRetrainDone
  /-- ALERT_N (R343): A command/address parity alert stops the channel and replays its retry buffer. -/
  | alertN (c : Fin 8)
  /-- CORRECTABLE_ERROR (R344): A correctable error is corrected in the data returned and counted. -/
  | correctableError (c : Fin 8)
  /-- UNCORRECTABLE_ERROR (R344): An uncorrectable error is counted and marks the data read with MEMERR, GAP, BAD or poison. -/
  | uncorrectableError (c : Fin 8) (reader : UeReader)
  /-- SLOT_FRAME (R330): A 1 µs slot frame of a DDR5 channel starts with its reserved and free slots. -/
  | slotFrame (c : Fin 8)
  /-- CAPTURE_FIFO_INTAKE (R339): A raw lamp block or IQ group enters the capture FIFO, or is dropped when it does not fit. -/
  | captureFifoIntake
  /-- FIFO_INTAKE_RESUME (R339): 1 MiB is free and intake resumes at the next lamp block or IQ group. -/
  | fifoIntakeResume
  /-- CAPTURE_WRITE (R334): The capture writer writes data and tags to a ring chunk in whole transactions. -/
  | captureWrite
  /-- SELF_REFRESH_ENTER (R345): After 10 µs of idle conditions all channels enter self-refresh. -/
  | selfRefreshEnter
  /-- SELF_REFRESH_EXIT (R345): A request, or a fall of the panel tolerance, starts the exit from self-refresh. -/
  | selfRefreshExit
  /-- SELF_REFRESH_EXIT_DONE (R345): The exit and full retrain end and waiting requests proceed. -/
  | selfRefreshExitDone
  /-- BAR5_ACCESS (R347): A BAR5 access reads or writes acquisition memory through free slots. With `data` it is a write of those bytes, else a read of `len` bytes. -/
  | bar5Access (offset : BitVec 28) (len : Nat) (data : Option (List (BitVec 8)))
  /-- FIFO_PEAK_CLEAR (R349): A write of AMC_FIFO.CLEAR sets PEAK to LEVEL. -/
  | fifoPeakClear
  /-- LINK_UP (R354): The PCIe link reaches L0 and the link limit is computed. -/
  | linkUp (rate : LinkRate) (width : LinkWidth)
  /-- HOT_RESET (R421): A PCIe hot reset resets the PCIe core, HST, DMA and STR, and the link retrains. -/
  | hotReset
  /-- DMA_START (R356): A write of DMA_n_CTRL.START queues a descriptor, or is discarded when the queue is full. `data` is the write; its START bit counts as 1. -/
  | dmaStart (c : Fin 32) (data : BitVec 32)
  /-- DESCRIPTOR_FINISH (R359): A descriptor finishes with a result code and DONE increments. `code` is what the bus, the memory or a power-down made of the active descriptor, `moved` the bytes moved when that is no success, `data` what a host source delivered. -/
  | descriptorFinish (c : Fin 32) (code : BitVec 4) (moved : Nat) (data : List (BitVec 8))
  /-- DMA_RESUME (R361): A write of CTRL.RESUME ends a power pause and the channel continues. `data` is the write; its RESUME bit counts as 1. -/
  | dmaResume (c : Fin 32) (data : BitVec 32)
  /-- DMA_FLUSH (R387): A write of CTRL.FLUSH discards the queued descriptors. `data` is the write; its FLUSH bit counts as 1. -/
  | dmaFlush (c : Fin 32) (data : BitVec 32)
  /-- DMA_STOP_FORCED (R361): A channel has not stopped 100 µs after the request; the stop is forced with PWR_FORCED. `moved` bytes were acknowledged; `data` is what a host source had delivered. -/
  | dmaStopForced (c : Fin 32) (moved : Nat) (data : List (BitVec 8))
  /-- RECORD_RELEASE (R375): After its hold and release point a record is written to its destination, or dropped. -/
  | recordRelease (k : Fin 64)
  /-- PRODUCER_UPDATE (R377): The producer count is written to the host, and a notification may follow. -/
  | producerUpdate (k : Fin 64)
  /-- ADMIT (R373): A write of STR_s_CTRL.ADMIT tests the stream and reserves its rates and staging. -/
  | streamAdmit (k : Fin 64)
  /-- STREAM_RELEASE (R366): A write of STR_s_CTRL.RELEASE frees an admitted stream's reservations. -/
  | streamRelease (k : Fin 64)
  /-- CONSUMER_WRITE (R376): A write of the consumer count frees ring space, or is discarded with CONS_ERR. -/
  | consumerWrite (k : Fin 64) (count : BitVec 64)
  /-- STREAM_CFG_WRITE (R385): A stream configuration write while the stream is not FREE is discarded and sets CFG_BUSY. A 32-bit register takes the low word. -/
  | streamCfgWrite (k : Fin 64) (reg : StrReg) (data : BitVec 64)
  /-- NVQ_CFG_WRITE (R386): A queue-pair register write is discarded while a stream using the pair is admitted. A 32-bit register takes the low word. -/
  | nvqCfgWrite (q : Fin 16) (reg : NvqReg) (data : BitVec 64)
  /-- NVQ_KICK (R378): A write to STR_NVQ_KICK makes the engine read the completion queues now. -/
  | nvqKick
  /-- COMPLETION_POLL (R378): Every 1 µs or 4 µs the engine reads the NVMe completion queues. -/
  | completionPoll
  /-- NVME_COMPLETION (R381): A completion entry is checked and its head returned; an error status is counted. -/
  | nvmeCompletion (q : Fin 16) (cid : BitVec 16) (status : BitVec 15)
  /-- NVME_TIMEOUT (R381): A command is outstanding beyond TIMEOUT_MS; the pair fails and the stream stops. -/
  | nvmeTimeout (q : Fin 16)
  /-- STRIPE_WRITE (R380): A full stripe is written as NVMe Write commands queued to the drive. -/
  | stripeWrite (k : Fin 64)
  /-- STRIPE_PARTIAL_TIMEOUT (R380): A stripe partly filled for 100 µs is written up to its last whole LBA. -/
  | stripePartialTimeout (k : Fin 64)
  /-- BAR4_READ (R380): A drive reads staging through BAR4, freeing the command's bytes when all are read. -/
  | bar4Read (what : Bar4Read)
  /-- TAGS_PEAK_CLEAR (R384): A write of HST_TAGS.CLEAR sets PEAK to INUSE. -/
  | tagsPeakClear
  /-- D3HOT (R434): The host writes D3hot and SLEEP or STANDBY is requested. `pmeEn` is PME_En in configuration space. -/
  | d3hot (pmeEn : Bool)
  /-- PANEL_ENABLE (R391): A write of PNL_CTRL.EN = 1 starts the panel link. `data` is the write to PNL_CTRL; its EN bit counts as 1. -/
  | panelEnable (data : BitVec 32)
  /-- PANEL_DISABLE (R391): A write of EN = 0 stops the engine at the next tile boundary. `data` is the write to PNL_CTRL; its EN bit counts as 0. -/
  | panelDisable (data : BitVec 32)
  /-- PANEL_LINK_UP (R391): After 100 µs of LP-11 and tear-on the link is up, with every tile owed. -/
  | panelLinkUp
  /-- PANEL_CFG_WRITE (R391): A write to PNL_LINK or PNL_PANEL while the link is not off is discarded and sets CFG_BUSY. -/
  | panelCfgWrite (reg : PnlReg) (data : BitVec 32)
  /-- FULL (R395): A write of PNL_CTRL.FULL owes every tile. `data` is the write to PNL_CTRL; its FULL bit counts as 1. -/
  | full (data : BitVec 32)
  /-- DCS_SEND (R392): A DCS or generic command is sent at the next tile boundary, or is discarded with DCS_DROP. `data` is the write to PNL_DCS_CTRL; its SEND bit counts as 1. -/
  | dcsSend (data : BitVec 32)
  /-- TE_EDGE (R393): A TE rising edge starts a panel frame. `us` is the time since the last frame start. -/
  | teEdge (us : BitVec 20)
  /-- FRAME_TIMER (R393): With TE_EN = 0 the internal timer starts a panel frame. `us` is the time since the last frame start, as the timer counts it. -/
  | frameTimer (us : BitVec 20)
  /-- TE_LOST (R393): 100 ms without a TE edge clears TE_OK and raises PNL_TE_LOST. -/
  | teLost
  /-- COMMIT_GO (R394): A write of PNL_COMMIT.GO makes the shadows pending. -/
  | commitGo
  /-- COMMIT_HOST (R394): HOST with GO requests one push of the host region. -/
  | commitHost
  /-- HOST_ROW_READ (R397): A row of the host region is read; an error ends the host region with HOST_ERR. The bytes of the row; none for an error or poisoned data. -/
  | hostRowRead (data : Option (List (BitVec 8)))
  /-- PUSH_DONE (R396): The last tile of a push is sent. -/
  | pushDone
  /-- CONVERSION_DONE (R405): A Gauge conversion completes and updates the accumulators, extremes and alarms. -/
  | conversionDone (code : BitVec 12)
  /-- URGENT_REQUEST (R404): A GGE_REQ write queues an urgent conversion, or is dropped when the queue is full. -/
  | urgentRequest (input : Fin 32)
  /-- SNAP_LATCH (R406): A GGE_SNAP write latches an input's accumulators between conversions. -/
  | snapLatch (input : Fin 32)
  /-- SNAP_CLEAR (R406): CLEAR with the latch clears the input's accumulators in the same gap. -/
  | snapClear (input : Fin 32)
  /-- TEST_CTRL_WRITE (R408): A GGE_TEST_CTRL write clears the test result and drives the test converter. -/
  | testCtrlWrite (data : BitVec 32)
  /-- OPERATING_SECOND (R411): An operating second ends: the histograms increment, the seconds count and a periodic commit may start. -/
  | operatingSecond
  /-- LOG_COMMIT (R412): A write of LOG_CTRL.COMMIT starts a commit, unless the last was under 10 s earlier. -/
  | logCommit
  /-- PWR_WARN_FALL (R436): PWR_WARN_N falls: a Logbook commit starts and PWR_WARN is raised. -/
  | pwrWarnFall
  /-- SLOT_WRITE_DONE (R413): A Logbook flash slot write completes and is verified. `ok` says that the slot reads back as it was written. -/
  | slotWriteDone (ok : Bool)
  /-- ERASE_SECTOR_DONE (R413): A background region erase finishes one sector. -/
  | eraseSectorDone
  /-- LOGBOOK_LOAD_DONE (R414): The power-up load of the newest valid image ends and LOG_LOADED is raised. `answers` says that a flash answers. -/
  | logbookLoadDone (answers : Bool)
  /-- CURSOR_WRITE (R415): A write of LOG_CURSOR selects an image and starts its copy from flash. -/
  | cursorWrite (age : BitVec 8)
  /-- WINDOW_COPY_DONE (R415): The window copy ends and LOG_WIN is raised. -/
  | windowCopyDone
  /-- LOG_CLEAR (R416): A write of LOG_CTRL.CLEAR starts the check of a signed clear command. -/
  | logClear
  /-- CLEAR_CHECK_DONE (R416): The check ends: the scope is cleared and committed, or the result code is set. -/
  | clearCheckDone
  /-- IDENTITY_READ (R442): SMBus command 00h returns the identity block. -/
  | identityRead
  /-- TEMPERATURE_READ (R442): SMBus command 10h returns the highest junction temperature. -/
  | temperatureRead
  /-- STATE_READ (R442): SMBus command 11h returns the power state, FAULT_N and Fog causes. -/
  | stateRead
  /-- CAUSE_READ (R442): SMBus command 12h returns RST_CAUSE. -/
  | causeRead
  /-- SMBUS_CURSOR_SET (R415): SMBus command 40h sets the SMBus Logbook cursor. -/
  | smbusCursorSet (word : BitVec 16)
  /-- SMBUS_BLOCK_READ (R415): SMBus command 41h reads 32 bytes at the cursor and advances it. -/
  | smbusBlockRead
  /-- SEQ_LOW_READ (R415): SMBus command 42h returns LOG_SEQ [15:0]. -/
  | seqLowRead
  /-- SEQ_HIGH_READ (R415): SMBus command 43h returns LOG_SEQ [31:16]. -/
  | seqHighRead
  /-- POWER_ON_RESET (R421): The supplies enter range or a supply drops below its threshold, and everything is reset. -/
  | powerOnReset
  /-- RESET_N (R421): RESET_N low for at least 1 µs resets its scope. -/
  | resetN
  /-- RESET_N_RISE (R424): RESET_N rises; the straps are sampled and the release begins. `boot` and `clk` are the levels at the strap pins. -/
  | resetNRise (boot clk : BitVec 2)
  /-- PERST_N (R421): PERST_N low resets the tower die outside the always-on island. -/
  | perstN
  /-- PERST_N_RISE (R426): PERST_N rises and the PCIe release and image load steps run. -/
  | perstNRise
  /-- RELEASE_STEP_DONE (R425): A release step's prerequisites are met and its action runs. `boot` and `clk` are the levels at the strap pins (step 1); `repairs` counts the soft repairs of the boot test and `unrepaired` is the BAR2 offset of a row it could not repair (step 5). -/
  | releaseStepDone (step : ReleaseStep) (boot clk : BitVec 2) (repairs : BitVec 16) (unrepaired : Option (BitVec 26))
  /-- THERMAL_TRIP (R435): A junction sensor trips at 110 °C, asserting the thermal-trip reset and Fog-signal mode. -/
  | thermalTrip (sensor : Fin 16)
  /-- THERMAL_CLEAR (R435): Every sensor reads below 100 °C and HOT clears. -/
  | thermalClear
  /-- RST_BLOCK_REQ (R427): A write of RST_BLOCK_REQ starts a per-block reset with quiesce. -/
  | rstBlockReq (data : BitVec 32)
  /-- BLOCK_IDLE (R427): The quiescing block goes idle and its reset is asserted. -/
  | blockIdle (block : Fin 13)
  /-- QUIESCE_TIMEOUT (R427): 100 µs without idle forces the reset. -/
  | quiesceTimeout (block : Fin 13)
  /-- BLOCK_RESET_ELAPSED (R427): 1 µs in reset elapses and release is requested. -/
  | blockResetElapsed (block : Fin 13)
  /-- BLOCK_CLOCK_GOOD (R427): The block's clock is good and it is released with its reset values. -/
  | blockClockGood (block : Fin 13)
  /-- BLOCK_CLOCK_TIMEOUT (R427): 1 ms without clock-good holds the block in HELD. -/
  | blockClockTimeout (block : Fin 13)
  /-- POWER_REQUEST (R430): A write of PWR_CTRL.GO requests a power state, or is refused. -/
  | powerRequest (data : BitVec 32)
  /-- POWER_TRANSITION_DONE (R431): The target power state is reached and PWR_DONE is raised. -/
  | powerTransitionDone
  /-- STANDBY_DRAIN_TIMEOUT (R431): 10 ms into entry to STANDBY, records still in staging are dropped. -/
  | standbyDrainTimeout
  /-- ACQUISITION_STOP (R432): Acquisition stops at lamp block S. -/
  | acquisitionStop (label : BitVec 64)
  /-- ACQUISITION_RESUME (R432): Acquisition resumes at Q; the units restart and a pause marker is emitted. -/
  | acquisitionResume (label : BitVec 64)
  /-- WAKE (R433): A wake source brings the part out of SLEEP into STANDBY. -/
  | wake (source : WakeSource)
  /-- PROVISION (R450): The PROVISION command generates the identity seed and moves the part to PROVISIONED. -/
  | provision (how : Transit)
  /-- PROGRAM_SLOT (R450): The PROGRAM_SLOT command burns an owner key hash into an empty slot. `ok` says that the burn passes verification. -/
  | programSlot (ok : Bool)
  /-- SECURE (R450): The SECURE command moves the part to SECURED. -/
  | secure (how : Transit)
  /-- REVOKE_SLOT (R450): The REVOKE_SLOT command burns a slot's revoke bit. -/
  | revokeSlot (ok : Bool)
  /-- RETURN (R450): The RETURN command erases the secrets and moves the part to RETURNED. -/
  | returnLcs (how : Transit)
  /-- SCRAP (R450): The SCRAP command erases the secrets and moves the part to SCRAPPED. -/
  | scrap (how : Transit)
  /-- RAISE_SVN (R450): The RAISE_SVN command burns the security version counter upward. -/
  | raiseSvn (ok : Bool)
  /-- TRANSITION_RESUME (R452): An interrupted transition found pending at reset is completed and LCS_RESUMED is raised. -/
  | transitionResume
  /-- TRNG_FAIL (R453): A TRNG health test fails and nonces read zero until power-on reset. -/
  | trngFail
  /-- ID_READY (R454): The identity key pair is derived and ID_READY is set. -/
  | idReady
  /-- EXTEND (R460): A write of LCS_EXT_CTRL.EXTEND hashes the data into M3. -/
  | extend
  /-- ATTEST (R461): A write of LCS_ATT_CTRL.GO starts an attestation report, or fails without an identity. -/
  | attest
  /-- REPORT_BUILT (R461): The signed report is in the buffer and LCS_ATTEST_DONE is raised. -/
  | reportBuilt
  /-- BYPASS (R462): TAP instruction BYPASS. -/
  | bypass
  /-- IDCODE (R462): TAP instruction IDCODE. -/
  | idcode
  /-- SAMPLE_PRELOAD (R462): TAP instruction SAMPLE/PRELOAD. -/
  | samplePreload
  /-- EXTEST (R462): TAP instruction EXTEST, or BYPASS when not available. -/
  | extest
  /-- EXTEST_PULSE (R462): TAP instruction EXTEST_PULSE. -/
  | extestPulse
  /-- EXTEST_TRAIN (R462): TAP instruction EXTEST_TRAIN. -/
  | extestTrain
  /-- CLAMP (R462): TAP instruction CLAMP. -/
  | clamp
  /-- HIGHZ (R462): TAP instruction HIGHZ. -/
  | highz
  /-- INTSCAN (R462): Private TAP instruction INTSCAN. -/
  | intscan
  /-- REPAIR (R468): Private TAP instruction REPAIR burns soft repairs into fuses. -/
  | repair
  /-- BST_GO (R465): A write of BST_RUN.GO starts the selected self-tests, or is refused. -/
  | bstGo (data : BitVec 32)
  /-- BST_TEST_END (R466): A self-test ends and reports PASS, FAIL or INCOMPLETE. -/
  | bstTestEnd (test : Fin 5) (end_ : TestEnd)
  /-- BST_ABORT (R466): A write of ABORT ends the run with INCOMPLETE for unfinished tests. -/
  | bstAbort (data : BitVec 32)
  /-- FUSE_SRAM (R468): A write of BST_REPAIR.FUSE_SRAM burns the soft SRAM repairs. -/
  | fuseSram (data : BitVec 32)
  /-- FUSE_TETHER (R468): A write of BST_REPAIR.FUSE_TETHER burns the soft lane marks. -/
  | fuseTether (data : BitVec 32)
  /-- REPAIR_BURN_DONE (R468): A fuse burn ends and BST_REPAIR_DONE is raised. -/
  | repairBurnDone (ok : Bool)
  /-- PATROL_SLICE (R469): Every PERIOD × 100 µs the patrol starts saving, testing and restoring the next SRAM slice. -/
  | patrolSlice
  /-- PATROL_SLICE_DONE (R470): A patrol slice is restored and its result recorded, with repair on failure. -/
  | patrolSliceDone (complete ok : Bool) (repairs : BitVec 16) (unrepaired : Option (BitVec 26))
  /-- SW_EVENT (R479): A write of DEV_SWEVT.RAISE raises the software events. -/
  | swEvent (mask : BitVec 4)
  /-- GPIO_EDGE (R477): A rising edge on an enabled GPIO raises DEV_GPIO_EDGE. -/
  | gpioEdge (pin : Fin 16)
  /-- EVENT_OCCURRENCE (R481): An event occurrence reaches EVT, which counts it, sets its pending bit and routes it. -/
  | eventOccurrence (which : Fin 314)
  /-- PEND_CLEAR (R484): A W1C write to EVT_PEND clears pending bits and may release FAULT_N. -/
  | pendClear (w : Fin 10) (data : BitVec 32)
  /-- CLR_CNT (R482): A write of EVT_CTRL.CLR_CNT clears every counter and saturation bit. -/
  | clrCnt
  /-- CNT_CLEAR (R482): A write of EVT_CNT_i.CLEAR clears one counter and its saturation bit. -/
  | cntClear (which : Fin 314)
  /-- MIN_GAP_EXPIRY (R483): A vector's minimum gap ends and its deferred message is sent. -/
  | minGapExpiry (v : Fin 64)
  /-- MSIX_UNMASK (R483): A vector is unmasked and its message is sent if its PBA bit is still set. -/
  | msixUnmask (v : Fin 64)
  /-- MSIX_ENABLE (R483): MSI-X Enable goes from 0 to 1 and vectors with routed pending bits count as triggered. The write of Message Control: MSI-X Enable and Function Mask. -/
  | msixEnable (enable funcMask : Bool)
  /-- GPIO_PULSE_END (R485): A 200 ns EVT pulse on a GPIO pin ends. -/
  | gpioPulseEnd (pin : Fin 16)
  /-- REGISTER_READ (R7): A BAR0 register read returns its value; a read of the low word of a 64-bit pair latches the high word, and a read of a stopped or misaligned block returns FFFF_FFFFh or UR and sets ACC_NOCLK or ACC_UR. -/
  | registerRead (addr : BitVec 26) (len : Nat)
  /-- BAR2_WRITE (R24): A host or peer write through BAR2 stores into on-chip SRAM where R24 permits it (Beacon X/Y while halted, DMA descriptors, NVMe completion queues written by drives) and is discarded elsewhere. -/
  | bar2Write (by_ : Bar2Writer) (offset : BitVec 26) (data : List (BitVec 8))
  /-- RETURN_TO_D0 (R434): The host writes PowerState D0 after D3hot; the configuration is kept and ACTIVE is requested. -/
  | returnToD0
  /-- PWR_WARN_RISE (R436): PWR_WARN_N rises again and PWR_STATUS.WARN clears. -/
  | pwrWarnRise
deriving DecidableEq, Repr

end Sys2Proof
end

