-- ==== Sys2Proof/Decode.lean ====
section
/-! DEFINITION. The rows of the opcode table that give bits: none does, so no word spells a command. -/

namespace Sys2Proof

/-- The command a word of the table's bits spells: no row of the table gives bits. -/
def decodeTableWord (_nbits _w : Nat) : Option Instr := none

end Sys2Proof
end

