-- ==== Sys2Proof/Config.lean ====
section
/-! DEFINITION. What the spec leaves to the part or does not give: free values, the data-file tables of R505 and the
cryptographic primitives whose definition is another document's.  Every constant here is opaque: nothing in Lean can
evaluate it, and a claim holds whatever it is. -/

namespace Sys2Proof.Config

/-- A value the spec leaves open: the `n`-th the machine meets, `w` bits wide (log entry 2). -/
opaque freeValue (w n : Nat) : BitVec w

/-- How the entry of phase index `i` in the NCO table of R505 differs in its last bit from cosine and sine rounded to nearest
(R218): 0, 1, 2 for −1, 0, 1 (log entry 3). -/
opaque ncoUlp (i : Nat) : Fin 3 × Fin 3

/-- The decimated output of R221 for exponent `k`: the mixed samples of its support, oldest first, give (I, Q) before
the gain of R223.  The coefficient sets and roundings are in the data file of R505 (log entry 3). -/
opaque decimate (k : Nat) (support : List (Int × Int)) : Int × Int

/-- How a Kaiser value of R505 differs in its last bit from the formula of R241 rounded to nearest: size `n`, beta, index
(log entry 3). -/
opaque kaiserUlp (n beta i : Nat) : Fin 3

/-- Fraction bits of the twiddle table of R505 beyond 16 (R244, log entry 3). -/
opaque twiddleBits : Nat

/-- How entry `i` of the twiddle table for blocks of size `n` differs in its last bit from exp(−j 2π i / n) rounded to nearest:
real part, imaginary part (R244, R505, log entry 3). -/
opaque twiddleUlp (n i : Nat) : Fin 3 × Fin 3

/-- The byte at offset `off` of an SRAM region whose layout the spec does not give, as BAR2 shows it (R24): it depends on what
the region holds and on nothing else, so two reads of unchanged contents agree (log entry 16). -/
opaque bar2Byte {α : Type} (off : Nat) (contents : α) : BitVec 8

/-- Does the ML-DSA-44 signature verify: public key, message, signature (R456, log entry 4)? -/
opaque mldsaVerify (key message signature : List Byte) : Bool

/-- The ML-DSA-44 signature of a message under the identity derived from a seed (R454, R461, log entry 4). -/
opaque mldsaSign (seed : BitVec 256) (message : List Byte) : List Byte

/-- The public key of the identity derived from a seed (R454, log entry 4). -/
opaque mldsaPublic (seed : BitVec 256) : List Byte

/-- The factory value of g of R292 in OTP, by interpolator, as the code difference 4 × (c2 − c1) it stands for. -/
opaque ivuFactory (interpolator : Nat) : Nat

/-- Measurement M2 (R460): SHA3-256 of the state byte, the fuse revision, the SVN counter, the revoke bits, the vendor hash
and both slot hashes.  The spec does not give the bytes that the counter and the revoke bits take in it (log entry 24). -/
opaque measureM2 (state fuseRev svn revoked : Nat) (hashes : List (BitVec 256)) : BitVec 256

/-- `BST_t_EXPECTED` (R473): patterns due in self-test `t`, a ROM value the spec does not give (log entry 26). -/
opaque bstExpected (t : Nat) : BitVec 32

end Sys2Proof.Config
end

