-- ==== Sys2Proof/Machine/RegMap.lean ====
section
/-! DEFINITION. The BAR0 registers of the spec: for every register its address, its fields with their places and access
types, and its reset value, taken from the register tables (R37, R44, R55, R89, R90, R142, R163, R164, R183, R184, R201,
R215, R234, R235, R255, R256, R286, R287, R303, R304, R323, R324, R348, R349, R383 to R387, R400, R417 to R419, R443,
R444, R472, R473, R477, R482) and the MSI-X table and PBA of R351.  A name is the spec's; an index letter of the name
(`n`, `u`, `s`, `q`, `c`, `i`, `v`, `w`, `m`, `r`, `t`, `p`) is an argument. -/

namespace Sys2Proof.Machine

/-- One row of the register map.  A register with index `i` (and `j`) lies at `base + i * step1 + j * step2`,
`i < count1`, `j < count2`.  The masks say which bits take which access (R5). -/
structure RegRow where
  base : Nat
  count1 : Nat
  step1 : Nat
  count2 : Nat
  step2 : Nat
  reset : BitVec 32
  rw : BitVec 32
  w1c : BitVec 32
  w1s : BitVec 32
  wo : BitVec 32
  ro : BitVec 32
deriving DecidableEq, Repr

/-- Register rows, part 0 (in the order of their addresses). -/
def regRows0 : List RegRow := [
  ⟨0x0, 1, 0x0, 1, 0x0, 0x32021f9d, 0x0, 0x0, 0x0, 0x0, 0xffffffff⟩,
  ⟨0x4, 1, 0x0, 1, 0x0, 0x211, 0x0, 0x0, 0x0, 0x0, 0xffff⟩,
  ⟨0x8, 1, 0x0, 1, 0x0, 0x0, 0x0, 0x0, 0x0, 0x0, 0xffffffff⟩,
  ⟨0xc, 1, 0x0, 1, 0x0, 0x0, 0x0, 0x0, 0x0, 0x0, 0xffffffff⟩,
  ⟨0x10, 1, 0x0, 1, 0x0, 0x132025a7, 0x0, 0x0, 0x0, 0x0, 0xffffffff⟩,
  ⟨0x14, 1, 0x0, 1, 0x0, 0x13a1010, 0x0, 0x0, 0x0, 0x0, 0x1ffffff⟩,
  ⟨0x18, 1, 0x0, 1, 0x0, 0x0, 0xffffffff, 0x0, 0x0, 0x0, 0x0⟩,
  ⟨0x1c, 1, 0x0, 1, 0x0, 0x0, 0x0, 0x0, 0x0, 0xf, 0x0⟩,
  ⟨0x20, 1, 0x0, 1, 0x0, 0x0, 0xffff, 0x0, 0x0, 0x0, 0x0⟩,
  ⟨0x24, 1, 0x0, 1, 0x0, 0x0, 0xffff, 0x0, 0x0, 0x0, 0x0⟩,
  ⟨0x28, 1, 0x0, 1, 0x0, 0x0, 0x0, 0x0, 0x0, 0x0, 0xffff⟩,
  ⟨0x2c, 1, 0x0, 1, 0x0, 0x0, 0xffff, 0x0, 0x0, 0x0, 0x0⟩,
  ⟨0x30, 1, 0x0, 1, 0x0, 0x0, 0x0, 0xffff, 0x0, 0x0, 0x0⟩,
  ⟨0x100000, 1, 0x0, 1, 0x0, 0x1, 0x0, 0x1ff, 0x0, 0x0, 0x0⟩,
  ⟨0x100004, 1, 0x0, 1, 0x0, 0x0, 0x0, 0x0, 0x1fff, 0x0, 0x0⟩,
  ⟨0x100008, 1, 0x0, 1, 0x0, 0x0, 0x0, 0x1fff, 0x0, 0x0, 0x0⟩,
  ⟨0x10000c, 1, 0x0, 1, 0x0, 0x0, 0x0, 0x1fff, 0x0, 0x0, 0x0⟩,
  ⟨0x100010, 1, 0x0, 1, 0x0, 0x0, 0x0, 0x0, 0x0, 0x0, 0x1fff⟩,
  ⟨0x100014, 1, 0x0, 1, 0x0, 0x0, 0x0, 0x0, 0x0, 0x0, 0xff⟩,
  ⟨0x100100, 1, 0x0, 1, 0x0, 0x0, 0x2f, 0x0, 0x0, 0x10, 0x0⟩,
  ⟨0x100108, 1, 0x0, 1, 0x0, 0x0, 0xffffffff, 0x0, 0x0, 0x0, 0x0⟩,
  ⟨0x10010c, 1, 0x0, 1, 0x0, 0x0, 0xffffffff, 0x0, 0x0, 0x0, 0x0⟩,
  ⟨0x100110, 1, 0x0, 1, 0x0, 0x0, 0x0, 0x0, 0x0, 0x0, 0x3ff⟩,
  ⟨0x100114, 1, 0x0, 1, 0x0, 0x10000, 0x1ffff, 0x0, 0x0, 0x0, 0x0⟩,
  ⟨0x100118, 1, 0x0, 1, 0x0, 0x0, 0x0, 0x3ffff, 0x0, 0x0, 0x0⟩,
  ⟨0x100120, 1, 0x0, 1, 0x0, 0x0, 0x0, 0x0, 0x0, 0x0, 0x1f⟩,
  ⟨0x100124, 1, 0x0, 1, 0x0, 0x0, 0x0, 0x0, 0x0, 0x0, 0xffffffff⟩,
  ⟨0x100128, 1, 0x0, 1, 0x0, 0x0, 0x0, 0x2, 0x0, 0x0, 0xf01⟩,
  ⟨0x100130, 1, 0x0, 1, 0x0, 0x0, 0x0, 0x0, 0x0, 0x0, 0xffffffff⟩,
  ⟨0x100134, 1, 0x0, 1, 0x0, 0x0, 0x0, 0x0, 0x0, 0x0, 0xffffffff⟩,
  ⟨0x100138, 1, 0x0, 1, 0x0, 0x0, 0x0, 0x0, 0x0, 0x0, 0xffffffff⟩,
  ⟨0x10013c, 1, 0x0, 1, 0x0, 0x0, 0x0, 0x0, 0x0, 0x0, 0xffffffff⟩,
  ⟨0x200000, 1, 0x0, 1, 0x0, 0x200, 0x0, 0x0, 0x0, 0x0, 0x7ff⟩,
  ⟨0x200004, 1, 0x0, 1, 0x0, 0x0, 0x0, 0x200000, 0x0, 0x0, 0x1fffff⟩,
  ⟨0x200008, 1, 0x0, 1, 0x0, 0x0, 0xffffffff, 0x0, 0x0, 0x0, 0x0⟩,
  ⟨0x20000c, 1, 0x0, 1, 0x0, 0x0, 0x0, 0x0, 0x0, 0x0, 0xf⟩,
  ⟨0x200010, 1, 0x0, 1, 0x0, 0x0, 0x0, 0x0, 0x1, 0x0, 0x0⟩,
  ⟨0x200020, 1, 0x0, 1, 0x0, 0x0, 0x2, 0x0, 0x0, 0x1, 0x0⟩,
  ⟨0x200024, 1, 0x0, 1, 0x0, 0x1, 0x3ff, 0x0, 0x0, 0x0, 0x0⟩,
  ⟨0x200028, 1, 0x0, 1, 0x0, 0xa0, 0x7ff, 0x0, 0x0, 0x0, 0x0⟩,
  ⟨0x20002c, 1, 0x0, 1, 0x0, 0x0, 0xffffffff, 0x0, 0x0, 0x0, 0x0⟩,
  ⟨0x200030, 1, 0x0, 1, 0x0, 0x0, 0xffffffff, 0x0, 0x0, 0x0, 0x0⟩,
  ⟨0x200034, 1, 0x0, 1, 0x0, 0x40, 0x7f, 0x0, 0x0, 0x0, 0x0⟩,
  ⟨0x200038, 1, 0x0, 1, 0x0, 0x98d00000, 0xffffffff, 0x0, 0x0, 0x0, 0x0⟩,
  ⟨0x20003c, 1, 0x0, 1, 0x0, 0x71afd4, 0xffffffff, 0x0, 0x0, 0x0, 0x0⟩,
  ⟨0x200040, 1, 0x0, 1, 0x0, 0x0, 0x0, 0x0, 0x0, 0x0, 0xffff0007⟩,
  ⟨0x200048, 1, 0x0, 1, 0x0, 0x0, 0x0, 0x0, 0x0, 0x0, 0xffffffff⟩,
  ⟨0x20004c, 1, 0x0, 1, 0x0, 0x0, 0x0, 0x0, 0x0, 0x0, 0xffffffff⟩,
  ⟨0x200050, 1, 0x0, 1, 0x0, 0x0, 0x0, 0x0, 0x0, 0x0, 0x1ffffff⟩,
  ⟨0x200060, 1, 0x0, 1, 0x0, 0x0, 0xff, 0x0, 0x0, 0x0, 0x0⟩,
  ⟨0x200064, 1, 0x0, 1, 0x0, 0x0, 0xff, 0x0, 0x0, 0x0, 0x0⟩,
  ⟨0x200068, 1, 0x0, 1, 0x0, 0x0, 0xff, 0x0, 0x0, 0x0, 0x100⟩,
  ⟨0x300000, 1, 0x0, 1, 0x0, 0x0, 0x0, 0x0, 0x0, 0x0, 0x1f⟩,
  ⟨0x300004, 1, 0x0, 1, 0x0, 0x0, 0x0, 0x0, 0x0, 0x0, 0x1ff01ff⟩,
  ⟨0x300100, 2, 0x100, 1, 0x0, 0x0, 0x0, 0x380, 0x0, 0x0, 0x7f⟩,
  ⟨0x300104, 2, 0x100, 1, 0x0, 0x0, 0x0, 0x0, 0x0, 0x0, 0xffffffff⟩,
  ⟨0x300108, 2, 0x100, 1, 0x0, 0x0, 0x0, 0x0, 0x0, 0x0, 0xffffffff⟩,
  ⟨0x30010c, 2, 0x100, 1, 0x0, 0x0, 0x0, 0x0, 0x0, 0x0, 0xffffffff⟩,
  ⟨0x300110, 2, 0x100, 1, 0x0, 0x0, 0x0, 0x0, 0x0, 0x10000, 0xfff⟩,
  ⟨0x300114, 2, 0x100, 1, 0x0, 0x0, 0x0, 0x0, 0x0, 0x0, 0xffffffff⟩]

/-- Register rows, part 1 (in the order of their addresses). -/
def regRows1 : List RegRow := [
  ⟨0x300118, 2, 0x100, 1, 0x0, 0x0, 0x3, 0x0, 0x0, 0x0, 0x0⟩,
  ⟨0x30011c, 2, 0x100, 1, 0x0, 0x0, 0x0, 0x0, 0x0, 0x0, 0xff⟩,
  ⟨0x340000, 2, 0x40000, 1, 0x0, 0x1e, 0x0, 0x0, 0x0, 0x0, 0x1f⟩,
  ⟨0x340004, 2, 0x40000, 1, 0x0, 0x0, 0x0, 0x0, 0x0, 0x0, 0x1⟩,
  ⟨0x340008, 2, 0x40000, 1, 0x0, 0x3ff, 0x0, 0x0, 0x0, 0x0, 0x3ff⟩,
  ⟨0x34000c, 2, 0x40000, 1, 0x0, 0x3ff, 0x0, 0x0, 0x0, 0x0, 0x3ff⟩,
  ⟨0x340010, 2, 0x40000, 1, 0x0, 0x0, 0x0, 0x0, 0x0, 0x0, 0xffff⟩,
  ⟨0x400000, 1, 0x0, 1, 0x0, 0x0, 0x0, 0x0, 0x0, 0x0, 0xff1f⟩,
  ⟨0x400004, 1, 0x0, 1, 0x0, 0x0, 0x0, 0x0, 0x0, 0x0, 0xf3⟩,
  ⟨0x400100, 2, 0x100, 1, 0x0, 0x200, 0x0, 0xf800, 0x0, 0x0, 0x7ff⟩,
  ⟨0x400104, 2, 0x100, 1, 0x0, 0x0, 0x0, 0x0, 0x0, 0x0, 0xffffffff⟩,
  ⟨0x400108, 2, 0x100, 1, 0x0, 0x0, 0x0, 0x0, 0x0, 0x0, 0xffffffff⟩,
  ⟨0x40010c, 2, 0x100, 1, 0x0, 0x0, 0x0, 0x0, 0x0, 0x0, 0xffffffff⟩,
  ⟨0x400110, 2, 0x100, 1, 0x0, 0x0, 0x0, 0x0, 0x0, 0x0, 0xffffffff⟩,
  ⟨0x400114, 2, 0x100, 1, 0x0, 0x0, 0x0, 0x0, 0x0, 0x0, 0xffffffff⟩,
  ⟨0x400118, 2, 0x100, 1, 0x0, 0x3d09, 0x0, 0x0, 0x0, 0x0, 0xfffff⟩,
  ⟨0x40011c, 2, 0x100, 1, 0x0, 0x0, 0x0, 0x0, 0x0, 0x0, 0xffff03ff⟩,
  ⟨0x400120, 2, 0x100, 1, 0x0, 0x3020100, 0x0, 0x0, 0x0, 0x0, 0x1f1f1f1f⟩,
  ⟨0x400124, 2, 0x100, 1, 0x0, 0x7060504, 0x0, 0x0, 0x0, 0x0, 0x1f1f1f1f⟩,
  ⟨0x400128, 2, 0x100, 1, 0x0, 0xb0a0908, 0x0, 0x0, 0x0, 0x0, 0x1f1f1f1f⟩,
  ⟨0x40012c, 2, 0x100, 1, 0x0, 0xf0e0d0c, 0x0, 0x0, 0x0, 0x0, 0x1f1f1f1f⟩,
  ⟨0x400130, 2, 0x100, 1, 0x0, 0x0, 0xffffffff, 0x0, 0x0, 0x0, 0x0⟩,
  ⟨0x400134, 2, 0x100, 1, 0x0, 0x0, 0x0, 0x0, 0x0, 0x0, 0xffffffff⟩,
  ⟨0x400138, 2, 0x100, 1, 0x0, 0x0, 0x0, 0x0, 0x0, 0x0, 0xffffffff⟩,
  ⟨0x401000, 2, 0x200, 17, 0x10, 0x0, 0x0, 0x0, 0x0, 0x0, 0xffffffff⟩,
  ⟨0x401004, 2, 0x200, 17, 0x10, 0x0, 0x0, 0x0, 0x0, 0x0, 0xffffffff⟩,
  ⟨0x401008, 2, 0x200, 17, 0x10, 0x0, 0x0, 0x0, 0x0, 0x0, 0xffffffff⟩,
  ⟨0x440000, 1, 0x0, 1, 0x0, 0x0, 0x0, 0x0, 0x0, 0x0, 0x3⟩,
  ⟨0x440004, 1, 0x0, 1, 0x0, 0x0, 0x0, 0x0, 0x0, 0x0, 0x0⟩,
  ⟨0x440008, 1, 0x0, 1, 0x0, 0x303d09, 0x0, 0x0, 0x0, 0x0, 0x3fffff⟩,
  ⟨0x500000, 1, 0x0, 1, 0x0, 0x30, 0x0, 0x0, 0x0, 0x0, 0xff⟩,
  ⟨0x500004, 1, 0x0, 1, 0x0, 0x2, 0x2, 0x0, 0x0, 0x1, 0x0⟩,
  ⟨0x500008, 1, 0x0, 1, 0x0, 0x0, 0x0, 0x0, 0x0, 0x0, 0xffffffff⟩,
  ⟨0x50000c, 1, 0x0, 1, 0x0, 0x0, 0x0, 0x0, 0x0, 0x0, 0xf⟩,
  ⟨0x500010, 1, 0x0, 1, 0x0, 0x0, 0x0, 0x0, 0x0, 0x0, 0xffffffff⟩,
  ⟨0x500014, 1, 0x0, 1, 0x0, 0x0, 0x0, 0x0, 0x0, 0x0, 0x3⟩,
  ⟨0x500018, 1, 0x0, 1, 0x0, 0x0, 0x0, 0x0, 0x0, 0x0, 0x77⟩,
  ⟨0x500020, 1, 0x0, 1, 0x0, 0x0, 0x0, 0x0, 0x0, 0x0, 0xffffffff⟩,
  ⟨0x500024, 1, 0x0, 1, 0x0, 0x0, 0x0, 0x0, 0x0, 0x0, 0xffffffff⟩,
  ⟨0x500028, 1, 0x0, 1, 0x0, 0x0, 0x0, 0x0, 0x0, 0x0, 0xffffffff⟩,
  ⟨0x50002c, 1, 0x0, 1, 0x0, 0x0, 0x0, 0x0, 0x0, 0x0, 0xffffffff⟩,
  ⟨0x500030, 1, 0x0, 1, 0x0, 0x0, 0x3f, 0x0, 0x0, 0x0, 0x0⟩,
  ⟨0x500034, 1, 0x0, 1, 0x0, 0x0, 0x0, 0x0, 0x0, 0x0, 0xffffffff⟩,
  ⟨0x500038, 1, 0x0, 1, 0x0, 0x0, 0x0, 0x0, 0x0, 0x0, 0xff⟩,
  ⟨0x500040, 1, 0x0, 1, 0x0, 0x0, 0x0, 0x0, 0x0, 0x0, 0xffffffff⟩,
  ⟨0x500044, 1, 0x0, 1, 0x0, 0x0, 0x0, 0x0, 0x0, 0x0, 0xffffffff⟩,
  ⟨0x500048, 1, 0x0, 1, 0x0, 0x0, 0x0, 0x0, 0x0, 0x0, 0xffffffff⟩,
  ⟨0x50004c, 1, 0x0, 1, 0x0, 0x0, 0x0, 0x0, 0x0, 0x0, 0xffff⟩,
  ⟨0x600000, 2, 0x100, 1, 0x0, 0x0, 0x0, 0x700, 0x0, 0x0, 0xff⟩,
  ⟨0x600008, 2, 0x100, 1, 0x0, 0x0, 0x0, 0x0, 0x0, 0x0, 0xffffffff⟩,
  ⟨0x60000c, 2, 0x100, 1, 0x0, 0x0, 0x0, 0x0, 0x0, 0x0, 0xffffffff⟩,
  ⟨0x600010, 2, 0x100, 1, 0x0, 0x0, 0x0, 0x0, 0x0, 0x0, 0xffffffff⟩,
  ⟨0x600014, 2, 0x100, 1, 0x0, 0x0, 0x0, 0x0, 0x0, 0x0, 0xffffffff⟩,
  ⟨0x600018, 2, 0x100, 1, 0x0, 0x0, 0x0, 0x0, 0x0, 0x0, 0xffffffff⟩,
  ⟨0x60001c, 2, 0x100, 1, 0x0, 0x0, 0x0, 0x0, 0x0, 0x0, 0xffffffff⟩,
  ⟨0x600020, 2, 0x100, 1, 0x0, 0x0, 0x0, 0x0, 0x0, 0x0, 0xff⟩,
  ⟨0x600024, 2, 0x100, 1, 0x0, 0x0, 0x1, 0x0, 0x0, 0x0, 0x0⟩,
  ⟨0x600028, 2, 0x100, 1, 0x0, 0x0, 0x0, 0x0, 0x0, 0x0, 0xffffffff⟩,
  ⟨0x640000, 2, 0x40000, 1, 0x0, 0x0, 0x0, 0x0, 0x0, 0x0, 0xffffffff⟩,
  ⟨0x640004, 2, 0x40000, 1, 0x0, 0x0, 0x0, 0x0, 0x0, 0x0, 0xffff⟩]

/-- Register rows, part 2 (in the order of their addresses). -/
def regRows2 : List RegRow := [
  ⟨0x640008, 2, 0x40000, 1, 0x0, 0x0, 0x0, 0x0, 0x0, 0x0, 0xffff⟩,
  ⟨0x64000c, 2, 0x40000, 1, 0x0, 0x0, 0x0, 0x0, 0x0, 0x0, 0x1f⟩,
  ⟨0x640010, 2, 0x40000, 1, 0x0, 0x0, 0x0, 0x0, 0x0, 0x0, 0x1⟩,
  ⟨0x640014, 2, 0x40000, 1, 0x0, 0x0, 0x0, 0x0, 0x0, 0x0, 0x1ff⟩,
  ⟨0x640018, 2, 0x40000, 1, 0x0, 0xffffffff, 0x0, 0x0, 0x0, 0x0, 0xffffffff⟩,
  ⟨0x64001c, 2, 0x40000, 1, 0x0, 0x0, 0x0, 0x0, 0x0, 0x0, 0xffffffff⟩,
  ⟨0x640020, 2, 0x40000, 1, 0x0, 0x0, 0x0, 0x0, 0x0, 0x0, 0x7f⟩,
  ⟨0x700000, 2, 0x100, 1, 0x0, 0x0, 0x0, 0x60, 0x0, 0x0, 0x1f⟩,
  ⟨0x700008, 2, 0x100, 1, 0x0, 0x0, 0x0, 0x0, 0x0, 0x0, 0xffffffff⟩,
  ⟨0x70000c, 2, 0x100, 1, 0x0, 0x0, 0x0, 0x0, 0x0, 0x0, 0xffffffff⟩,
  ⟨0x700010, 2, 0x100, 1, 0x0, 0x0, 0x0, 0x0, 0x0, 0x0, 0xffffffff⟩,
  ⟨0x700014, 2, 0x100, 1, 0x0, 0x0, 0x0, 0x0, 0x0, 0x0, 0xffffffff⟩,
  ⟨0x700018, 2, 0x100, 1, 0x0, 0x0, 0x0, 0x0, 0x0, 0x0, 0xffffffff⟩,
  ⟨0x70001c, 2, 0x100, 1, 0x0, 0x0, 0x0, 0x0, 0x0, 0x0, 0xffffffff⟩,
  ⟨0x700020, 2, 0x100, 1, 0x0, 0x0, 0x0, 0x0, 0x0, 0x0, 0xff⟩,
  ⟨0x700024, 2, 0x100, 1, 0x0, 0x0, 0x0, 0x0, 0x0, 0x10000, 0x1f⟩,
  ⟨0x700028, 2, 0x100, 1, 0x0, 0x0, 0x0, 0x0, 0x0, 0x0, 0xffffffff⟩,
  ⟨0x740000, 2, 0x40000, 1, 0x0, 0x0, 0x0, 0x0, 0x0, 0x0, 0x1⟩,
  ⟨0x740004, 2, 0x40000, 1, 0x0, 0xa, 0x0, 0x0, 0x0, 0x0, 0x1f⟩,
  ⟨0x740008, 2, 0x40000, 1, 0x0, 0x1, 0x0, 0x0, 0x0, 0x0, 0x7⟩,
  ⟨0x74000c, 2, 0x40000, 1, 0x0, 0x900, 0x0, 0x0, 0x0, 0x0, 0xffff⟩,
  ⟨0x740010, 2, 0x40000, 1, 0x0, 0x1, 0x0, 0x0, 0x0, 0x0, 0x7⟩,
  ⟨0x740014, 2, 0x40000, 1, 0x0, 0x0, 0x0, 0x0, 0x0, 0x0, 0x7⟩,
  ⟨0x740018, 2, 0x40000, 1, 0x0, 0x1, 0x0, 0x0, 0x0, 0x0, 0x1ffff⟩,
  ⟨0x74001c, 2, 0x40000, 1, 0x0, 0x1fe00, 0x0, 0x0, 0x0, 0x0, 0x1ffff⟩,
  ⟨0x740020, 2, 0x40000, 1, 0x0, 0x1ff, 0x0, 0x0, 0x0, 0x0, 0x1ffff⟩,
  ⟨0x740024, 2, 0x40000, 1, 0x0, 0x0, 0x0, 0x0, 0x0, 0x0, 0x1⟩,
  ⟨0x800000, 1, 0x0, 1, 0x0, 0x0, 0x0, 0xf0, 0x0, 0x0, 0xf⟩,
  ⟨0x800004, 1, 0x0, 1, 0x0, 0x0, 0x0, 0x0, 0x0, 0x0, 0xffffffff⟩,
  ⟨0x800008, 1, 0x0, 1, 0x0, 0x0, 0x0, 0x0, 0x0, 0x0, 0xffffffff⟩,
  ⟨0x80000c, 1, 0x0, 1, 0x0, 0x0, 0x0, 0x0, 0x0, 0x0, 0xffffffff⟩,
  ⟨0x800010, 1, 0x0, 1, 0x0, 0x0, 0x0, 0x0, 0x0, 0x0, 0xffffffff⟩,
  ⟨0x800018, 1, 0x0, 1, 0x0, 0x0, 0x0, 0x0, 0x0, 0x0, 0xffffffff⟩,
  ⟨0x80001c, 1, 0x0, 1, 0x0, 0x0, 0x0, 0x0, 0x0, 0x0, 0xffffffff⟩,
  ⟨0x800020, 1, 0x0, 1, 0x0, 0x0, 0x0, 0x0, 0x0, 0x0, 0xffffffff⟩,
  ⟨0x800024, 1, 0x0, 1, 0x0, 0x0, 0x0, 0x0, 0x0, 0x0, 0xffff⟩,
  ⟨0x800028, 1, 0x0, 1, 0x0, 0x0, 0x0, 0x0, 0x0, 0x0, 0xffffff⟩,
  ⟨0x800030, 1, 0x0, 1, 0x0, 0x0, 0x0, 0x0, 0x0, 0x0, 0xffffffff⟩,
  ⟨0x800034, 1, 0x0, 1, 0x0, 0x0, 0x0, 0x0, 0x0, 0x0, 0xffffffff⟩,
  ⟨0x800038, 1, 0x0, 1, 0x0, 0x130, 0x0, 0x0, 0x0, 0x0, 0xffffffff⟩,
  ⟨0x80003c, 1, 0x0, 1, 0x0, 0x0, 0x0, 0x0, 0x0, 0x0, 0xffffffff⟩,
  ⟨0x800040, 1, 0x0, 1, 0x0, 0x0, 0x0, 0x0, 0x0, 0x0, 0x1f1ffff⟩,
  ⟨0x800050, 1, 0x0, 1, 0x0, 0x80, 0x0, 0x0, 0x0, 0x0, 0xffff00ff⟩,
  ⟨0x800054, 3, 0x4, 1, 0x0, 0x0, 0x0, 0x0, 0x0, 0x0, 0xffff00ff⟩,
  ⟨0x800060, 1, 0x0, 1, 0x0, 0x0, 0x0, 0x0, 0x0, 0x0, 0xffffffff⟩,
  ⟨0x800064, 1, 0x0, 1, 0x0, 0x1, 0x0, 0x0, 0x0, 0x0, 0xffff0003⟩,
  ⟨0x800068, 1, 0x0, 1, 0x0, 0x0, 0x3, 0x0, 0x0, 0x0, 0x0⟩,
  ⟨0x80f000, 1, 0x0, 1, 0x0, 0x0, 0x0, 0x0, 0x0, 0x0, 0xffffffff⟩,
  ⟨0x80f004, 1, 0x0, 1, 0x0, 0x0, 0x0, 0x0, 0x0, 0x0, 0xffffffff⟩,
  ⟨0x80f010, 1, 0x0, 1, 0x0, 0x0, 0x6, 0x0, 0x1, 0x8, 0x0⟩,
  ⟨0x80f018, 1, 0x0, 1, 0x0, 0x0, 0xffffffff, 0x0, 0x0, 0x0, 0x0⟩,
  ⟨0x80f01c, 1, 0x0, 1, 0x0, 0x0, 0xffffffff, 0x0, 0x0, 0x0, 0x0⟩,
  ⟨0x80f020, 1, 0x0, 1, 0x0, 0x0, 0x0, 0x7f, 0x0, 0x0, 0xffff0000⟩,
  ⟨0x80f028, 1, 0x0, 1, 0x0, 0x0, 0x0, 0x0, 0x0, 0x0, 0xffffffff⟩,
  ⟨0x80f02c, 1, 0x0, 1, 0x0, 0x0, 0x0, 0x0, 0x0, 0x0, 0xffffffff⟩,
  ⟨0x80f030, 1, 0x0, 1, 0x0, 0x0, 0x0, 0x0, 0x0, 0x0, 0x800003ff⟩,
  ⟨0x840000, 16, 0x4, 1, 0x0, 0x0, 0x0, 0x0, 0x0, 0x0, 0x1fffffff⟩,
  ⟨0x840040, 1, 0x0, 1, 0x0, 0x1, 0x0, 0x0, 0x0, 0x0, 0x1⟩,
  ⟨0x840044, 3, 0x4, 1, 0x0, 0x0, 0x0, 0x0, 0x0, 0x0, 0x1⟩,
  ⟨0x840080, 1, 0x0, 1, 0x0, 0x1000, 0x0, 0x0, 0x0, 0x0, 0xffffffff⟩]

/-- Register rows, part 3 (in the order of their addresses). -/
def regRows3 : List RegRow := [
  ⟨0x840084, 1, 0x0, 1, 0x0, 0x0, 0x0, 0x0, 0x0, 0x0, 0xffffffff⟩,
  ⟨0x840088, 1, 0x0, 1, 0x0, 0x0, 0x0, 0x0, 0x0, 0x0, 0xffffffff⟩,
  ⟨0x84008c, 1, 0x0, 1, 0x0, 0x0, 0x0, 0x0, 0x0, 0x0, 0xffffffff⟩,
  ⟨0x840090, 1, 0x0, 1, 0x0, 0x0, 0x0, 0x0, 0x0, 0x0, 0xffffffff⟩,
  ⟨0x840094, 1, 0x0, 1, 0x0, 0x0, 0x0, 0x0, 0x0, 0x0, 0xffffffff⟩,
  ⟨0x840098, 1, 0x0, 1, 0x0, 0x1000, 0x0, 0x0, 0x0, 0x0, 0xffffffff⟩,
  ⟨0x84009c, 1, 0x0, 1, 0x0, 0x0, 0x0, 0x0, 0x0, 0x0, 0xffffffff⟩,
  ⟨0x8400a0, 1, 0x0, 1, 0x0, 0x0, 0x0, 0x0, 0x0, 0x0, 0x7ffffff⟩,
  ⟨0x8400c0, 1, 0x0, 1, 0x0, 0x0, 0x0, 0x0, 0x0, 0x0, 0x0⟩,
  ⟨0x880000, 1, 0x0, 1, 0x0, 0x0, 0x0, 0x0, 0x0, 0x0, 0xffffffff⟩,
  ⟨0x880004, 1, 0x0, 1, 0x0, 0x0, 0x0, 0x0, 0x0, 0x0, 0xffffffff⟩,
  ⟨0x880008, 1, 0x0, 1, 0x0, 0x0, 0x0, 0x0, 0x0, 0x0, 0x0⟩,
  ⟨0x880010, 2, 0x4, 1, 0x0, 0x100, 0x0, 0x0, 0x0, 0x0, 0xffffffff⟩,
  ⟨0x880018, 1, 0x0, 1, 0x0, 0x100, 0x0, 0x0, 0x0, 0x0, 0xffffffff⟩,
  ⟨0x900000, 1, 0x0, 1, 0x0, 0x0, 0x0, 0x380, 0x0, 0x0, 0x7f⟩,
  ⟨0x900004, 1, 0x0, 1, 0x0, 0x0, 0x0, 0x0, 0x0, 0x0, 0xffffffff⟩,
  ⟨0x900008, 1, 0x0, 1, 0x0, 0x0, 0x0, 0x0, 0x0, 0x0, 0x1ffffff⟩,
  ⟨0x900018, 1, 0x0, 1, 0x0, 0x0, 0x0, 0x0, 0x0, 0x0, 0xffffffff⟩,
  ⟨0x90001c, 1, 0x0, 1, 0x0, 0x0, 0x0, 0x0, 0x0, 0x0, 0xff⟩,
  ⟨0x900020, 1, 0x0, 1, 0x0, 0x0, 0x1, 0x0, 0x0, 0x0, 0x0⟩,
  ⟨0x900100, 3, 0x20, 1, 0x0, 0x0, 0x0, 0x0, 0x0, 0x0, 0x1ffff⟩,
  ⟨0x900104, 3, 0x20, 1, 0x0, 0x0, 0x0, 0x0, 0x0, 0x0, 0xffffffff⟩,
  ⟨0x900108, 3, 0x20, 1, 0x0, 0x0, 0x0, 0x0, 0x0, 0x0, 0xffffffff⟩,
  ⟨0x90010c, 3, 0x20, 1, 0x0, 0x0, 0x0, 0x0, 0x0, 0x0, 0xffffffff⟩,
  ⟨0x900110, 3, 0x20, 1, 0x0, 0x0, 0x0, 0x0, 0x0, 0x0, 0xffffffff⟩,
  ⟨0x900114, 3, 0x20, 1, 0x0, 0x0, 0x0, 0x0, 0x0, 0x0, 0x7ffff⟩,
  ⟨0x940000, 1, 0x0, 1, 0x0, 0x0, 0x0, 0x0, 0x0, 0x0, 0xf⟩,
  ⟨0x940004, 1, 0x0, 1, 0x0, 0x10004, 0x0, 0x0, 0x0, 0x0, 0x1fffff⟩,
  ⟨0x940008, 1, 0x0, 1, 0x0, 0x0, 0x0, 0x0, 0x0, 0x0, 0x7⟩,
  ⟨0x94000c, 1, 0x0, 1, 0x0, 0x1, 0x0, 0x0, 0x0, 0x0, 0xffffffff⟩,
  ⟨0x940010, 1, 0x0, 1, 0x0, 0x0, 0x0, 0x0, 0x0, 0x0, 0x1⟩,
  ⟨0xa00000, 1, 0x0, 1, 0x0, 0x0, 0x0, 0x0, 0x0, 0x0, 0xff⟩,
  ⟨0xa00004, 1, 0x0, 1, 0x0, 0x0, 0x1, 0x0, 0x0, 0x0, 0x0⟩,
  ⟨0xa00100, 2, 0x100, 1, 0x0, 0x0, 0x0, 0x60, 0x0, 0x0, 0x1f⟩,
  ⟨0xa00104, 2, 0x100, 1, 0x0, 0x0, 0x0, 0x0, 0x0, 0x0, 0xfff⟩,
  ⟨0xa00108, 2, 0x100, 1, 0x0, 0x0, 0x0, 0x0, 0x0, 0x0, 0xffffffff⟩,
  ⟨0xa00110, 2, 0x100, 1, 0x0, 0x0, 0x0, 0x0, 0x0, 0x0, 0xffffffff⟩,
  ⟨0xa00114, 2, 0x100, 1, 0x0, 0x0, 0x0, 0x0, 0x0, 0x0, 0xffffffff⟩,
  ⟨0xa00118, 2, 0x100, 1, 0x0, 0x0, 0x0, 0x0, 0x0, 0x0, 0xffffffff⟩,
  ⟨0xa0011c, 2, 0x100, 1, 0x0, 0x0, 0x0, 0x0, 0x0, 0x0, 0xffffffff⟩,
  ⟨0xa00120, 2, 0x100, 1, 0x0, 0x0, 0x0, 0x0, 0x0, 0x0, 0xffffffff⟩,
  ⟨0xa00124, 2, 0x100, 1, 0x0, 0x0, 0x0, 0x0, 0x0, 0x0, 0xffffffff⟩,
  ⟨0xa00128, 2, 0x100, 1, 0x0, 0x0, 0x0, 0x0, 0x0, 0x0, 0xffffffff⟩,
  ⟨0xa0012c, 2, 0x100, 1, 0x0, 0x0, 0x0, 0x0, 0x0, 0x0, 0xffffffff⟩,
  ⟨0xa00130, 2, 0x100, 1, 0x0, 0x0, 0x0, 0x0, 0x0, 0x0, 0xffffffff⟩,
  ⟨0xa00134, 2, 0x100, 1, 0x0, 0x0, 0x0, 0x0, 0x0, 0x0, 0xffffffff⟩,
  ⟨0xa00138, 2, 0x100, 1, 0x0, 0x0, 0x0, 0x0, 0x0, 0x0, 0xffffffff⟩,
  ⟨0xa0013c, 2, 0x100, 1, 0x0, 0x0, 0x0, 0x0, 0x0, 0x0, 0xffffffff⟩,
  ⟨0xa00140, 2, 0x100, 16, 0x4, 0x0, 0x0, 0x0, 0x0, 0x0, 0xffffffff⟩,
  ⟨0xa40000, 1, 0x0, 1, 0x0, 0x20210, 0x0, 0x0, 0x0, 0x0, 0xffffffff⟩,
  ⟨0xa40004, 1, 0x0, 1, 0x0, 0x20210, 0x0, 0x0, 0x0, 0x0, 0xffffffff⟩,
  ⟨0xa40008, 1, 0x0, 1, 0x0, 0x100000, 0x0, 0x0, 0x0, 0x0, 0xffffff⟩,
  ⟨0xa4000c, 1, 0x0, 1, 0x0, 0x0, 0x0, 0x0, 0x0, 0x0, 0x1ffff⟩,
  ⟨0xa40010, 1, 0x0, 1, 0x0, 0x0, 0x0, 0x0, 0x0, 0x0, 0x3fff⟩,
  ⟨0xb00000, 1, 0x0, 1, 0x0, 0x0, 0x0, 0x0, 0x1, 0x6, 0x0⟩,
  ⟨0xb00004, 1, 0x0, 1, 0x0, 0x0, 0x0, 0x0, 0x0, 0x0, 0xffff007f⟩,
  ⟨0xb00008, 1, 0x0, 1, 0x0, 0x0, 0x0, 0x0, 0x0, 0x0, 0xffffffff⟩,
  ⟨0xb0000c, 1, 0x0, 1, 0x0, 0x0, 0x0, 0x0, 0x0, 0x0, 0xf⟩,
  ⟨0xb00010, 1, 0x0, 1, 0x0, 0x0, 0x0, 0x0, 0x0, 0x0, 0xffffffff⟩,
  ⟨0xb00018, 1, 0x0, 1, 0x0, 0x0, 0x0, 0x0, 0x0, 0x0, 0xffffffff⟩]

/-- Register rows, part 4 (in the order of their addresses). -/
def regRows4 : List RegRow := [
  ⟨0xb0001c, 1, 0x0, 1, 0x0, 0x0, 0x0, 0x0, 0x0, 0x0, 0xffffffff⟩,
  ⟨0xb00020, 1, 0x0, 1, 0x0, 0x0, 0x1ffffe, 0x0, 0x1, 0x0, 0x0⟩,
  ⟨0xb00024, 1, 0x0, 1, 0x0, 0x0, 0x0, 0x0, 0x0, 0xffff, 0x0⟩,
  ⟨0xb00028, 1, 0x0, 1, 0x0, 0x0, 0x0, 0x0, 0x0, 0x0, 0xfffff⟩,
  ⟨0xb00030, 1, 0x0, 1, 0x0, 0x0, 0x0, 0x0, 0x0, 0x0, 0xfffff⟩,
  ⟨0xb00040, 8, 0x4, 1, 0x0, 0x0, 0xffffffff, 0x0, 0x0, 0x0, 0x0⟩,
  ⟨0xb00060, 1, 0x0, 1, 0x0, 0x0, 0x0, 0x0, 0x0, 0x1, 0x0⟩,
  ⟨0xb00080, 8, 0x4, 1, 0x0, 0x0, 0x0, 0x0, 0x0, 0x0, 0xffffffff⟩,
  ⟨0xb000a0, 1, 0x0, 1, 0x0, 0x0, 0x0, 0x20000, 0x0, 0x0, 0x1ffff⟩,
  ⟨0xb000a8, 1, 0x0, 1, 0x0, 0x0, 0x0, 0x0, 0x0, 0x0, 0xffffffff⟩,
  ⟨0xb000ac, 1, 0x0, 1, 0x0, 0x0, 0x0, 0x0, 0x0, 0x0, 0xffffffff⟩,
  ⟨0xb01000, 1, 0x0, 1, 0x0, 0x0, 0x0, 0x0, 0x0, 0xffff, 0x0⟩,
  ⟨0xb01004, 1, 0x0, 1, 0x0, 0x0, 0x0, 0x40, 0x0, 0x0, 0x73f⟩,
  ⟨0xb01008, 1, 0x0, 1, 0x0, 0x0, 0x0, 0x0, 0x0, 0x0, 0xffffffff⟩,
  ⟨0xb0100c, 1, 0x0, 1, 0x0, 0x0, 0x0, 0x0, 0x0, 0x0, 0xffffffff⟩,
  ⟨0xb01010, 1, 0x0, 1, 0x0, 0x0, 0x0, 0x0, 0x0, 0x0, 0xffff⟩,
  ⟨0xb01014, 1, 0x0, 1, 0x0, 0x0, 0x0, 0x0, 0x0, 0x0, 0xffffff⟩,
  ⟨0xb01018, 1, 0x0, 1, 0x0, 0x0, 0x0, 0x0, 0x0, 0x0, 0xffffffff⟩,
  ⟨0xb0101c, 1, 0x0, 1, 0x0, 0x0, 0x0, 0x0, 0x0, 0x0, 0xffffffff⟩,
  ⟨0xb01020, 1, 0x0, 1, 0x0, 0x0, 0x0, 0x0, 0x0, 0x0, 0xffffffff⟩,
  ⟨0xb01100, 15, 0x20, 1, 0x0, 0x0, 0x0, 0x0, 0x0, 0x0, 0x1ff⟩,
  ⟨0xb01104, 15, 0x20, 1, 0x0, 0x0, 0x0, 0x0, 0x0, 0x0, 0xffffffff⟩,
  ⟨0xb01108, 15, 0x20, 1, 0x0, 0x0, 0x0, 0x0, 0x0, 0x0, 0xffffffff⟩,
  ⟨0xb0110c, 15, 0x20, 1, 0x0, 0x0, 0x0, 0x0, 0x0, 0x0, 0xffffffff⟩,
  ⟨0xb01110, 15, 0x20, 1, 0x0, 0x0, 0x0, 0x0, 0x0, 0x0, 0xffffffff⟩,
  ⟨0xb01114, 15, 0x20, 1, 0x0, 0x0, 0x0, 0x0, 0x0, 0x0, 0xffffffff⟩,
  ⟨0xb01118, 15, 0x20, 1, 0x0, 0x0, 0x0, 0x0, 0x0, 0x0, 0xffffffff⟩,
  ⟨0xb0111c, 15, 0x20, 1, 0x0, 0x0, 0x0, 0x0, 0x0, 0x0, 0xffff⟩,
  ⟨0xb02000, 1, 0x0, 1, 0x0, 0x0, 0x0, 0x0, 0xffff, 0x0, 0x0⟩,
  ⟨0xb02004, 1, 0x0, 1, 0x0, 0x0, 0x0, 0x0, 0xffff, 0x0, 0x0⟩,
  ⟨0xb02008, 1, 0x0, 1, 0x0, 0x0, 0x0, 0x0, 0x0, 0x0, 0xffffffff⟩,
  ⟨0xb0200c, 1, 0x0, 1, 0x0, 0xffff, 0xffff, 0x0, 0x0, 0x0, 0x0⟩,
  ⟨0xb02010, 1, 0x0, 1, 0x0, 0x0, 0x0, 0x0, 0x0, 0x0, 0xf7f⟩,
  ⟨0xb04000, 16, 0x100, 1, 0x0, 0x0, 0x0, 0x0, 0x0, 0x0, 0xffffffff⟩,
  ⟨0xb04004, 16, 0x100, 1, 0x0, 0x0, 0x0, 0x0, 0x0, 0x0, 0xf⟩,
  ⟨0xb04008, 16, 0x100, 1, 0x0, 0x0, 0x0, 0x0, 0x0, 0x0, 0xffffffff⟩,
  ⟨0xb0400c, 16, 0x100, 1, 0x0, 0x0, 0x0, 0x0, 0x0, 0x0, 0xffff⟩,
  ⟨0xb04010, 16, 0x100, 1, 0x0, 0x0, 0xffffff, 0x0, 0x0, 0x0, 0x0⟩,
  ⟨0xb04014, 16, 0x100, 1, 0x0, 0x0, 0x0, 0x7f, 0x0, 0x0, 0xffff0000⟩,
  ⟨0xb04020, 16, 0x100, 4, 0x10, 0x0, 0x8fff1fff, 0x0, 0x0, 0x0, 0x0⟩,
  ⟨0xb04024, 16, 0x100, 4, 0x10, 0x0, 0xfff, 0x0, 0x0, 0x0, 0x0⟩,
  ⟨0xb04028, 16, 0x100, 4, 0x10, 0x0, 0x0, 0x0, 0x0, 0x0, 0xffffffff⟩,
  ⟨0xb0402c, 16, 0x100, 4, 0x10, 0x0, 0x0, 0x0, 0x0, 0x0, 0xffffffff⟩,
  ⟨0xb04060, 16, 0x100, 1, 0x0, 0x0, 0x0, 0x0, 0x0, 0x0, 0xffffffff⟩,
  ⟨0xb04064, 16, 0x100, 1, 0x0, 0x0, 0x0, 0x0, 0x0, 0x0, 0xffffffff⟩,
  ⟨0xb04068, 16, 0x100, 1, 0x0, 0x0, 0x0, 0x0, 0x0, 0x0, 0xffff⟩,
  ⟨0xb40000, 16, 0x10, 4, 0x4, 0x0, 0x0, 0x0, 0x0, 0x0, 0xffffffff⟩,
  ⟨0xb40100, 16, 0x10, 4, 0x4, 0x0, 0x0, 0x0, 0x0, 0x0, 0x3f⟩,
  ⟨0xc00000, 1, 0x0, 1, 0x0, 0x0, 0x0, 0x80, 0x0, 0x0, 0x7ff7f⟩,
  ⟨0xc00004, 1, 0x0, 1, 0x0, 0xa, 0xb, 0x0, 0x0, 0x4, 0x0⟩,
  ⟨0xc00008, 1, 0x0, 1, 0x0, 0x0, 0x0, 0x0, 0x0, 0x0, 0xffffffff⟩,
  ⟨0xc0000c, 1, 0x0, 1, 0x0, 0x0, 0x0, 0x0, 0x0, 0x0, 0xffffffff⟩,
  ⟨0xc00010, 1, 0x0, 1, 0x0, 0x0, 0x0, 0x0, 0x0, 0x0, 0xfff0fff⟩,
  ⟨0xc00014, 1, 0x0, 1, 0x0, 0x0, 0x0, 0x0, 0x0, 0x0, 0xfff0fff⟩,
  ⟨0xc00018, 1, 0x0, 1, 0x0, 0x0, 0x0, 0x0, 0x0, 0x80000000, 0x7fff3fff⟩,
  ⟨0xc00020, 1, 0x0, 1, 0x0, 0x0, 0x0, 0x0, 0x0, 0x0, 0xffffffff⟩,
  ⟨0xc00024, 1, 0x0, 1, 0x0, 0x0, 0x0, 0x0, 0x0, 0x0, 0xffffffff⟩,
  ⟨0xc00028, 1, 0x0, 1, 0x0, 0x82ffff, 0x0, 0x0, 0x0, 0x0, 0xffffffff⟩,
  ⟨0xc0002c, 1, 0x0, 1, 0x0, 0x0, 0x0, 0x0, 0x0, 0x0, 0xffffffff⟩,
  ⟨0xc00030, 1, 0x0, 1, 0x0, 0x0, 0xfff00000, 0x0, 0x0, 0x0, 0x0⟩]

/-- Register rows, part 5 (in the order of their addresses). -/
def regRows5 : List RegRow := [
  ⟨0xc00034, 1, 0x0, 1, 0x0, 0x0, 0xffffffff, 0x0, 0x0, 0x0, 0x0⟩,
  ⟨0xc00038, 1, 0x0, 1, 0x0, 0x0, 0x0, 0x0, 0x0, 0x0, 0xffffffff⟩,
  ⟨0xc0003c, 1, 0x0, 1, 0x0, 0x0, 0x0, 0x0, 0x0, 0x0, 0xf3⟩,
  ⟨0xc00100, 8, 0x20, 1, 0x0, 0x0, 0x0, 0x0, 0x0, 0x0, 0xffffff03⟩,
  ⟨0xc00104, 8, 0x20, 1, 0x0, 0x0, 0x0, 0x0, 0x0, 0x0, 0xffffffff⟩,
  ⟨0xc00108, 8, 0x20, 1, 0x0, 0x0, 0x0, 0x0, 0x0, 0x0, 0xffffffff⟩,
  ⟨0xc0010c, 8, 0x20, 1, 0x0, 0x0, 0x0, 0x0, 0x0, 0x0, 0xffffffff⟩,
  ⟨0xc00110, 8, 0x20, 1, 0x0, 0x0, 0x0, 0x0, 0x0, 0x0, 0xffffffff⟩,
  ⟨0xc00200, 2, 0x40, 1, 0x0, 0x0, 0x0, 0xc, 0x0, 0x0, 0x3⟩,
  ⟨0xc00204, 2, 0x40, 1, 0x0, 0x0, 0x0, 0x0, 0x0, 0x0, 0xffffffff⟩,
  ⟨0xc00208, 2, 0x40, 1, 0x0, 0x0, 0x0, 0x0, 0x0, 0x0, 0xffffffff⟩,
  ⟨0xc00210, 2, 0x40, 1, 0x0, 0x0, 0x0, 0x0, 0x0, 0x0, 0xffffffff⟩,
  ⟨0xc00214, 2, 0x40, 1, 0x0, 0x0, 0x0, 0x0, 0x0, 0x0, 0xffffffff⟩,
  ⟨0xc00218, 2, 0x40, 1, 0x0, 0x0, 0x0, 0x0, 0x0, 0x0, 0xffffffff⟩,
  ⟨0xc0021c, 2, 0x40, 1, 0x0, 0x0, 0x0, 0x0, 0x0, 0x0, 0xffffffff⟩,
  ⟨0xc00220, 2, 0x40, 1, 0x0, 0x0, 0x0, 0x0, 0x0, 0x0, 0xffffffff⟩,
  ⟨0xc40000, 1, 0x0, 1, 0x0, 0x0, 0x0, 0x0, 0x0, 0x0, 0xff⟩,
  ⟨0xc40004, 1, 0x0, 1, 0x0, 0x0, 0x0, 0x0, 0x0, 0x0, 0xff⟩,
  ⟨0xc40008, 1, 0x0, 1, 0x0, 0x0, 0x0, 0x0, 0x0, 0x0, 0x3fffffff⟩,
  ⟨0xc4000c, 1, 0x0, 1, 0x0, 0x0, 0x0, 0x0, 0x0, 0x0, 0x3fffffff⟩,
  ⟨0xd00000, 1, 0x0, 1, 0x0, 0x0, 0x0, 0xc00, 0x0, 0x0, 0x33ff⟩,
  ⟨0xd00004, 1, 0x0, 1, 0x0, 0x0, 0x0, 0x0, 0x0, 0x0, 0x3fff3fff⟩,
  ⟨0xd00008, 1, 0x0, 1, 0x0, 0x0, 0x0, 0x0, 0x0, 0x80000000, 0x1fff1fff⟩,
  ⟨0xd01000, 32, 0x40, 1, 0x0, 0x0, 0xffffffff, 0x0, 0x0, 0x0, 0x0⟩,
  ⟨0xd01004, 32, 0x40, 1, 0x0, 0x0, 0xffffffff, 0x0, 0x0, 0x0, 0x0⟩,
  ⟨0xd01008, 32, 0x40, 1, 0x0, 0x0, 0xffffffff, 0x0, 0x0, 0x0, 0x0⟩,
  ⟨0xd0100c, 32, 0x40, 1, 0x0, 0x0, 0xffffffff, 0x0, 0x0, 0x0, 0x0⟩,
  ⟨0xd01010, 32, 0x40, 1, 0x0, 0x0, 0xffffffff, 0x0, 0x0, 0x0, 0x0⟩,
  ⟨0xd01014, 32, 0x40, 1, 0x0, 0x0, 0xfe, 0x0, 0x0, 0x301, 0x0⟩,
  ⟨0xd01018, 32, 0x40, 1, 0x0, 0x0, 0x0, 0x200, 0x0, 0x0, 0xffff01ff⟩,
  ⟨0xd0101c, 32, 0x40, 1, 0x0, 0x0, 0x0, 0x0, 0x0, 0x0, 0x1f⟩,
  ⟨0xd01020, 32, 0x40, 1, 0x0, 0x0, 0x0, 0x0, 0x0, 0x0, 0xffffffff⟩,
  ⟨0xd01024, 32, 0x40, 1, 0x0, 0x0, 0xfffffc00, 0x0, 0x0, 0x0, 0x0⟩,
  ⟨0xd01028, 32, 0x40, 1, 0x0, 0x0, 0xffffffff, 0x0, 0x0, 0x0, 0x0⟩,
  ⟨0xd02000, 1, 0x0, 1, 0x0, 0x0, 0x7, 0x0, 0x0, 0x0, 0x0⟩,
  ⟨0xd02008, 1, 0x0, 1, 0x0, 0x0, 0x0, 0xffffffff, 0x0, 0x0, 0x0⟩,
  ⟨0xd0200c, 1, 0x0, 1, 0x0, 0x0, 0x0, 0xffffffff, 0x0, 0x0, 0x0⟩,
  ⟨0xd02010, 1, 0x0, 1, 0x0, 0x0, 0x0, 0x0, 0x0, 0xffffffff, 0x0⟩,
  ⟨0xd02014, 1, 0x0, 1, 0x0, 0x0, 0x0, 0x0, 0x0, 0x0, 0xf3f⟩,
  ⟨0xd02018, 1, 0x0, 1, 0x0, 0x0, 0x0, 0x0, 0x0, 0x0, 0xffffffff⟩,
  ⟨0xd0201c, 1, 0x0, 1, 0x0, 0x0, 0x0, 0x0, 0x0, 0x0, 0xffffffff⟩,
  ⟨0xd03000, 64, 0x40, 1, 0x0, 0xf00, 0xffff0f1f, 0x0, 0x0, 0x0, 0x0⟩,
  ⟨0xd03004, 64, 0x40, 1, 0x0, 0x0, 0x3fff3fff, 0x0, 0x0, 0x0, 0x0⟩,
  ⟨0xd03008, 64, 0x40, 1, 0x0, 0x0, 0x0, 0x0, 0x0, 0x3, 0x0⟩,
  ⟨0xd0300c, 64, 0x40, 1, 0x0, 0x0, 0x0, 0x1c0, 0x0, 0x0, 0x3f⟩,
  ⟨0xd03010, 64, 0x40, 1, 0x0, 0x0, 0xfffff000, 0x0, 0x0, 0x0, 0x0⟩,
  ⟨0xd03014, 64, 0x40, 1, 0x0, 0x0, 0xffffffff, 0x0, 0x0, 0x0, 0x0⟩,
  ⟨0xd03018, 64, 0x40, 1, 0x0, 0x1114, 0x1f1f, 0x0, 0x0, 0x0, 0x0⟩,
  ⟨0xd0301c, 64, 0x40, 1, 0x0, 0x0, 0xffffffff, 0x0, 0x0, 0x0, 0x0⟩,
  ⟨0xd03020, 64, 0x40, 1, 0x0, 0x0, 0xfffffff8, 0x0, 0x0, 0x0, 0x0⟩,
  ⟨0xd03024, 64, 0x40, 1, 0x0, 0x0, 0xffffffff, 0x0, 0x0, 0x0, 0x0⟩,
  ⟨0xd03028, 64, 0x40, 1, 0x0, 0x0, 0xffffffff, 0x0, 0x0, 0x0, 0x0⟩,
  ⟨0xd0302c, 64, 0x40, 1, 0x0, 0x0, 0xffffffff, 0x0, 0x0, 0x0, 0x0⟩,
  ⟨0xd03030, 64, 0x40, 1, 0x0, 0x0, 0x0, 0x0, 0x0, 0x0, 0xffffffff⟩,
  ⟨0xd03034, 64, 0x40, 1, 0x0, 0x0, 0x0, 0x0, 0x0, 0x0, 0xffffffff⟩,
  ⟨0xd03038, 64, 0x40, 1, 0x0, 0x0, 0x0, 0x0, 0x0, 0x0, 0xffffffff⟩,
  ⟨0xd0303c, 64, 0x40, 1, 0x0, 0x0, 0x0, 0x0, 0x0, 0x0, 0xffffffff⟩,
  ⟨0xd04000, 16, 0x40, 1, 0x0, 0x0, 0x3ff0007, 0x0, 0x0, 0x0, 0x8⟩,
  ⟨0xd04004, 16, 0x40, 1, 0x0, 0x0, 0xffffffff, 0x0, 0x0, 0x0, 0x0⟩,
  ⟨0xd04008, 16, 0x40, 1, 0x0, 0x0, 0xffffffff, 0x0, 0x0, 0x0, 0x0⟩]

/-- Register rows, part 6 (in the order of their addresses). -/
def regRows6 : List RegRow := [
  ⟨0xd0400c, 16, 0x40, 1, 0x0, 0x0, 0xffffffff, 0x0, 0x0, 0x0, 0x0⟩,
  ⟨0xd04010, 16, 0x40, 1, 0x0, 0x0, 0xffffffff, 0x0, 0x0, 0x0, 0x0⟩,
  ⟨0xd04014, 16, 0x40, 1, 0x0, 0x0, 0xffffffff, 0x0, 0x0, 0x0, 0x0⟩,
  ⟨0xd04018, 16, 0x40, 1, 0x0, 0x0, 0xffffffff, 0x0, 0x0, 0x0, 0x0⟩,
  ⟨0xd0401c, 16, 0x40, 1, 0x0, 0x0, 0xffffffff, 0x0, 0x0, 0x0, 0x0⟩,
  ⟨0xd04020, 16, 0x40, 1, 0x0, 0x0, 0xffffffff, 0x0, 0x0, 0x0, 0x0⟩,
  ⟨0xd04024, 16, 0x40, 1, 0x0, 0x0, 0xffffffff, 0x0, 0x0, 0x0, 0x0⟩,
  ⟨0xd04028, 16, 0x40, 1, 0x0, 0x0, 0xffffffff, 0x0, 0x0, 0x0, 0x0⟩,
  ⟨0xd0402c, 16, 0x40, 1, 0x0, 0x0, 0xffffffff, 0x0, 0x0, 0x0, 0x0⟩,
  ⟨0xd04030, 16, 0x40, 1, 0x0, 0x0, 0xffffffff, 0x0, 0x0, 0x0, 0x0⟩,
  ⟨0xd04034, 16, 0x40, 1, 0x0, 0x0, 0xffffffff, 0x0, 0x0, 0x0, 0x0⟩,
  ⟨0xd04038, 16, 0x40, 1, 0x0, 0x0, 0x0, 0x0, 0x0, 0x0, 0xffff01ff⟩,
  ⟨0xd0403c, 16, 0x40, 1, 0x0, 0x3e8, 0xffff, 0x0, 0x0, 0x0, 0xffff0000⟩,
  ⟨0xd0e000, 64, 0x10, 1, 0x0, 0x0, 0xffffffff, 0x0, 0x0, 0x0, 0x0⟩,
  ⟨0xd0e004, 64, 0x10, 1, 0x0, 0x0, 0xffffffff, 0x0, 0x0, 0x0, 0x0⟩,
  ⟨0xd0e008, 64, 0x10, 1, 0x0, 0x0, 0xffffffff, 0x0, 0x0, 0x0, 0x0⟩,
  ⟨0xd0e00c, 64, 0x10, 1, 0x0, 0x1, 0x1, 0x0, 0x0, 0x0, 0x0⟩,
  ⟨0xd0e800, 2, 0x4, 1, 0x0, 0x0, 0x0, 0x0, 0x0, 0x0, 0xffffffff⟩,
  ⟨0xd0f000, 1, 0x0, 1, 0x0, 0x0, 0xffffffff, 0x0, 0x0, 0x0, 0x0⟩,
  ⟨0xd0f004, 1, 0x0, 1, 0x0, 0x0, 0xffffffff, 0x0, 0x0, 0x0, 0x0⟩,
  ⟨0xd0f008, 1, 0x0, 1, 0x0, 0x0, 0xffffffff, 0x0, 0x0, 0x0, 0x0⟩,
  ⟨0xd0f00c, 1, 0x0, 1, 0x0, 0x0, 0xffffffff, 0x0, 0x0, 0x0, 0x0⟩,
  ⟨0xd0f010, 1, 0x0, 1, 0x0, 0x0, 0x3ff, 0x0, 0x0, 0x0, 0x0⟩,
  ⟨0xd0f014, 1, 0x0, 1, 0x0, 0x0, 0x0, 0x0, 0x0, 0x1, 0x0⟩,
  ⟨0xd0f018, 1, 0x0, 1, 0x0, 0x0, 0x0, 0x0, 0x0, 0x0, 0x1fffff⟩,
  ⟨0xd40000, 64, 0x4, 1, 0x0, 0x0, 0x0, 0x0, 0x0, 0x0, 0xffff3fff⟩,
  ⟨0xd40400, 1, 0x0, 1, 0x0, 0x0, 0x0, 0x0, 0x0, 0x0, 0x0⟩,
  ⟨0xe00000, 1, 0x0, 1, 0x0, 0x6, 0x17, 0x0, 0x0, 0x8, 0x0⟩,
  ⟨0xe00004, 1, 0x0, 1, 0x0, 0x2fa, 0x3ff, 0x0, 0x0, 0x0, 0x0⟩,
  ⟨0xe00008, 1, 0x0, 1, 0x0, 0x6400a00, 0xfff0fff, 0x0, 0x0, 0x0, 0x0⟩,
  ⟨0xe0000c, 1, 0x0, 1, 0x0, 0x411b, 0x1ffff, 0x0, 0x0, 0x0, 0x0⟩,
  ⟨0xe00010, 2, 0x4, 1, 0x0, 0x0, 0x1ffffff, 0x0, 0x0, 0x0, 0x0⟩,
  ⟨0xe00018, 1, 0x0, 1, 0x0, 0x0, 0xffffffc0, 0x0, 0x0, 0x0, 0x0⟩,
  ⟨0xe0001c, 1, 0x0, 1, 0x0, 0x0, 0xffffffff, 0x0, 0x0, 0x0, 0x0⟩,
  ⟨0xe00020, 1, 0x0, 1, 0x0, 0x0, 0xffff, 0x0, 0x0, 0x0, 0x0⟩,
  ⟨0xe00024, 1, 0x0, 1, 0x0, 0x0, 0xfff0fff, 0x0, 0x0, 0x0, 0x0⟩,
  ⟨0xe00028, 1, 0x0, 1, 0x0, 0x0, 0xfff0fff, 0x0, 0x0, 0x0, 0x0⟩,
  ⟨0xe0002c, 1, 0x0, 1, 0x0, 0x0, 0x0, 0x0, 0x0, 0x3, 0x0⟩,
  ⟨0xe00030, 1, 0x0, 1, 0x0, 0x0, 0x0, 0x3620, 0x0, 0x0, 0x9df⟩,
  ⟨0xe00034, 2, 0x4, 1, 0x0, 0x0, 0x0, 0x0, 0x0, 0x0, 0x1ffffff⟩,
  ⟨0xe0003c, 1, 0x0, 1, 0x0, 0x0, 0x0, 0x0, 0x0, 0x0, 0x3ff03ff⟩,
  ⟨0xe00040, 1, 0x0, 1, 0x0, 0x0, 0x0, 0x0, 0x0, 0x0, 0xfffff⟩,
  ⟨0xe00044, 1, 0x0, 1, 0x0, 0x0, 0x0, 0x0, 0x0, 0x0, 0xffffffff⟩,
  ⟨0xe00048, 1, 0x0, 1, 0x0, 0x0, 0x0, 0x0, 0x0, 0x0, 0xffffffff⟩,
  ⟨0xe0004c, 1, 0x0, 1, 0x0, 0x0, 0x0, 0x0, 0x0, 0x0, 0xffffffff⟩,
  ⟨0xe00050, 1, 0x0, 1, 0x0, 0x0, 0x3f, 0x0, 0x0, 0x40, 0x0⟩,
  ⟨0xe00054, 4, 0x4, 1, 0x0, 0x0, 0xffffffff, 0x0, 0x0, 0x0, 0x0⟩,
  ⟨0xf00000, 1, 0x0, 1, 0x0, 0x0, 0x0, 0x1c0, 0x0, 0x0, 0x3f⟩,
  ⟨0xf00004, 1, 0x0, 1, 0x0, 0x0, 0x0, 0x0, 0x0, 0x3f, 0x0⟩,
  ⟨0xf00008, 1, 0x0, 1, 0x0, 0x0, 0x0, 0x0, 0x0, 0x3f, 0x40⟩,
  ⟨0xf0000c, 1, 0x0, 1, 0x0, 0x0, 0x0, 0x0, 0x0, 0x0, 0xffffffff⟩,
  ⟨0xf00010, 1, 0x0, 1, 0x0, 0x0, 0x0, 0x0, 0x0, 0x0, 0xffff⟩,
  ⟨0xf00014, 1, 0x0, 1, 0x0, 0x0, 0x0, 0x0, 0x0, 0x0, 0xffffffff⟩,
  ⟨0xf00018, 1, 0x0, 1, 0x0, 0x20000fff, 0x0, 0x0, 0x0, 0x0, 0x3fff0fff⟩,
  ⟨0xf0001c, 1, 0x0, 1, 0x0, 0x0, 0x0, 0xffffffff, 0x0, 0x0, 0x0⟩,
  ⟨0xf00020, 1, 0x0, 1, 0x0, 0x0, 0x0, 0xffffffff, 0x0, 0x0, 0x0⟩,
  ⟨0xf00024, 1, 0x0, 1, 0x0, 0x0, 0xffff, 0x0, 0x0, 0x0, 0x0⟩,
  ⟨0xf00028, 1, 0x0, 1, 0x0, 0xfff, 0x0, 0x0, 0x0, 0x0, 0xfff0fff⟩,
  ⟨0xf0002c, 1, 0x0, 1, 0x0, 0x0, 0x0, 0x0, 0x0, 0x0, 0xffff⟩,
  ⟨0xf00030, 1, 0x0, 1, 0x0, 0x0, 0x1, 0x0, 0x0, 0x0, 0x0⟩]

/-- Register rows, part 7 (in the order of their addresses). -/
def regRows7 : List RegRow := [
  ⟨0xf00034, 1, 0x0, 1, 0x0, 0x0, 0x0, 0x0, 0x0, 0x0, 0xf1⟩,
  ⟨0xf00100, 32, 0x10, 1, 0x0, 0xfff0000, 0x7fff0fff, 0x0, 0x0, 0x0, 0x0⟩,
  ⟨0xf00104, 32, 0x10, 1, 0x0, 0x0, 0x0, 0x0, 0x0, 0x0, 0x3⟩,
  ⟨0xf40000, 1, 0x0, 1, 0x0, 0xfffffff, 0x0, 0x0, 0x0, 0x0, 0xffffffff⟩,
  ⟨0xf40004, 1, 0x0, 1, 0x0, 0x0, 0x0, 0x0, 0x0, 0x0, 0x0⟩,
  ⟨0x1000000, 1, 0x0, 1, 0x0, 0x0, 0x0, 0x2080, 0x0, 0x0, 0x1f7f⟩,
  ⟨0x1000004, 1, 0x0, 1, 0x0, 0x0, 0x0, 0x0, 0x0, 0x0, 0xffffffff⟩,
  ⟨0x1000008, 1, 0x0, 1, 0x0, 0x0, 0x0, 0x0, 0x0, 0x0, 0xffffffff⟩,
  ⟨0x100000c, 1, 0x0, 1, 0x0, 0x0, 0x0, 0x0, 0x0, 0x0, 0xffffffff⟩,
  ⟨0x1000010, 1, 0x0, 1, 0x0, 0x0, 0xff, 0x0, 0x0, 0x0, 0x0⟩,
  ⟨0x1000014, 1, 0x0, 1, 0x0, 0x0, 0x0, 0x0, 0x0, 0x0, 0xffffffff⟩,
  ⟨0x1000018, 1, 0x0, 1, 0x0, 0x0, 0x0, 0x0, 0x0, 0x3, 0x0⟩,
  ⟨0x100001c, 1, 0x0, 1, 0x0, 0x0, 0x0, 0x0, 0x0, 0x0, 0xff⟩,
  ⟨0x1000020, 8, 0x4, 1, 0x0, 0x0, 0x0, 0x0, 0x0, 0x0, 0xffffffff⟩,
  ⟨0x1100000, 1, 0x0, 1, 0x0, 0x0, 0x0, 0x0, 0x0, 0x0, 0xff1fff⟩,
  ⟨0x1100004, 1, 0x0, 1, 0x0, 0x0, 0x0, 0x0, 0x0, 0x1, 0x0⟩,
  ⟨0x1100008, 1, 0x0, 1, 0x0, 0x0, 0x0, 0x0, 0x0, 0x0, 0xfff⟩,
  ⟨0x110000c, 1, 0x0, 1, 0x0, 0x0, 0x0, 0x0, 0x0, 0x0, 0x7f007f⟩,
  ⟨0x1100010, 8, 0x4, 1, 0x0, 0x0, 0x0, 0x0, 0x0, 0x0, 0xffffffff⟩,
  ⟨0x1100040, 1, 0x0, 1, 0x0, 0x0, 0xffffffc0, 0x0, 0x0, 0x0, 0x0⟩,
  ⟨0x1100044, 1, 0x0, 1, 0x0, 0x0, 0xffffffff, 0x0, 0x0, 0x0, 0x0⟩,
  ⟨0x1100048, 1, 0x0, 1, 0x0, 0x0, 0x1ffffff, 0x0, 0x0, 0x0, 0x0⟩,
  ⟨0x110004c, 1, 0x0, 1, 0x0, 0x0, 0x2, 0x0, 0x0, 0x1, 0x0⟩,
  ⟨0x1100050, 1, 0x0, 1, 0x0, 0x0, 0x0, 0x20, 0x0, 0x0, 0x1f⟩,
  ⟨0x1100060, 8, 0x4, 1, 0x0, 0x0, 0xffffffff, 0x0, 0x0, 0x0, 0x0⟩,
  ⟨0x1100080, 1, 0x0, 1, 0x0, 0x0, 0x0, 0x0, 0x0, 0x1, 0x0⟩,
  ⟨0x1100084, 1, 0x0, 1, 0x0, 0x0, 0x0, 0x0, 0x0, 0x0, 0x7⟩,
  ⟨0x1100100, 4, 0x20, 8, 0x4, 0x0, 0x0, 0x0, 0x0, 0x0, 0xffffffff⟩,
  ⟨0x1100180, 8, 0x4, 1, 0x0, 0x0, 0xffffffff, 0x0, 0x0, 0x0, 0x0⟩,
  ⟨0x11001a0, 1, 0x0, 1, 0x0, 0x0, 0x0, 0x0, 0x0, 0x1, 0x0⟩,
  ⟨0x1200000, 1, 0x0, 1, 0x0, 0x0, 0x1f, 0x0, 0x0, 0x300, 0x0⟩,
  ⟨0x1200004, 1, 0x0, 1, 0x0, 0x0, 0x0, 0x1c, 0x0, 0x0, 0x3⟩,
  ⟨0x1200008, 1, 0x0, 1, 0x0, 0x0, 0x0, 0x0, 0x0, 0x0, 0x3ffff⟩,
  ⟨0x1200010, 1, 0x0, 1, 0x0, 0x0, 0x0, 0x0, 0x0, 0x0, 0xffffffff⟩,
  ⟨0x1200014, 1, 0x0, 1, 0x0, 0x0, 0x0, 0x0, 0x0, 0x0, 0x73⟩,
  ⟨0x1200020, 1, 0x0, 1, 0x0, 0x0, 0x0, 0x0, 0x0, 0x0, 0xffff⟩,
  ⟨0x1200024, 1, 0x0, 1, 0x0, 0x0, 0x0, 0x0, 0x0, 0x0, 0x1fffff⟩,
  ⟨0x1200028, 1, 0x0, 1, 0x0, 0x6000000, 0x0, 0x0, 0x0, 0x0, 0xffffffff⟩,
  ⟨0x120002c, 1, 0x0, 1, 0x0, 0x0, 0x0, 0x0, 0x0, 0x0, 0x3ffffff⟩,
  ⟨0x1200030, 1, 0x0, 1, 0x0, 0x0, 0x0, 0x0, 0x0, 0x3, 0x1c⟩,
  ⟨0x1200040, 1, 0x0, 1, 0x0, 0xa1, 0xfff1, 0x0, 0x0, 0x0, 0x0⟩,
  ⟨0x1200044, 1, 0x0, 1, 0x0, 0x0, 0x0, 0x0, 0x0, 0x0, 0xffff07ff⟩,
  ⟨0x1200048, 1, 0x0, 1, 0x0, 0x0, 0x0, 0x0, 0x0, 0x0, 0xffffffff⟩,
  ⟨0x1200100, 5, 0x10, 1, 0x0, 0x0, 0x0, 0x0, 0x0, 0x0, 0xffffffff⟩,
  ⟨0x1200104, 5, 0x10, 1, 0x0, 0x0, 0x0, 0x0, 0x0, 0x0, 0xffffffff⟩,
  ⟨0x1200108, 5, 0x10, 1, 0x0, 0x0, 0x0, 0x0, 0x0, 0x0, 0xffffffff⟩,
  ⟨0x120010c, 5, 0x10, 1, 0x0, 0x0, 0x0, 0x0, 0x0, 0x0, 0x3⟩,
  ⟨0x1200200, 8, 0x4, 1, 0x0, 0x0, 0x0, 0x0, 0x0, 0x0, 0xff⟩,
  ⟨0x1300000, 1, 0x0, 1, 0x0, 0x0, 0x0, 0x0, 0x0, 0x1, 0x0⟩,
  ⟨0x1300004, 1, 0x0, 1, 0x0, 0x0, 0x0, 0x0, 0x0, 0x0, 0x1⟩,
  ⟨0x1300100, 10, 0x4, 1, 0x0, 0x0, 0x0, 0xffffffff, 0x0, 0x0, 0x0⟩,
  ⟨0x1300200, 1, 0x0, 1, 0x0, 0x0, 0xffffffff, 0x0, 0x0, 0x0, 0x0⟩,
  ⟨0x1300300, 10, 0x4, 1, 0x0, 0x0, 0x0, 0xffffffff, 0x0, 0x0, 0x0⟩,
  ⟨0x1300800, 64, 0x4, 1, 0x0, 0x0, 0xffff, 0x0, 0x0, 0x0, 0x10000⟩,
  ⟨0x1301000, 314, 0x4, 1, 0x0, 0x0, 0x1fff, 0x0, 0x0, 0x0, 0x0⟩,
  ⟨0x1302000, 314, 0x4, 1, 0x0, 0x0, 0x0, 0x0, 0x0, 0x10000, 0xffff⟩]

/-- Every row of the register map. -/
def regRows : List RegRow :=
  regRows0 ++ regRows1 ++ regRows2 ++ regRows3 ++ regRows4 ++ regRows5 ++ regRows6 ++ regRows7

/-- Is `a` the address of a register of row `r`? -/
def RegRow.covers (r : RegRow) (a : Nat) : Bool :=
  if a < r.base then false else
  let d := a - r.base
  if r.step1 = 0 then d == 0
  else
    let i := d / r.step1
    let e := d % r.step1
    if r.count2 = 1 then e == 0 && i < r.count1
    else i < r.count1 && e % r.step2 == 0 && e / r.step2 < r.count2

/-- The row of the register at `a`, if the spec defines one there (R6). -/
def findReg (a : Nat) : Option RegRow := regRows.find? (·.covers a)

/-- The rows whose reset value is not zero. -/
def resetRows : List RegRow := [
  ⟨0x0, 1, 0x0, 1, 0x0, 0x32021f9d, 0x0, 0x0, 0x0, 0x0, 0xffffffff⟩,
  ⟨0x4, 1, 0x0, 1, 0x0, 0x211, 0x0, 0x0, 0x0, 0x0, 0xffff⟩,
  ⟨0x10, 1, 0x0, 1, 0x0, 0x132025a7, 0x0, 0x0, 0x0, 0x0, 0xffffffff⟩,
  ⟨0x14, 1, 0x0, 1, 0x0, 0x13a1010, 0x0, 0x0, 0x0, 0x0, 0x1ffffff⟩,
  ⟨0x100000, 1, 0x0, 1, 0x0, 0x1, 0x0, 0x1ff, 0x0, 0x0, 0x0⟩,
  ⟨0x100114, 1, 0x0, 1, 0x0, 0x10000, 0x1ffff, 0x0, 0x0, 0x0, 0x0⟩,
  ⟨0x200000, 1, 0x0, 1, 0x0, 0x200, 0x0, 0x0, 0x0, 0x0, 0x7ff⟩,
  ⟨0x200024, 1, 0x0, 1, 0x0, 0x1, 0x3ff, 0x0, 0x0, 0x0, 0x0⟩,
  ⟨0x200028, 1, 0x0, 1, 0x0, 0xa0, 0x7ff, 0x0, 0x0, 0x0, 0x0⟩,
  ⟨0x200034, 1, 0x0, 1, 0x0, 0x40, 0x7f, 0x0, 0x0, 0x0, 0x0⟩,
  ⟨0x200038, 1, 0x0, 1, 0x0, 0x98d00000, 0xffffffff, 0x0, 0x0, 0x0, 0x0⟩,
  ⟨0x20003c, 1, 0x0, 1, 0x0, 0x71afd4, 0xffffffff, 0x0, 0x0, 0x0, 0x0⟩,
  ⟨0x340000, 2, 0x40000, 1, 0x0, 0x1e, 0x0, 0x0, 0x0, 0x0, 0x1f⟩,
  ⟨0x340008, 2, 0x40000, 1, 0x0, 0x3ff, 0x0, 0x0, 0x0, 0x0, 0x3ff⟩,
  ⟨0x34000c, 2, 0x40000, 1, 0x0, 0x3ff, 0x0, 0x0, 0x0, 0x0, 0x3ff⟩,
  ⟨0x400100, 2, 0x100, 1, 0x0, 0x200, 0x0, 0xf800, 0x0, 0x0, 0x7ff⟩,
  ⟨0x400118, 2, 0x100, 1, 0x0, 0x3d09, 0x0, 0x0, 0x0, 0x0, 0xfffff⟩,
  ⟨0x400120, 2, 0x100, 1, 0x0, 0x3020100, 0x0, 0x0, 0x0, 0x0, 0x1f1f1f1f⟩,
  ⟨0x400124, 2, 0x100, 1, 0x0, 0x7060504, 0x0, 0x0, 0x0, 0x0, 0x1f1f1f1f⟩,
  ⟨0x400128, 2, 0x100, 1, 0x0, 0xb0a0908, 0x0, 0x0, 0x0, 0x0, 0x1f1f1f1f⟩,
  ⟨0x40012c, 2, 0x100, 1, 0x0, 0xf0e0d0c, 0x0, 0x0, 0x0, 0x0, 0x1f1f1f1f⟩,
  ⟨0x440008, 1, 0x0, 1, 0x0, 0x303d09, 0x0, 0x0, 0x0, 0x0, 0x3fffff⟩,
  ⟨0x500000, 1, 0x0, 1, 0x0, 0x30, 0x0, 0x0, 0x0, 0x0, 0xff⟩,
  ⟨0x500004, 1, 0x0, 1, 0x0, 0x2, 0x2, 0x0, 0x0, 0x1, 0x0⟩,
  ⟨0x640018, 2, 0x40000, 1, 0x0, 0xffffffff, 0x0, 0x0, 0x0, 0x0, 0xffffffff⟩,
  ⟨0x740004, 2, 0x40000, 1, 0x0, 0xa, 0x0, 0x0, 0x0, 0x0, 0x1f⟩,
  ⟨0x740008, 2, 0x40000, 1, 0x0, 0x1, 0x0, 0x0, 0x0, 0x0, 0x7⟩,
  ⟨0x74000c, 2, 0x40000, 1, 0x0, 0x900, 0x0, 0x0, 0x0, 0x0, 0xffff⟩,
  ⟨0x740010, 2, 0x40000, 1, 0x0, 0x1, 0x0, 0x0, 0x0, 0x0, 0x7⟩,
  ⟨0x740018, 2, 0x40000, 1, 0x0, 0x1, 0x0, 0x0, 0x0, 0x0, 0x1ffff⟩,
  ⟨0x74001c, 2, 0x40000, 1, 0x0, 0x1fe00, 0x0, 0x0, 0x0, 0x0, 0x1ffff⟩,
  ⟨0x740020, 2, 0x40000, 1, 0x0, 0x1ff, 0x0, 0x0, 0x0, 0x0, 0x1ffff⟩,
  ⟨0x800038, 1, 0x0, 1, 0x0, 0x130, 0x0, 0x0, 0x0, 0x0, 0xffffffff⟩,
  ⟨0x800050, 1, 0x0, 1, 0x0, 0x80, 0x0, 0x0, 0x0, 0x0, 0xffff00ff⟩,
  ⟨0x800064, 1, 0x0, 1, 0x0, 0x1, 0x0, 0x0, 0x0, 0x0, 0xffff0003⟩,
  ⟨0x840040, 1, 0x0, 1, 0x0, 0x1, 0x0, 0x0, 0x0, 0x0, 0x1⟩,
  ⟨0x840080, 1, 0x0, 1, 0x0, 0x1000, 0x0, 0x0, 0x0, 0x0, 0xffffffff⟩,
  ⟨0x840098, 1, 0x0, 1, 0x0, 0x1000, 0x0, 0x0, 0x0, 0x0, 0xffffffff⟩,
  ⟨0x880010, 2, 0x4, 1, 0x0, 0x100, 0x0, 0x0, 0x0, 0x0, 0xffffffff⟩,
  ⟨0x880018, 1, 0x0, 1, 0x0, 0x100, 0x0, 0x0, 0x0, 0x0, 0xffffffff⟩,
  ⟨0x940004, 1, 0x0, 1, 0x0, 0x10004, 0x0, 0x0, 0x0, 0x0, 0x1fffff⟩,
  ⟨0x94000c, 1, 0x0, 1, 0x0, 0x1, 0x0, 0x0, 0x0, 0x0, 0xffffffff⟩,
  ⟨0xa40000, 1, 0x0, 1, 0x0, 0x20210, 0x0, 0x0, 0x0, 0x0, 0xffffffff⟩,
  ⟨0xa40004, 1, 0x0, 1, 0x0, 0x20210, 0x0, 0x0, 0x0, 0x0, 0xffffffff⟩,
  ⟨0xa40008, 1, 0x0, 1, 0x0, 0x100000, 0x0, 0x0, 0x0, 0x0, 0xffffff⟩,
  ⟨0xb0200c, 1, 0x0, 1, 0x0, 0xffff, 0xffff, 0x0, 0x0, 0x0, 0x0⟩,
  ⟨0xc00004, 1, 0x0, 1, 0x0, 0xa, 0xb, 0x0, 0x0, 0x4, 0x0⟩,
  ⟨0xc00028, 1, 0x0, 1, 0x0, 0x82ffff, 0x0, 0x0, 0x0, 0x0, 0xffffffff⟩,
  ⟨0xd03000, 64, 0x40, 1, 0x0, 0xf00, 0xffff0f1f, 0x0, 0x0, 0x0, 0x0⟩,
  ⟨0xd03018, 64, 0x40, 1, 0x0, 0x1114, 0x1f1f, 0x0, 0x0, 0x0, 0x0⟩,
  ⟨0xd0403c, 16, 0x40, 1, 0x0, 0x3e8, 0xffff, 0x0, 0x0, 0x0, 0xffff0000⟩,
  ⟨0xd0e00c, 64, 0x10, 1, 0x0, 0x1, 0x1, 0x0, 0x0, 0x0, 0x0⟩,
  ⟨0xe00000, 1, 0x0, 1, 0x0, 0x6, 0x17, 0x0, 0x0, 0x8, 0x0⟩,
  ⟨0xe00004, 1, 0x0, 1, 0x0, 0x2fa, 0x3ff, 0x0, 0x0, 0x0, 0x0⟩,
  ⟨0xe00008, 1, 0x0, 1, 0x0, 0x6400a00, 0xfff0fff, 0x0, 0x0, 0x0, 0x0⟩,
  ⟨0xe0000c, 1, 0x0, 1, 0x0, 0x411b, 0x1ffff, 0x0, 0x0, 0x0, 0x0⟩,
  ⟨0xf00018, 1, 0x0, 1, 0x0, 0x20000fff, 0x0, 0x0, 0x0, 0x0, 0x3fff0fff⟩,
  ⟨0xf00028, 1, 0x0, 1, 0x0, 0xfff, 0x0, 0x0, 0x0, 0x0, 0xfff0fff⟩,
  ⟨0xf00100, 32, 0x10, 1, 0x0, 0xfff0000, 0x7fff0fff, 0x0, 0x0, 0x0, 0x0⟩,
  ⟨0xf40000, 1, 0x0, 1, 0x0, 0xfffffff, 0x0, 0x0, 0x0, 0x0, 0xffffffff⟩,
  ⟨0x1200028, 1, 0x0, 1, 0x0, 0x6000000, 0x0, 0x0, 0x0, 0x0, 0xffffffff⟩,
  ⟨0x1200040, 1, 0x0, 1, 0x0, 0xa1, 0xfff1, 0x0, 0x0, 0x0, 0x0⟩]

/-- The reset value of the register at `a`: the spec's, and zero where it gives none or no register lies there. -/
def resetVal (a : Nat) : BitVec 32 :=
  match resetRows.find? (·.covers a) with
  | some r => r.reset
  | none => 0

/-- A field of a register: its address, lowest bit and width. -/
structure Fld where
  addr : Nat
  lo : Nat
  width : Nat
deriving DecidableEq, Repr

namespace F

/-- `DEV_ID.VENDOR` (R477), RO. -/
def DEV_ID_VENDOR : Fld := ⟨0x0, 0, 16⟩
/-- `DEV_ID.DEVICE` (R477), RO. -/
def DEV_ID_DEVICE : Fld := ⟨0x0, 16, 16⟩
/-- `DEV_REV.MINOR` (R477), RO. -/
def DEV_REV_MINOR : Fld := ⟨0x4, 0, 4⟩
/-- `DEV_REV.MAJOR` (R477), RO. -/
def DEV_REV_MAJOR : Fld := ⟨0x4, 4, 4⟩
/-- `DEV_REV.MEMBER` (R477), RO. -/
def DEV_REV_MEMBER : Fld := ⟨0x4, 8, 8⟩
/-- `DEV_SERIAL_LO.SERIAL` (R477), RO. -/
def DEV_SERIAL_LO_SERIAL : Fld := ⟨0x8, 0, 32⟩
/-- `DEV_SERIAL_HI.SERIAL` (R477), RO. -/
def DEV_SERIAL_HI_SERIAL : Fld := ⟨0xc, 0, 32⟩
/-- `DEV_IDCODE.IDCODE` (R477), RO. -/
def DEV_IDCODE_IDCODE : Fld := ⟨0x10, 0, 32⟩
/-- `DEV_CAPS.SUBSYS` (R477), RO. -/
def DEV_CAPS_SUBSYS : Fld := ⟨0x14, 0, 8⟩
/-- `DEV_CAPS.BEACON` (R477), RO. -/
def DEV_CAPS_BEACON : Fld := ⟨0x14, 8, 8⟩
/-- `DEV_CAPS.EVENTS` (R477), RO. -/
def DEV_CAPS_EVENTS : Fld := ⟨0x14, 16, 9⟩
/-- `DEV_SCRATCH.DATA` (R477), RW. -/
def DEV_SCRATCH_DATA : Fld := ⟨0x18, 0, 32⟩
/-- `DEV_SWEVT.RAISE` (R477), WO. -/
def DEV_SWEVT_RAISE : Fld := ⟨0x1c, 0, 4⟩
/-- `DEV_GPIO_OE.OE` (R477), RW. -/
def DEV_GPIO_OE_OE : Fld := ⟨0x20, 0, 16⟩
/-- `DEV_GPIO_OUT.OUT` (R477), RW. -/
def DEV_GPIO_OUT_OUT : Fld := ⟨0x24, 0, 16⟩
/-- `DEV_GPIO_IN.IN` (R477), RO. -/
def DEV_GPIO_IN_IN : Fld := ⟨0x28, 0, 16⟩
/-- `DEV_GPIO_EDGE_EN.EN` (R477), RW. -/
def DEV_GPIO_EDGE_EN_EN : Fld := ⟨0x2c, 0, 16⟩
/-- `DEV_GPIO_EDGE_SRC.SRC` (R477), W1C. -/
def DEV_GPIO_EDGE_SRC_SRC : Fld := ⟨0x30, 0, 16⟩
/-- `RST_CAUSE.POR` (R443), W1C. -/
def RST_CAUSE_POR : Fld := ⟨0x100000, 0, 1⟩
/-- `RST_CAUSE.PIN` (R443), W1C. -/
def RST_CAUSE_PIN : Fld := ⟨0x100000, 1, 1⟩
/-- `RST_CAUSE.PERST` (R443), W1C. -/
def RST_CAUSE_PERST : Fld := ⟨0x100000, 2, 1⟩
/-- `RST_CAUSE.HOT` (R443), W1C. -/
def RST_CAUSE_HOT : Fld := ⟨0x100000, 3, 1⟩
/-- `RST_CAUSE.WDT` (R443), W1C. -/
def RST_CAUSE_WDT : Fld := ⟨0x100000, 4, 1⟩
/-- `RST_CAUSE.THERM` (R443), W1C. -/
def RST_CAUSE_THERM : Fld := ⟨0x100000, 5, 1⟩
/-- `RST_CAUSE.BLOCK` (R443), W1C. -/
def RST_CAUSE_BLOCK : Fld := ⟨0x100000, 6, 1⟩
/-- `RST_CAUSE.BIST` (R443), W1C. -/
def RST_CAUSE_BIST : Fld := ⟨0x100000, 7, 1⟩
/-- `RST_CAUSE.LCS` (R443), W1C. -/
def RST_CAUSE_LCS : Fld := ⟨0x100000, 8, 1⟩
/-- `RST_BLOCK_REQ.REQ` (R443), W1S. -/
def RST_BLOCK_REQ_REQ : Fld := ⟨0x100004, 0, 13⟩
/-- `RST_BLOCK_FORCED.FORCED` (R443), W1C. -/
def RST_BLOCK_FORCED_FORCED : Fld := ⟨0x100008, 0, 13⟩
/-- `RST_BLOCK_NOCLK.NOCLK` (R443), W1C. -/
def RST_BLOCK_NOCLK_NOCLK : Fld := ⟨0x10000c, 0, 13⟩
/-- `RST_BLOCK_HELD.HELD` (R443), RO. -/
def RST_BLOCK_HELD_HELD : Fld := ⟨0x100010, 0, 13⟩
/-- `RST_STRAPS.BOOT_SRC` (R443), RO. -/
def RST_STRAPS_BOOT_SRC : Fld := ⟨0x100014, 0, 2⟩
/-- `RST_STRAPS.CLK_MODE` (R443), RO. -/
def RST_STRAPS_CLK_MODE : Fld := ⟨0x100014, 2, 2⟩
/-- `RST_STRAPS.BOOT_USED` (R443), RO. -/
def RST_STRAPS_BOOT_USED : Fld := ⟨0x100014, 4, 2⟩
/-- `RST_STRAPS.CLK_USED` (R443), RO. -/
def RST_STRAPS_CLK_USED : Fld := ⟨0x100014, 6, 2⟩
/-- `PWR_CTRL.TARGET` (R444), RW. -/
def PWR_CTRL_TARGET : Fld := ⟨0x100100, 0, 3⟩
/-- `PWR_CTRL.AT` (R444), RW. -/
def PWR_CTRL_AT : Fld := ⟨0x100100, 3, 1⟩
/-- `PWR_CTRL.GO` (R444), WO. -/
def PWR_CTRL_GO : Fld := ⟨0x100100, 4, 1⟩
/-- `PWR_CTRL.D3_SLEEP` (R444), RW. -/
def PWR_CTRL_D3_SLEEP : Fld := ⟨0x100100, 5, 1⟩
/-- `PWR_TICK_LO.TICK` (R444), RW. -/
def PWR_TICK_LO_TICK : Fld := ⟨0x100108, 0, 32⟩
/-- `PWR_TICK_HI.TICK` (R444), RW. -/
def PWR_TICK_HI_TICK : Fld := ⟨0x10010c, 0, 32⟩
/-- `PWR_STATUS.STATE` (R444), RO. -/
def PWR_STATUS_STATE : Fld := ⟨0x100110, 0, 3⟩
/-- `PWR_STATUS.BUSY` (R444), RO. -/
def PWR_STATUS_BUSY : Fld := ⟨0x100110, 3, 1⟩
/-- `PWR_STATUS.RESULT` (R444), RO. -/
def PWR_STATUS_RESULT : Fld := ⟨0x100110, 4, 4⟩
/-- `PWR_STATUS.WARN` (R444), RO. -/
def PWR_STATUS_WARN : Fld := ⟨0x100110, 8, 1⟩
/-- `PWR_STATUS.DMA_WAIT` (R444), RO. -/
def PWR_STATUS_DMA_WAIT : Fld := ⟨0x100110, 9, 1⟩
/-- `PWR_WAKE_CFG.GPIO` (R444), RW. -/
def PWR_WAKE_CFG_GPIO : Fld := ⟨0x100114, 0, 16⟩
/-- `PWR_WAKE_CFG.GAUGE` (R444), RW. -/
def PWR_WAKE_CFG_GAUGE : Fld := ⟨0x100114, 16, 1⟩
/-- `PWR_WAKE_SRC.GPIO` (R444), W1C. -/
def PWR_WAKE_SRC_GPIO : Fld := ⟨0x100118, 0, 16⟩
/-- `PWR_WAKE_SRC.GAUGE` (R444), W1C. -/
def PWR_WAKE_SRC_GAUGE : Fld := ⟨0x100118, 16, 1⟩
/-- `PWR_WAKE_SRC.HOST` (R444), W1C. -/
def PWR_WAKE_SRC_HOST : Fld := ⟨0x100118, 17, 1⟩
/-- `PWR_FOG_CAUSE.CAUSE` (R444), ROS. -/
def PWR_FOG_CAUSE_CAUSE : Fld := ⟨0x100120, 0, 5⟩
/-- `PWR_FOG_OPSEC.SEC` (R444), RO. -/
def PWR_FOG_OPSEC_SEC : Fld := ⟨0x100124, 0, 32⟩
/-- `PWR_THERM.HOT` (R444), RO. -/
def PWR_THERM_HOT : Fld := ⟨0x100128, 0, 1⟩
/-- `PWR_THERM.TRIPPED` (R444), W1C. -/
def PWR_THERM_TRIPPED : Fld := ⟨0x100128, 1, 1⟩
/-- `PWR_THERM.SENSOR` (R444), RO. -/
def PWR_THERM_SENSOR : Fld := ⟨0x100128, 8, 4⟩
/-- `PWR_PAUSE_LO.TICK` (R444), RO. -/
def PWR_PAUSE_LO_TICK : Fld := ⟨0x100130, 0, 32⟩
/-- `PWR_PAUSE_HI.TICK` (R444), RO. -/
def PWR_PAUSE_HI_TICK : Fld := ⟨0x100134, 0, 32⟩
/-- `PWR_RESUME_LO.TICK` (R444), RO. -/
def PWR_RESUME_LO_TICK : Fld := ⟨0x100138, 0, 32⟩
/-- `PWR_RESUME_HI.TICK` (R444), RO. -/
def PWR_RESUME_HI_TICK : Fld := ⟨0x10013c, 0, 32⟩
/-- `CLK_STATUS.MODE` (R201), RO. -/
def CLK_STATUS_MODE : Fld := ⟨0x200000, 0, 2⟩
/-- `CLK_STATUS.SC_LOCKED` (R201), RO. -/
def CLK_STATUS_SC_LOCKED : Fld := ⟨0x200000, 2, 1⟩
/-- `CLK_STATUS.SC_HOLDOVER` (R201), RO. -/
def CLK_STATUS_SC_HOLDOVER : Fld := ⟨0x200000, 3, 1⟩
/-- `CLK_STATUS.TOWER_LOCKED` (R201), RO. -/
def CLK_STATUS_TOWER_LOCKED : Fld := ⟨0x200000, 4, 1⟩
/-- `CLK_STATUS.ON_BACKUP` (R201), RO. -/
def CLK_STATUS_ON_BACKUP : Fld := ⟨0x200000, 5, 1⟩
/-- `CLK_STATUS.MEM_LOCKED` (R201), RO. -/
def CLK_STATUS_MEM_LOCKED : Fld := ⟨0x200000, 6, 1⟩
/-- `CLK_STATUS.PANEL_LOCKED` (R201), RO. -/
def CLK_STATUS_PANEL_LOCKED : Fld := ⟨0x200000, 7, 1⟩
/-- `CLK_STATUS.HCLK_OK` (R201), RO. -/
def CLK_STATUS_HCLK_OK : Fld := ⟨0x200000, 8, 1⟩
/-- `CLK_STATUS.ACLK_OK` (R201), RO. -/
def CLK_STATUS_ACLK_OK : Fld := ⟨0x200000, 9, 1⟩
/-- `CLK_STATUS.REF_PRESENT` (R201), RO. -/
def CLK_STATUS_REF_PRESENT : Fld := ⟨0x200000, 10, 1⟩
/-- `CLK_REF_STATUS.FREQ` (R201), RO. -/
def CLK_REF_STATUS_FREQ : Fld := ⟨0x200004, 0, 20⟩
/-- `CLK_REF_STATUS.RANGE_ERR` (R201), RO. -/
def CLK_REF_STATUS_RANGE_ERR : Fld := ⟨0x200004, 20, 1⟩
/-- `CLK_REF_STATUS.ABSENT_SEEN` (R201), W1C. -/
def CLK_REF_STATUS_ABSENT_SEEN : Fld := ⟨0x200004, 21, 1⟩
/-- `CLK_REF_NOM.HZ` (R201), RW. -/
def CLK_REF_NOM_HZ : Fld := ⟨0x200008, 0, 32⟩
/-- `CLK_CFG_ERR.CODE` (R201), RO. -/
def CLK_CFG_ERR_CODE : Fld := ⟨0x20000c, 0, 4⟩
/-- `CLK_SYS_CTRL.START` (R201), W1S. -/
def CLK_SYS_CTRL_START : Fld := ⟨0x200010, 0, 1⟩
/-- `CLK_SC_CTRL.APPLY` (R201), WO. -/
def CLK_SC_CTRL_APPLY : Fld := ⟨0x200020, 0, 1⟩
/-- `CLK_SC_CTRL.EXACT` (R201), RW. -/
def CLK_SC_CTRL_EXACT : Fld := ⟨0x200020, 1, 1⟩
/-- `CLK_SC_RDIV.RDIV` (R201), RW. -/
def CLK_SC_RDIV_RDIV : Fld := ⟨0x200024, 0, 10⟩
/-- `CLK_SC_NINT.NINT` (R201), RW. -/
def CLK_SC_NINT_NINT : Fld := ⟨0x200028, 0, 11⟩
/-- `CLK_SC_NUM.NUM` (R201), RW. -/
def CLK_SC_NUM_NUM : Fld := ⟨0x20002c, 0, 32⟩
/-- `CLK_SC_DEN.DEN` (R201), RW. -/
def CLK_SC_DEN_DEN : Fld := ⟨0x200030, 0, 32⟩
/-- `CLK_SC_MDLL.M` (R201), RW. -/
def CLK_SC_MDLL_M : Fld := ⟨0x200034, 0, 7⟩
/-- `CLK_SC_RATE_LO.RATE` (R201), RW. -/
def CLK_SC_RATE_LO_RATE : Fld := ⟨0x200038, 0, 32⟩
/-- `CLK_SC_RATE_HI.RATE` (R201), RW. -/
def CLK_SC_RATE_HI_RATE : Fld := ⟨0x20003c, 0, 32⟩
/-- `CLK_SC_STATUS.STATE` (R201), RO. -/
def CLK_SC_STATUS_STATE : Fld := ⟨0x200040, 0, 3⟩
/-- `CLK_SC_STATUS.RELOCKS` (R201), RO. -/
def CLK_SC_STATUS_RELOCKS : Fld := ⟨0x200040, 16, 16⟩
/-- `CLK_SC_LOST_LO.TICK` (R201), RO. -/
def CLK_SC_LOST_LO_TICK : Fld := ⟨0x200048, 0, 32⟩
/-- `CLK_SC_LOST_HI.TICK` (R201), RO. -/
def CLK_SC_LOST_HI_TICK : Fld := ⟨0x20004c, 0, 32⟩
/-- `CLK_SC_VCO.FREQ` (R201), RO. -/
def CLK_SC_VCO_FREQ : Fld := ⟨0x200050, 0, 25⟩
/-- `CLK_SPREAD_TOWER.MODE` (R201), RW. -/
def CLK_SPREAD_TOWER_MODE : Fld := ⟨0x200060, 0, 2⟩
/-- `CLK_SPREAD_TOWER.DEPTH` (R201), RW. -/
def CLK_SPREAD_TOWER_DEPTH : Fld := ⟨0x200060, 2, 4⟩
/-- `CLK_SPREAD_TOWER.RATE` (R201), RW. -/
def CLK_SPREAD_TOWER_RATE : Fld := ⟨0x200060, 6, 2⟩
/-- `CLK_SPREAD_PANEL.MODE` (R201), RW. -/
def CLK_SPREAD_PANEL_MODE : Fld := ⟨0x200064, 0, 2⟩
/-- `CLK_SPREAD_PANEL.DEPTH` (R201), RW. -/
def CLK_SPREAD_PANEL_DEPTH : Fld := ⟨0x200064, 2, 4⟩
/-- `CLK_SPREAD_PANEL.RATE` (R201), RW. -/
def CLK_SPREAD_PANEL_RATE : Fld := ⟨0x200064, 6, 2⟩
/-- `CLK_SPREAD_MEM.MODE` (R201), RW. -/
def CLK_SPREAD_MEM_MODE : Fld := ⟨0x200068, 0, 2⟩
/-- `CLK_SPREAD_MEM.DEPTH` (R201), RW. -/
def CLK_SPREAD_MEM_DEPTH : Fld := ⟨0x200068, 2, 4⟩
/-- `CLK_SPREAD_MEM.RATE` (R201), RW. -/
def CLK_SPREAD_MEM_RATE : Fld := ⟨0x200068, 6, 2⟩
/-- `CLK_SPREAD_MEM.PENDING` (R201), RO. -/
def CLK_SPREAD_MEM_PENDING : Fld := ⟨0x200068, 8, 1⟩
/-- `LMP_GLOBAL_STATUS.RETURN_OK` (R164), RO. -/
def LMP_GLOBAL_STATUS_RETURN_OK : Fld := ⟨0x300000, 0, 1⟩
/-- `LMP_GLOBAL_STATUS.TO0_FORCED` (R164), RO. -/
def LMP_GLOBAL_STATUS_TO0_FORCED : Fld := ⟨0x300000, 1, 1⟩
/-- `LMP_GLOBAL_STATUS.TO1_FORCED` (R164), RO. -/
def LMP_GLOBAL_STATUS_TO1_FORCED : Fld := ⟨0x300000, 2, 1⟩
/-- `LMP_GLOBAL_STATUS.TO0_SRC` (R164), RO. -/
def LMP_GLOBAL_STATUS_TO0_SRC : Fld := ⟨0x300000, 3, 1⟩
/-- `LMP_GLOBAL_STATUS.TO1_SRC` (R164), RO. -/
def LMP_GLOBAL_STATUS_TO1_SRC : Fld := ⟨0x300000, 4, 1⟩
/-- `LMP_PENDING.PEND_A` (R164), RO. -/
def LMP_PENDING_PEND_A : Fld := ⟨0x300004, 0, 9⟩
/-- `LMP_PENDING.PEND_B` (R164), RO. -/
def LMP_PENDING_PEND_B : Fld := ⟨0x300004, 16, 9⟩
/-- `LMP_n_STATUS.SETTLING` (R164), RO. -/
def LMP_n_STATUS_SETTLING (n : Nat) : Fld := ⟨0x300100 + n * 0x100, 0, 1⟩
/-- `LMP_n_STATUS.OVR_ACTIVE` (R164), RO. -/
def LMP_n_STATUS_OVR_ACTIVE (n : Nat) : Fld := ⟨0x300100 + n * 0x100, 1, 1⟩
/-- `LMP_n_STATUS.EPISODE` (R164), RO. -/
def LMP_n_STATUS_EPISODE (n : Nat) : Fld := ⟨0x300100 + n * 0x100, 2, 1⟩
/-- `LMP_n_STATUS.FT_HOLD0` (R164), RO. -/
def LMP_n_STATUS_FT_HOLD0 (n : Nat) : Fld := ⟨0x300100 + n * 0x100, 3, 1⟩
/-- `LMP_n_STATUS.FT_HOLD1` (R164), RO. -/
def LMP_n_STATUS_FT_HOLD1 (n : Nat) : Fld := ⟨0x300100 + n * 0x100, 4, 1⟩
/-- `LMP_n_STATUS.CMP0` (R164), RO. -/
def LMP_n_STATUS_CMP0 (n : Nat) : Fld := ⟨0x300100 + n * 0x100, 5, 1⟩
/-- `LMP_n_STATUS.CMP1` (R164), RO. -/
def LMP_n_STATUS_CMP1 (n : Nat) : Fld := ⟨0x300100 + n * 0x100, 6, 1⟩
/-- `LMP_n_STATUS.OVR_SEEN` (R164), W1C. -/
def LMP_n_STATUS_OVR_SEEN (n : Nat) : Fld := ⟨0x300100 + n * 0x100, 7, 1⟩
/-- `LMP_n_STATUS.TRIP_SEEN` (R164), W1C. -/
def LMP_n_STATUS_TRIP_SEEN (n : Nat) : Fld := ⟨0x300100 + n * 0x100, 8, 1⟩
/-- `LMP_n_STATUS.REFUSED` (R164), W1C. -/
def LMP_n_STATUS_REFUSED (n : Nat) : Fld := ⟨0x300100 + n * 0x100, 9, 1⟩
/-- `LMP_n_OVR_EPISODES.COUNT` (R164), RO. -/
def LMP_n_OVR_EPISODES_COUNT (n : Nat) : Fld := ⟨0x300104 + n * 0x100, 0, 32⟩
/-- `LMP_n_OVR_SAMPLES_LO.COUNT` (R164), RO. -/
def LMP_n_OVR_SAMPLES_LO_COUNT (n : Nat) : Fld := ⟨0x300108 + n * 0x100, 0, 32⟩
/-- `LMP_n_OVR_SAMPLES_HI.COUNT` (R164), RO. -/
def LMP_n_OVR_SAMPLES_HI_COUNT (n : Nat) : Fld := ⟨0x30010c + n * 0x100, 0, 32⟩
/-- `LMP_n_PEAK.PEAK` (R164), RO. -/
def LMP_n_PEAK_PEAK (n : Nat) : Fld := ⟨0x300110 + n * 0x100, 0, 12⟩
/-- `LMP_n_PEAK.CLEAR` (R164), WO. -/
def LMP_n_PEAK_CLEAR (n : Nat) : Fld := ⟨0x300110 + n * 0x100, 16, 1⟩
/-- `LMP_n_CMP_EDGES.RISE0` (R164), RO. -/
def LMP_n_CMP_EDGES_RISE0 (n : Nat) : Fld := ⟨0x300114 + n * 0x100, 0, 16⟩
/-- `LMP_n_CMP_EDGES.RISE1` (R164), RO. -/
def LMP_n_CMP_EDGES_RISE1 (n : Nat) : Fld := ⟨0x300114 + n * 0x100, 16, 16⟩
/-- `LMP_n_EVT_CTRL.FT0_EVT` (R164), RW. -/
def LMP_n_EVT_CTRL_FT0_EVT (n : Nat) : Fld := ⟨0x300118 + n * 0x100, 0, 1⟩
/-- `LMP_n_EVT_CTRL.FT1_EVT` (R164), RW. -/
def LMP_n_EVT_CTRL_FT1_EVT (n : Nat) : Fld := ⟨0x300118 + n * 0x100, 1, 1⟩
/-- `LMP_n_LAST_REFUSE.SEL` (R164), RO. -/
def LMP_n_LAST_REFUSE_SEL (n : Nat) : Fld := ⟨0x30011c + n * 0x100, 0, 4⟩
/-- `LMP_n_LAST_REFUSE.REASON` (R164), RO. -/
def LMP_n_LAST_REFUSE_REASON (n : Nat) : Fld := ⟨0x30011c + n * 0x100, 4, 4⟩
/-- `LMP_n_ATTEN.DB` (R163), RO. -/
def LMP_n_ATTEN_DB (n : Nat) : Fld := ⟨0x340000 + n * 0x40000, 0, 5⟩
/-- `LMP_n_PREAMP.ON` (R163), RO. -/
def LMP_n_PREAMP_ON (n : Nat) : Fld := ⟨0x340004 + n * 0x40000, 0, 1⟩
/-- `LMP_n_FT_THR0.THR` (R163), RO. -/
def LMP_n_FT_THR0_THR (n : Nat) : Fld := ⟨0x340008 + n * 0x40000, 0, 10⟩
/-- `LMP_n_FT_THR1.THR` (R163), RO. -/
def LMP_n_FT_THR1_THR (n : Nat) : Fld := ⟨0x34000c + n * 0x40000, 0, 10⟩
/-- `LMP_n_FT_CTRL.VAL` (R163), RO. -/
def LMP_n_FT_CTRL_VAL (n : Nat) : Fld := ⟨0x340010 + n * 0x40000, 0, 16⟩
/-- `CAL_STATUS.TRIM_STATE` (R184), RO. -/
def CAL_STATUS_TRIM_STATE : Fld := ⟨0x400000, 0, 2⟩
/-- `CAL_STATUS.CRC_FAILS` (R184), RO. -/
def CAL_STATUS_CRC_FAILS : Fld := ⟨0x400000, 2, 2⟩
/-- `CAL_STATUS.USER_BAD` (R184), RO. -/
def CAL_STATUS_USER_BAD : Fld := ⟨0x400000, 4, 1⟩
/-- `CAL_STATUS.FUSE_REV` (R184), RO. -/
def CAL_STATUS_FUSE_REV : Fld := ⟨0x400000, 8, 8⟩
/-- `CAL_REFUSE.SEL` (R184), RO. -/
def CAL_REFUSE_SEL : Fld := ⟨0x400004, 0, 2⟩
/-- `CAL_REFUSE.REASON` (R184), RO. -/
def CAL_REFUSE_REASON : Fld := ⟨0x400004, 4, 4⟩
/-- `CAL_n_STATUS.FRZ_EP` (R184), RO. -/
def CAL_n_STATUS_FRZ_EP (n : Nat) : Fld := ⟨0x400100 + n * 0x100, 0, 1⟩
/-- `CAL_n_STATUS.FRZ_PRG` (R184), RO. -/
def CAL_n_STATUS_FRZ_PRG (n : Nat) : Fld := ⟨0x400100 + n * 0x100, 1, 1⟩
/-- `CAL_n_STATUS.WINDOW` (R184), RO. -/
def CAL_n_STATUS_WINDOW (n : Nat) : Fld := ⟨0x400100 + n * 0x100, 2, 2⟩
/-- `CAL_n_STATUS.RETIRED` (R184), RO. -/
def CAL_n_STATUS_RETIRED (n : Nat) : Fld := ⟨0x400100 + n * 0x100, 4, 1⟩
/-- `CAL_n_STATUS.RELIEF` (R184), RO. -/
def CAL_n_STATUS_RELIEF (n : Nat) : Fld := ⟨0x400100 + n * 0x100, 5, 5⟩
/-- `CAL_n_STATUS.DEFER_PEND` (R184), RO. -/
def CAL_n_STATUS_DEFER_PEND (n : Nat) : Fld := ⟨0x400100 + n * 0x100, 10, 1⟩
/-- `CAL_n_STATUS.PARTIAL` (R184), W1C. -/
def CAL_n_STATUS_PARTIAL (n : Nat) : Fld := ⟨0x400100 + n * 0x100, 11, 1⟩
/-- `CAL_n_STATUS.PLAUS` (R184), W1C. -/
def CAL_n_STATUS_PLAUS (n : Nat) : Fld := ⟨0x400100 + n * 0x100, 12, 1⟩
/-- `CAL_n_STATUS.MISSED` (R184), W1C. -/
def CAL_n_STATUS_MISSED (n : Nat) : Fld := ⟨0x400100 + n * 0x100, 13, 1⟩
/-- `CAL_n_STATUS.CLAMP` (R184), W1C. -/
def CAL_n_STATUS_CLAMP (n : Nat) : Fld := ⟨0x400100 + n * 0x100, 14, 1⟩
/-- `CAL_n_STATUS.LOWSIG` (R184), W1C. -/
def CAL_n_STATUS_LOWSIG (n : Nat) : Fld := ⟨0x400100 + n * 0x100, 15, 1⟩
/-- `CAL_n_STEPS.STEP` (R184), RO. -/
def CAL_n_STEPS_STEP (n : Nat) : Fld := ⟨0x400104 + n * 0x100, 0, 32⟩
/-- `CAL_n_LAST_SWAP_LO.TICK` (R184), RO. -/
def CAL_n_LAST_SWAP_LO_TICK (n : Nat) : Fld := ⟨0x400108 + n * 0x100, 0, 32⟩
/-- `CAL_n_LAST_SWAP_HI.TICK` (R184), RO. -/
def CAL_n_LAST_SWAP_HI_TICK (n : Nat) : Fld := ⟨0x40010c + n * 0x100, 0, 32⟩
/-- `CAL_n_NEXT_GRID_LO.TICK` (R184), RO. -/
def CAL_n_NEXT_GRID_LO_TICK (n : Nat) : Fld := ⟨0x400110 + n * 0x100, 0, 32⟩
/-- `CAL_n_NEXT_GRID_HI.TICK` (R184), RO. -/
def CAL_n_NEXT_GRID_HI_TICK (n : Nat) : Fld := ⟨0x400114 + n * 0x100, 0, 32⟩
/-- `CAL_n_SCHED.PERIOD` (R184), RO. -/
def CAL_n_SCHED_PERIOD (n : Nat) : Fld := ⟨0x400118 + n * 0x100, 0, 20⟩
/-- `CAL_n_PLAUS.SLICE` (R184), RO. -/
def CAL_n_PLAUS_SLICE (n : Nat) : Fld := ⟨0x40011c + n * 0x100, 0, 5⟩
/-- `CAL_n_PLAUS.REASON` (R184), RO. -/
def CAL_n_PLAUS_REASON (n : Nat) : Fld := ⟨0x40011c + n * 0x100, 5, 3⟩
/-- `CAL_n_PLAUS.SUCC` (R184), RO. -/
def CAL_n_PLAUS_SUCC (n : Nat) : Fld := ⟨0x40011c + n * 0x100, 8, 2⟩
/-- `CAL_n_PLAUS.COUNT` (R184), RO. -/
def CAL_n_PLAUS_COUNT (n : Nat) : Fld := ⟨0x40011c + n * 0x100, 16, 16⟩
/-- `CAL_n_MAPr.B0` (R184), RO. -/
def CAL_n_MAPr_B0 (n r : Nat) : Fld := ⟨0x400120 + n * 0x100 + r * 0x4, 0, 5⟩
/-- `CAL_n_MAPr.B1` (R184), RO. -/
def CAL_n_MAPr_B1 (n r : Nat) : Fld := ⟨0x400120 + n * 0x100 + r * 0x4, 8, 5⟩
/-- `CAL_n_MAPr.B2` (R184), RO. -/
def CAL_n_MAPr_B2 (n r : Nat) : Fld := ⟨0x400120 + n * 0x100 + r * 0x4, 16, 5⟩
/-- `CAL_n_MAPr.B3` (R184), RO. -/
def CAL_n_MAPr_B3 (n r : Nat) : Fld := ⟨0x400120 + n * 0x100 + r * 0x4, 24, 5⟩
/-- `CAL_n_USER_STAGE.VAL` (R184), RW. -/
def CAL_n_USER_STAGE_VAL (n : Nat) : Fld := ⟨0x400130 + n * 0x100, 0, 32⟩
/-- `CAL_n_USER.VAL` (R184), RO. -/
def CAL_n_USER_VAL (n : Nat) : Fld := ⟨0x400134 + n * 0x100, 0, 32⟩
/-- `CAL_n_COUNTS.PARTIAL` (R184), RO. -/
def CAL_n_COUNTS_PARTIAL (n : Nat) : Fld := ⟨0x400138 + n * 0x100, 0, 16⟩
/-- `CAL_n_COUNTS.MISSED` (R184), RO. -/
def CAL_n_COUNTS_MISSED (n : Nat) : Fld := ⟨0x400138 + n * 0x100, 16, 16⟩
/-- `CAL_n_s_TRIM.WORD` (R184), RO. -/
def CAL_n_s_TRIM_WORD (n s : Nat) : Fld := ⟨0x401000 + n * 0x200 + s * 0x10, 0, 32⟩
/-- `CAL_n_s_FUSE.WORD` (R184), RO. -/
def CAL_n_s_FUSE_WORD (n s : Nat) : Fld := ⟨0x401004 + n * 0x200 + s * 0x10, 0, 32⟩
/-- `CAL_n_s_BG.WORD` (R184), RO. -/
def CAL_n_s_BG_WORD (n s : Nat) : Fld := ⟨0x401008 + n * 0x200 + s * 0x10, 0, 32⟩
/-- `CAL_FREEZE.FRZ` (R183), RO. -/
def CAL_FREEZE_FRZ : Fld := ⟨0x440000, 0, 2⟩
/-- `CAL_SWAP_SCHED.VAL` (R183), RO. -/
def CAL_SWAP_SCHED_VAL : Fld := ⟨0x440008, 0, 22⟩
/-- `TTH_STATUS.FWD_UP` (R215), RO. -/
def TTH_STATUS_FWD_UP : Fld := ⟨0x500000, 0, 1⟩
/-- `TTH_STATUS.RET_UP` (R215), RO. -/
def TTH_STATUS_RET_UP : Fld := ⟨0x500000, 1, 1⟩
/-- `TTH_STATUS.TRAINING` (R215), RO. -/
def TTH_STATUS_TRAINING : Fld := ⟨0x500000, 2, 1⟩
/-- `TTH_STATUS.FWD_SPARES` (R215), RO. -/
def TTH_STATUS_FWD_SPARES : Fld := ⟨0x500000, 3, 2⟩
/-- `TTH_STATUS.RET_SPARE` (R215), RO. -/
def TTH_STATUS_RET_SPARE : Fld := ⟨0x500000, 5, 1⟩
/-- `TTH_STATUS.CLK_LANE` (R215), RO. -/
def TTH_STATUS_CLK_LANE : Fld := ⟨0x500000, 6, 1⟩
/-- `TTH_STATUS.FAILED` (R215), RO. -/
def TTH_STATUS_FAILED : Fld := ⟨0x500000, 7, 1⟩
/-- `TTH_CTRL.RETRAIN` (R215), WO. -/
def TTH_CTRL_RETRAIN : Fld := ⟨0x500004, 0, 1⟩
/-- `TTH_CTRL.PREV_EN` (R215), RW. -/
def TTH_CTRL_PREV_EN : Fld := ⟨0x500004, 1, 1⟩
/-- `TTH_FWD_BAD_LO.BAD` (R215), RO. -/
def TTH_FWD_BAD_LO_BAD : Fld := ⟨0x500008, 0, 32⟩
/-- `TTH_FWD_BAD_HI.BAD` (R215), RO. -/
def TTH_FWD_BAD_HI_BAD : Fld := ⟨0x50000c, 0, 2⟩
/-- `TTH_FWD_BAD_HI.CLK_BAD` (R215), RO. -/
def TTH_FWD_BAD_HI_CLK_BAD : Fld := ⟨0x50000c, 2, 2⟩
/-- `TTH_FWD_FUSE_LO.FUSE` (R215), RO. -/
def TTH_FWD_FUSE_LO_FUSE : Fld := ⟨0x500010, 0, 32⟩
/-- `TTH_FWD_FUSE_HI.FUSE` (R215), RO. -/
def TTH_FWD_FUSE_HI_FUSE : Fld := ⟨0x500014, 0, 2⟩
/-- `TTH_RET_BAD.BAD` (R215), RO. -/
def TTH_RET_BAD_BAD : Fld := ⟨0x500018, 0, 3⟩
/-- `TTH_RET_BAD.FUSE` (R215), RO. -/
def TTH_RET_BAD_FUSE : Fld := ⟨0x500018, 4, 3⟩
/-- `TTH_FRAMES_LO.COUNT` (R215), RO. -/
def TTH_FRAMES_LO_COUNT : Fld := ⟨0x500020, 0, 32⟩
/-- `TTH_FRAMES_HI.COUNT` (R215), RO. -/
def TTH_FRAMES_HI_COUNT : Fld := ⟨0x500024, 0, 32⟩
/-- `TTH_CRC_ERRS.COUNT` (R215), RO. -/
def TTH_CRC_ERRS_COUNT : Fld := ⟨0x500028, 0, 32⟩
/-- `TTH_RET_ERRS.CRC` (R215), RO. -/
def TTH_RET_ERRS_CRC : Fld := ⟨0x50002c, 0, 16⟩
/-- `TTH_RET_ERRS.RESENT` (R215), RO. -/
def TTH_RET_ERRS_RESENT : Fld := ⟨0x50002c, 16, 16⟩
/-- `TTH_LANE_SEL.LANE` (R215), RW. -/
def TTH_LANE_SEL_LANE : Fld := ⟨0x500030, 0, 6⟩
/-- `TTH_LANE_ERRS.ATTR` (R215), RO. -/
def TTH_LANE_ERRS_ATTR : Fld := ⟨0x500034, 0, 16⟩
/-- `TTH_LANE_ERRS.SYNC` (R215), RO. -/
def TTH_LANE_ERRS_SYNC : Fld := ⟨0x500034, 16, 16⟩
/-- `TTH_LANE_MARGIN.MARGIN` (R215), RO. -/
def TTH_LANE_MARGIN_MARGIN : Fld := ⟨0x500038, 0, 8⟩
/-- `TTH_LAST_SWITCH_LO.TICK` (R215), RO. -/
def TTH_LAST_SWITCH_LO_TICK : Fld := ⟨0x500040, 0, 32⟩
/-- `TTH_LAST_SWITCH_HI.TICK` (R215), RO. -/
def TTH_LAST_SWITCH_HI_TICK : Fld := ⟨0x500044, 0, 32⟩
/-- `TTH_GAP_BLOCKS.COUNT` (R215), RO. -/
def TTH_GAP_BLOCKS_COUNT : Fld := ⟨0x500048, 0, 32⟩
/-- `TTH_RET_DISCARD.COUNT` (R215), RO. -/
def TTH_RET_DISCARD_COUNT : Fld := ⟨0x50004c, 0, 16⟩
/-- `FLT_n_STATUS.K_EFF` (R235), RO. -/
def FLT_n_STATUS_K_EFF (n : Nat) : Fld := ⟨0x600000 + n * 0x100, 0, 5⟩
/-- `FLT_n_STATUS.FULL` (R235), RO. -/
def FLT_n_STATUS_FULL (n : Nat) : Fld := ⟨0x600000 + n * 0x100, 5, 1⟩
/-- `FLT_n_STATUS.SETTLING` (R235), RO. -/
def FLT_n_STATUS_SETTLING (n : Nat) : Fld := ⟨0x600000 + n * 0x100, 6, 1⟩
/-- `FLT_n_STATUS.THR_STATE` (R235), RO. -/
def FLT_n_STATUS_THR_STATE (n : Nat) : Fld := ⟨0x600000 + n * 0x100, 7, 1⟩
/-- `FLT_n_STATUS.SAT_SEEN` (R235), W1C. -/
def FLT_n_STATUS_SAT_SEEN (n : Nat) : Fld := ⟨0x600000 + n * 0x100, 8, 1⟩
/-- `FLT_n_STATUS.REFUSED` (R235), W1C. -/
def FLT_n_STATUS_REFUSED (n : Nat) : Fld := ⟨0x600000 + n * 0x100, 9, 1⟩
/-- `FLT_n_STATUS.EXCESS_SEEN` (R235), W1C. -/
def FLT_n_STATUS_EXCESS_SEEN (n : Nat) : Fld := ⟨0x600000 + n * 0x100, 10, 1⟩
/-- `FLT_n_RESTART_LO.TICK` (R235), RO. -/
def FLT_n_RESTART_LO_TICK (n : Nat) : Fld := ⟨0x600008 + n * 0x100, 0, 32⟩
/-- `FLT_n_RESTART_HI.TICK` (R235), RO. -/
def FLT_n_RESTART_HI_TICK (n : Nat) : Fld := ⟨0x60000c + n * 0x100, 0, 32⟩
/-- `FLT_n_RESTARTS.COUNT` (R235), RO. -/
def FLT_n_RESTARTS_COUNT (n : Nat) : Fld := ⟨0x600010 + n * 0x100, 0, 32⟩
/-- `FLT_n_SAT_COUNT.COUNT` (R235), RO. -/
def FLT_n_SAT_COUNT_COUNT (n : Nat) : Fld := ⟨0x600014 + n * 0x100, 0, 32⟩
/-- `FLT_n_THR_LISTED.COUNT` (R235), RO. -/
def FLT_n_THR_LISTED_COUNT (n : Nat) : Fld := ⟨0x600018 + n * 0x100, 0, 32⟩
/-- `FLT_n_THR_EXCESS.COUNT` (R235), RO. -/
def FLT_n_THR_EXCESS_COUNT (n : Nat) : Fld := ⟨0x60001c + n * 0x100, 0, 32⟩
/-- `FLT_n_LAST_REFUSE.SEL` (R235), RO. -/
def FLT_n_LAST_REFUSE_SEL (n : Nat) : Fld := ⟨0x600020 + n * 0x100, 0, 4⟩
/-- `FLT_n_LAST_REFUSE.REASON` (R235), RO. -/
def FLT_n_LAST_REFUSE_REASON (n : Nat) : Fld := ⟨0x600020 + n * 0x100, 4, 4⟩
/-- `FLT_n_EVT_CTRL.THR_EVT` (R235), RW. -/
def FLT_n_EVT_CTRL_THR_EVT (n : Nat) : Fld := ⟨0x600024 + n * 0x100, 0, 1⟩
/-- `FLT_n_TRACE.VALUE` (R235), RO. -/
def FLT_n_TRACE_VALUE (n : Nat) : Fld := ⟨0x600028 + n * 0x100, 0, 32⟩
/-- `FLT_n_NCO_FREQ_LO.FREQ_LO` (R234), RO. -/
def FLT_n_NCO_FREQ_LO_FREQ_LO (n : Nat) : Fld := ⟨0x640000 + n * 0x40000, 0, 32⟩
/-- `FLT_n_NCO_FREQ_HI.FREQ_HI` (R234), RO. -/
def FLT_n_NCO_FREQ_HI_FREQ_HI (n : Nat) : Fld := ⟨0x640004 + n * 0x40000, 0, 16⟩
/-- `FLT_n_NCO_PHASE.PHASE` (R234), RO. -/
def FLT_n_NCO_PHASE_PHASE (n : Nat) : Fld := ⟨0x640008 + n * 0x40000, 0, 16⟩
/-- `FLT_n_DEC_K.K` (R234), RO. -/
def FLT_n_DEC_K_K (n : Nat) : Fld := ⟨0x64000c + n * 0x40000, 0, 5⟩
/-- `FLT_n_SPAN_MODE.FULL` (R234), RO. -/
def FLT_n_SPAN_MODE_FULL (n : Nat) : Fld := ⟨0x640010 + n * 0x40000, 0, 1⟩
/-- `FLT_n_RANK_CTRL.VAL` (R234), RO. -/
def FLT_n_RANK_CTRL_VAL (n : Nat) : Fld := ⟨0x640014 + n * 0x40000, 0, 9⟩
/-- `FLT_n_THR_HIGH.HIGH` (R234), RO. -/
def FLT_n_THR_HIGH_HIGH (n : Nat) : Fld := ⟨0x640018 + n * 0x40000, 0, 32⟩
/-- `FLT_n_THR_LOW.LOW` (R234), RO. -/
def FLT_n_THR_LOW_LOW (n : Nat) : Fld := ⟨0x64001c + n * 0x40000, 0, 32⟩
/-- `FLT_n_OUT_CTRL.VAL` (R234), RO. -/
def FLT_n_OUT_CTRL_VAL (n : Nat) : Fld := ⟨0x640020 + n * 0x40000, 0, 7⟩
/-- `LNS_n_STATUS.RUNNING` (R256), RO. -/
def LNS_n_STATUS_RUNNING (n : Nat) : Fld := ⟨0x700000 + n * 0x100, 0, 1⟩
/-- `LNS_n_STATUS.SUSPENDED` (R256), RO. -/
def LNS_n_STATUS_SUSPENDED (n : Nat) : Fld := ⟨0x700000 + n * 0x100, 1, 1⟩
/-- `LNS_n_STATUS.SUSP_REASON` (R256), RO. -/
def LNS_n_STATUS_SUSP_REASON (n : Nat) : Fld := ⟨0x700000 + n * 0x100, 2, 3⟩
/-- `LNS_n_STATUS.REFUSED` (R256), W1C. -/
def LNS_n_STATUS_REFUSED (n : Nat) : Fld := ⟨0x700000 + n * 0x100, 5, 1⟩
/-- `LNS_n_STATUS.PARTIAL_SEEN` (R256), W1C. -/
def LNS_n_STATUS_PARTIAL_SEEN (n : Nat) : Fld := ⟨0x700000 + n * 0x100, 6, 1⟩
/-- `LNS_n_GRID_LO.TICK` (R256), RO. -/
def LNS_n_GRID_LO_TICK (n : Nat) : Fld := ⟨0x700008 + n * 0x100, 0, 32⟩
/-- `LNS_n_GRID_HI.TICK` (R256), RO. -/
def LNS_n_GRID_HI_TICK (n : Nat) : Fld := ⟨0x70000c + n * 0x100, 0, 32⟩
/-- `LNS_n_FRAMES_LO.COUNT` (R256), RO. -/
def LNS_n_FRAMES_LO_COUNT (n : Nat) : Fld := ⟨0x700010 + n * 0x100, 0, 32⟩
/-- `LNS_n_FRAMES_HI.COUNT` (R256), RO. -/
def LNS_n_FRAMES_HI_COUNT (n : Nat) : Fld := ⟨0x700014 + n * 0x100, 0, 32⟩
/-- `LNS_n_ABANDONED.COUNT` (R256), RO. -/
def LNS_n_ABANDONED_COUNT (n : Nat) : Fld := ⟨0x700018 + n * 0x100, 0, 32⟩
/-- `LNS_n_PARTIAL.COUNT` (R256), RO. -/
def LNS_n_PARTIAL_COUNT (n : Nat) : Fld := ⟨0x70001c + n * 0x100, 0, 32⟩
/-- `LNS_n_LAST_REFUSE.SEL` (R256), RO. -/
def LNS_n_LAST_REFUSE_SEL (n : Nat) : Fld := ⟨0x700020 + n * 0x100, 0, 4⟩
/-- `LNS_n_LAST_REFUSE.REASON` (R256), RO. -/
def LNS_n_LAST_REFUSE_REASON (n : Nat) : Fld := ⟨0x700020 + n * 0x100, 4, 4⟩
/-- `LNS_n_MAX_EXP.E` (R256), RO. -/
def LNS_n_MAX_EXP_E (n : Nat) : Fld := ⟨0x700024 + n * 0x100, 0, 5⟩
/-- `LNS_n_MAX_EXP.CLEAR` (R256), WO. -/
def LNS_n_MAX_EXP_CLEAR (n : Nat) : Fld := ⟨0x700024 + n * 0x100, 16, 1⟩
/-- `LNS_n_UWIN_SUM.SUM` (R256), RO. -/
def LNS_n_UWIN_SUM_SUM (n : Nat) : Fld := ⟨0x700028 + n * 0x100, 0, 32⟩
/-- `LNS_n_ENABLE.EN` (R255), RO. -/
def LNS_n_ENABLE_EN (n : Nat) : Fld := ⟨0x740000 + n * 0x40000, 0, 1⟩
/-- `LNS_n_FFT_LOG2N.LOG2N` (R255), RO. -/
def LNS_n_FFT_LOG2N_LOG2N (n : Nat) : Fld := ⟨0x740004 + n * 0x40000, 0, 5⟩
/-- `LNS_n_WINDOW.WIN` (R255), RO. -/
def LNS_n_WINDOW_WIN (n : Nat) : Fld := ⟨0x740008 + n * 0x40000, 0, 3⟩
/-- `LNS_n_KAISER_BETA.BETA` (R255), RO. -/
def LNS_n_KAISER_BETA_BETA (n : Nat) : Fld := ⟨0x74000c + n * 0x40000, 0, 16⟩
/-- `LNS_n_HOP_DIV.DIV` (R255), RO. -/
def LNS_n_HOP_DIV_DIV (n : Nat) : Fld := ⟨0x740010 + n * 0x40000, 0, 3⟩
/-- `LNS_n_DET_MODE.MODE` (R255), RO. -/
def LNS_n_DET_MODE_MODE (n : Nat) : Fld := ⟨0x740014 + n * 0x40000, 0, 3⟩
/-- `LNS_n_DET_COUNT.M` (R255), RO. -/
def LNS_n_DET_COUNT_M (n : Nat) : Fld := ⟨0x740018 + n * 0x40000, 0, 17⟩
/-- `LNS_n_BIN_FIRST.BIN` (R255), RO. -/
def LNS_n_BIN_FIRST_BIN (n : Nat) : Fld := ⟨0x74001c + n * 0x40000, 0, 17⟩
/-- `LNS_n_BIN_LAST.BIN` (R255), RO. -/
def LNS_n_BIN_LAST_BIN (n : Nat) : Fld := ⟨0x740020 + n * 0x40000, 0, 17⟩
/-- `LNS_n_FORMAT.LIN` (R255), RO. -/
def LNS_n_FORMAT_LIN (n : Nat) : Fld := ⟨0x740024 + n * 0x40000, 0, 1⟩
/-- `SEC_STATUS.ARMED` (R287), RO. -/
def SEC_STATUS_ARMED : Fld := ⟨0x800000, 0, 1⟩
/-- `SEC_STATUS.CONT` (R287), RO. -/
def SEC_STATUS_CONT : Fld := ⟨0x800000, 1, 1⟩
/-- `SEC_STATUS.HOLDOFF` (R287), RO. -/
def SEC_STATUS_HOLDOFF : Fld := ⟨0x800000, 2, 1⟩
/-- `SEC_STATUS.SPILLING` (R287), RO. -/
def SEC_STATUS_SPILLING : Fld := ⟨0x800000, 3, 1⟩
/-- `SEC_STATUS.RING_FULL` (R287), W1C. -/
def SEC_STATUS_RING_FULL : Fld := ⟨0x800000, 4, 1⟩
/-- `SEC_STATUS.REFUSED` (R287), W1C. -/
def SEC_STATUS_REFUSED : Fld := ⟨0x800000, 5, 1⟩
/-- `SEC_STATUS.ARM_FAULT` (R287), W1C. -/
def SEC_STATUS_ARM_FAULT : Fld := ⟨0x800000, 6, 1⟩
/-- `SEC_STATUS.DROPS_SEEN` (R287), W1C. -/
def SEC_STATUS_DROPS_SEEN : Fld := ⟨0x800000, 7, 1⟩
/-- `SEC_TRIG_COUNT.COUNT` (R287), RO. -/
def SEC_TRIG_COUNT_COUNT : Fld := ⟨0x800004, 0, 32⟩
/-- `SEC_SUPPRESSED.COUNT` (R287), RO. -/
def SEC_SUPPRESSED_COUNT : Fld := ⟨0x800008, 0, 32⟩
/-- `SEC_FORCED.COUNT` (R287), RO. -/
def SEC_FORCED_COUNT : Fld := ⟨0x80000c, 0, 32⟩
/-- `SEC_OVERLAP.COUNT` (R287), RO. -/
def SEC_OVERLAP_COUNT : Fld := ⟨0x800010, 0, 32⟩
/-- `SEC_LAST_TRIG_LO.TICK` (R287), RO. -/
def SEC_LAST_TRIG_LO_TICK : Fld := ⟨0x800018, 0, 32⟩
/-- `SEC_LAST_TRIG_HI.TICK` (R287), RO. -/
def SEC_LAST_TRIG_HI_TICK : Fld := ⟨0x80001c, 0, 32⟩
/-- `SEC_LAST_SRC_LO.SRC` (R287), RO. -/
def SEC_LAST_SRC_LO_SRC : Fld := ⟨0x800020, 0, 32⟩
/-- `SEC_LAST_SRC_HI.SRC` (R287), RO. -/
def SEC_LAST_SRC_HI_SRC : Fld := ⟨0x800024, 0, 6⟩
/-- `SEC_LAST_SRC_HI.PROG` (R287), RO. -/
def SEC_LAST_SRC_HI_PROG : Fld := ⟨0x800024, 6, 4⟩
/-- `SEC_LAST_SRC_HI.PRIMARY` (R287), RO. -/
def SEC_LAST_SRC_HI_PRIMARY : Fld := ⟨0x800024, 10, 6⟩
/-- `SEC_SEG_INDEX.INDEX` (R287), RO. -/
def SEC_SEG_INDEX_INDEX : Fld := ⟨0x800028, 0, 24⟩
/-- `SEC_SEG_CAP_LO.CAP` (R287), RO. -/
def SEC_SEG_CAP_LO_CAP : Fld := ⟨0x800030, 0, 32⟩
/-- `SEC_SEG_CAP_HI.CAP` (R287), RO. -/
def SEC_SEG_CAP_HI_CAP : Fld := ⟨0x800034, 0, 32⟩
/-- `SEC_DEC_DELAY_LO.D` (R287), RO. -/
def SEC_DEC_DELAY_LO_D : Fld := ⟨0x800038, 0, 32⟩
/-- `SEC_DEC_DELAY_HI.D` (R287), RO. -/
def SEC_DEC_DELAY_HI_D : Fld := ⟨0x80003c, 0, 32⟩
/-- `SEC_LAST_REFUSE.SEL` (R287), RO. -/
def SEC_LAST_REFUSE_SEL : Fld := ⟨0x800040, 0, 17⟩
/-- `SEC_LAST_REFUSE.REASON` (R287), RO. -/
def SEC_LAST_REFUSE_REASON : Fld := ⟨0x800040, 20, 4⟩
/-- `SEC_LAST_REFUSE.UNIT14` (R287), RO. -/
def SEC_LAST_REFUSE_UNIT14 : Fld := ⟨0x800040, 24, 1⟩
/-- `SEC_PROG_n_STATUS.STEP` (R287), RO. -/
def SEC_PROG_n_STATUS_STEP (n : Nat) : Fld := ⟨0x800050 + n * 0x4, 0, 7⟩
/-- `SEC_PROG_n_STATUS.EN` (R287), RO. -/
def SEC_PROG_n_STATUS_EN (n : Nat) : Fld := ⟨0x800050 + n * 0x4, 7, 1⟩
/-- `SEC_PROG_n_STATUS.DROPS` (R287), RO. -/
def SEC_PROG_n_STATUS_DROPS (n : Nat) : Fld := ⟨0x800050 + n * 0x4, 16, 16⟩
/-- `SEC_PIN_LATE.TO0` (R287), RO. -/
def SEC_PIN_LATE_TO0 : Fld := ⟨0x800060, 0, 16⟩
/-- `SEC_PIN_LATE.TO1` (R287), RO. -/
def SEC_PIN_LATE_TO1 : Fld := ⟨0x800060, 16, 16⟩
/-- `SEC_XTRIG_STATUS.LEVEL` (R287), RO. -/
def SEC_XTRIG_STATUS_LEVEL : Fld := ⟨0x800064, 0, 1⟩
/-- `SEC_XTRIG_STATUS.DRIVING` (R287), RO. -/
def SEC_XTRIG_STATUS_DRIVING : Fld := ⟨0x800064, 1, 1⟩
/-- `SEC_XTRIG_STATUS.LATE` (R287), RO. -/
def SEC_XTRIG_STATUS_LATE : Fld := ⟨0x800064, 16, 16⟩
/-- `SEC_EVT_CTRL.TRIG_EVT` (R287), RW. -/
def SEC_EVT_CTRL_TRIG_EVT : Fld := ⟨0x800068, 0, 1⟩
/-- `SEC_EVT_CTRL.XTRIG_EVT` (R287), RW. -/
def SEC_EVT_CTRL_XTRIG_EVT : Fld := ⟨0x800068, 1, 1⟩
/-- `SEC_TICK_NOW_LO.TICK_LO` (R37), RO. -/
def SEC_TICK_NOW_LO_TICK_LO : Fld := ⟨0x80f000, 0, 32⟩
/-- `SEC_TICK_NOW_HI.TICK_HI` (R37), RO. -/
def SEC_TICK_NOW_HI_TICK_HI : Fld := ⟨0x80f004, 0, 32⟩
/-- `SEC_RANGE_CTRL.ARM` (R55), W1S. -/
def SEC_RANGE_CTRL_ARM : Fld := ⟨0x80f010, 0, 1⟩
/-- `SEC_RANGE_CTRL.MODE` (R55), RW. -/
def SEC_RANGE_CTRL_MODE : Fld := ⟨0x80f010, 1, 1⟩
/-- `SEC_RANGE_CTRL.OUT_EN` (R55), RW. -/
def SEC_RANGE_CTRL_OUT_EN : Fld := ⟨0x80f010, 2, 1⟩
/-- `SEC_RANGE_CTRL.DISARM` (R55), WO. -/
def SEC_RANGE_CTRL_DISARM : Fld := ⟨0x80f010, 3, 1⟩
/-- `SEC_RANGE_LOAD_LO.LOAD_LO` (R55), RW. -/
def SEC_RANGE_LOAD_LO_LOAD_LO : Fld := ⟨0x80f018, 0, 32⟩
/-- `SEC_RANGE_LOAD_HI.LOAD_HI` (R55), RW. -/
def SEC_RANGE_LOAD_HI_LOAD_HI : Fld := ⟨0x80f01c, 0, 32⟩
/-- `SEC_RANGE_STATUS.DONE` (R55), W1C. -/
def SEC_RANGE_STATUS_DONE : Fld := ⟨0x80f020, 0, 1⟩
/-- `SEC_RANGE_STATUS.BACK` (R55), W1C. -/
def SEC_RANGE_STATUS_BACK : Fld := ⟨0x80f020, 1, 1⟩
/-- `SEC_RANGE_STATUS.NOLOCK` (R55), W1C. -/
def SEC_RANGE_STATUS_NOLOCK : Fld := ⟨0x80f020, 2, 1⟩
/-- `SEC_RANGE_STATUS.COLLIDE` (R55), W1C. -/
def SEC_RANGE_STATUS_COLLIDE : Fld := ⟨0x80f020, 3, 1⟩
/-- `SEC_RANGE_STATUS.WR_ARMED` (R55), W1C. -/
def SEC_RANGE_STATUS_WR_ARMED : Fld := ⟨0x80f020, 4, 1⟩
/-- `SEC_RANGE_STATUS.DEFER` (R55), W1C. -/
def SEC_RANGE_STATUS_DEFER : Fld := ⟨0x80f020, 5, 1⟩
/-- `SEC_RANGE_STATUS.OUT_NOREF` (R55), W1C. -/
def SEC_RANGE_STATUS_OUT_NOREF : Fld := ⟨0x80f020, 6, 1⟩
/-- `SEC_RANGE_STATUS.SYNCS` (R55), RO. -/
def SEC_RANGE_STATUS_SYNCS : Fld := ⟨0x80f020, 16, 16⟩
/-- `SEC_RANGE_NAT_LO.NAT_LO` (R55), RO. -/
def SEC_RANGE_NAT_LO_NAT_LO : Fld := ⟨0x80f028, 0, 32⟩
/-- `SEC_RANGE_NAT_HI.NAT_HI` (R55), RO. -/
def SEC_RANGE_NAT_HI_NAT_HI : Fld := ⟨0x80f02c, 0, 32⟩
/-- `SEC_RANGE_PHASE.PHASE` (R55), RO. -/
def SEC_RANGE_PHASE_PHASE : Fld := ⟨0x80f030, 0, 10⟩
/-- `SEC_RANGE_PHASE.VALID` (R55), RO. -/
def SEC_RANGE_PHASE_VALID : Fld := ⟨0x80f030, 31, 1⟩
/-- `SEC_MASK_CTRL_m.VAL` (R286), RO. -/
def SEC_MASK_CTRL_m_VAL (m : Nat) : Fld := ⟨0x840000 + m * 0x4, 0, 29⟩
/-- `SEC_PROG_CTRL0.EN` (R286), RO. -/
def SEC_PROG_CTRL0_EN : Fld := ⟨0x840040, 0, 1⟩
/-- `SEC_PROG_CTRLp.EN` (R286), RO. -/
def SEC_PROG_CTRLp_EN (p : Nat) : Fld := ⟨0x840044 + p * 0x4, 0, 1⟩
/-- `SEC_HOLDOFF_LO.HOLDOFF` (R286), RO. -/
def SEC_HOLDOFF_LO_HOLDOFF : Fld := ⟨0x840080, 0, 32⟩
/-- `SEC_HOLDOFF_HI.HOLDOFF` (R286), RO. -/
def SEC_HOLDOFF_HI_HOLDOFF : Fld := ⟨0x840084, 0, 32⟩
/-- `SEC_AUTO_LO.AUTO` (R286), RO. -/
def SEC_AUTO_LO_AUTO : Fld := ⟨0x840088, 0, 32⟩
/-- `SEC_AUTO_HI.AUTO` (R286), RO. -/
def SEC_AUTO_HI_AUTO : Fld := ⟨0x84008c, 0, 32⟩
/-- `SEC_PRE_LO.PRE` (R286), RO. -/
def SEC_PRE_LO_PRE : Fld := ⟨0x840090, 0, 32⟩
/-- `SEC_PRE_HI.PRE` (R286), RO. -/
def SEC_PRE_HI_PRE : Fld := ⟨0x840094, 0, 32⟩
/-- `SEC_POST_LO.POST` (R286), RO. -/
def SEC_POST_LO_POST : Fld := ⟨0x840098, 0, 32⟩
/-- `SEC_POST_HI.POST` (R286), RO. -/
def SEC_POST_HI_POST : Fld := ⟨0x84009c, 0, 32⟩
/-- `SEC_SEG_RING.VAL` (R286), RO. -/
def SEC_SEG_RING_VAL : Fld := ⟨0x8400a0, 0, 27⟩
/-- `SEC_IO_RESYNC_V_LO.V` (R286), RO. -/
def SEC_IO_RESYNC_V_LO_V : Fld := ⟨0x880000, 0, 32⟩
/-- `SEC_IO_RESYNC_V_HI.V` (R286), RO. -/
def SEC_IO_RESYNC_V_HI_V : Fld := ⟨0x880004, 0, 32⟩
/-- `SEC_IO_TRIGOUTn_SRC.VAL` (R286), RO. -/
def SEC_IO_TRIGOUTn_SRC_VAL (n : Nat) : Fld := ⟨0x880010 + n * 0x4, 0, 32⟩
/-- `SEC_IO_XTRIG_CTRL.VAL` (R286), RO. -/
def SEC_IO_XTRIG_CTRL_VAL : Fld := ⟨0x880018, 0, 32⟩
/-- `IVU_STATUS.READY` (R304), RO. -/
def IVU_STATUS_READY : Fld := ⟨0x900000, 0, 1⟩
/-- `IVU_STATUS.OPEN` (R304), RO. -/
def IVU_STATUS_OPEN : Fld := ⟨0x900000, 1, 1⟩
/-- `IVU_STATUS.GATE` (R304), RO. -/
def IVU_STATUS_GATE : Fld := ⟨0x900000, 2, 1⟩
/-- `IVU_STATUS.CD` (R304), RO. -/
def IVU_STATUS_CD : Fld := ⟨0x900000, 3, 3⟩
/-- `IVU_STATUS.REF_ABSENT` (R304), RO. -/
def IVU_STATUS_REF_ABSENT : Fld := ⟨0x900000, 6, 1⟩
/-- `IVU_STATUS.REFUSED` (R304), W1C. -/
def IVU_STATUS_REFUSED : Fld := ⟨0x900000, 7, 1⟩
/-- `IVU_STATUS.OVF_SEEN` (R304), W1C. -/
def IVU_STATUS_OVF_SEEN : Fld := ⟨0x900000, 8, 1⟩
/-- `IVU_STATUS.LOST_SEEN` (R304), W1C. -/
def IVU_STATUS_LOST_SEEN : Fld := ⟨0x900000, 9, 1⟩
/-- `IVU_MEAS_COUNT.COUNT` (R304), RO. -/
def IVU_MEAS_COUNT_COUNT : Fld := ⟨0x900004, 0, 32⟩
/-- `IVU_SET_COUNT.COUNT` (R304), RO. -/
def IVU_SET_COUNT_COUNT : Fld := ⟨0x900008, 0, 25⟩
/-- `IVU_SKIPPED.COUNT` (R304), RO. -/
def IVU_SKIPPED_COUNT : Fld := ⟨0x900018, 0, 32⟩
/-- `IVU_LAST_REFUSE.SEL` (R304), RO. -/
def IVU_LAST_REFUSE_SEL : Fld := ⟨0x90001c, 0, 4⟩
/-- `IVU_LAST_REFUSE.REASON` (R304), RO. -/
def IVU_LAST_REFUSE_REASON : Fld := ⟨0x90001c, 4, 4⟩
/-- `IVU_EVT_CTRL.SET_EVT` (R304), RW. -/
def IVU_EVT_CTRL_SET_EVT : Fld := ⟨0x900020, 0, 1⟩
/-- `IVU_CH_n_CAL.GAIN` (R304), RO. -/
def IVU_CH_n_CAL_GAIN (n : Nat) : Fld := ⟨0x900100 + n * 0x20, 0, 16⟩
/-- `IVU_CH_n_CAL.CD` (R304), RO. -/
def IVU_CH_n_CAL_CD (n : Nat) : Fld := ⟨0x900100 + n * 0x20, 16, 1⟩
/-- `IVU_CH_n_ZERO.Z` (R304), RO. -/
def IVU_CH_n_ZERO_Z (n : Nat) : Fld := ⟨0x900104 + n * 0x20, 0, 32⟩
/-- `IVU_CH_n_EDGES_LO.COUNT` (R304), RO. -/
def IVU_CH_n_EDGES_LO_COUNT (n : Nat) : Fld := ⟨0x900108 + n * 0x20, 0, 32⟩
/-- `IVU_CH_n_EDGES_HI.COUNT` (R304), RO. -/
def IVU_CH_n_EDGES_HI_COUNT (n : Nat) : Fld := ⟨0x90010c + n * 0x20, 0, 32⟩
/-- `IVU_CH_n_LOST.COUNT` (R304), RO. -/
def IVU_CH_n_LOST_COUNT (n : Nat) : Fld := ⟨0x900110 + n * 0x20, 0, 32⟩
/-- `IVU_CH_n_CALFAIL.COUNT` (R304), RO. -/
def IVU_CH_n_CALFAIL_COUNT (n : Nat) : Fld := ⟨0x900114 + n * 0x20, 0, 16⟩
/-- `IVU_CH_n_CALFAIL.REASON` (R304), RO. -/
def IVU_CH_n_CALFAIL_REASON (n : Nat) : Fld := ⟨0x900114 + n * 0x20, 16, 3⟩
/-- `IVU_START_SRC.VAL` (R303), RO. -/
def IVU_START_SRC_VAL : Fld := ⟨0x940000, 0, 4⟩
/-- `IVU_STOP_MASK.VAL` (R303), RO. -/
def IVU_STOP_MASK_VAL : Fld := ⟨0x940004, 0, 21⟩
/-- `IVU_GATE_CTRL.VAL` (R303), RO. -/
def IVU_GATE_CTRL_VAL : Fld := ⟨0x940008, 0, 3⟩
/-- `IVU_STAT_N.VAL` (R303), RO. -/
def IVU_STAT_N_VAL : Fld := ⟨0x94000c, 0, 32⟩
/-- `IVU_CAL_CTRL.CD_ONLY` (R303), RO. -/
def IVU_CAL_CTRL_CD_ONLY : Fld := ⟨0x940010, 0, 1⟩
/-- `GLW_LAST_REFUSE.SEL` (R324), RO. -/
def GLW_LAST_REFUSE_SEL : Fld := ⟨0xa00000, 0, 3⟩
/-- `GLW_LAST_REFUSE.CH` (R324), RO. -/
def GLW_LAST_REFUSE_CH : Fld := ⟨0xa00000, 3, 1⟩
/-- `GLW_LAST_REFUSE.REASON` (R324), RO. -/
def GLW_LAST_REFUSE_REASON : Fld := ⟨0xa00000, 4, 4⟩
/-- `GLW_EVT_CTRL.SNAP_EVT` (R324), RW. -/
def GLW_EVT_CTRL_SNAP_EVT : Fld := ⟨0xa00004, 0, 1⟩
/-- `GLW_n_STATUS.RUNNING` (R324), RO. -/
def GLW_n_STATUS_RUNNING (n : Nat) : Fld := ⟨0xa00100 + n * 0x100, 0, 1⟩
/-- `GLW_n_STATUS.SUSPENDED` (R324), RO. -/
def GLW_n_STATUS_SUSPENDED (n : Nat) : Fld := ⟨0xa00100 + n * 0x100, 1, 1⟩
/-- `GLW_n_STATUS.NEWEST` (R324), RO. -/
def GLW_n_STATUS_NEWEST (n : Nat) : Fld := ⟨0xa00100 + n * 0x100, 2, 1⟩
/-- `GLW_n_STATUS.VALID` (R324), RO. -/
def GLW_n_STATUS_VALID (n : Nat) : Fld := ⟨0xa00100 + n * 0x100, 3, 1⟩
/-- `GLW_n_STATUS.PENDING` (R324), RO. -/
def GLW_n_STATUS_PENDING (n : Nat) : Fld := ⟨0xa00100 + n * 0x100, 4, 1⟩
/-- `GLW_n_STATUS.SAT_SEEN` (R324), W1C. -/
def GLW_n_STATUS_SAT_SEEN (n : Nat) : Fld := ⟨0xa00100 + n * 0x100, 5, 1⟩
/-- `GLW_n_STATUS.LOST_SEEN` (R324), W1C. -/
def GLW_n_STATUS_LOST_SEEN (n : Nat) : Fld := ⟨0xa00100 + n * 0x100, 6, 1⟩
/-- `GLW_n_WIDTH.W` (R324), RO. -/
def GLW_n_WIDTH_W (n : Nat) : Fld := ⟨0xa00104 + n * 0x100, 0, 12⟩
/-- `GLW_n_SNAPS.COUNT` (R324), RO. -/
def GLW_n_SNAPS_COUNT (n : Nat) : Fld := ⟨0xa00108 + n * 0x100, 0, 32⟩
/-- `GLW_n_LAST_SNAP_LO.TICK` (R324), RO. -/
def GLW_n_LAST_SNAP_LO_TICK (n : Nat) : Fld := ⟨0xa00110 + n * 0x100, 0, 32⟩
/-- `GLW_n_LAST_SNAP_HI.TICK` (R324), RO. -/
def GLW_n_LAST_SNAP_HI_TICK (n : Nat) : Fld := ⟨0xa00114 + n * 0x100, 0, 32⟩
/-- `GLW_n_SPECTRA_LO.COUNT` (R324), RO. -/
def GLW_n_SPECTRA_LO_COUNT (n : Nat) : Fld := ⟨0xa00118 + n * 0x100, 0, 32⟩
/-- `GLW_n_SPECTRA_HI.COUNT` (R324), RO. -/
def GLW_n_SPECTRA_HI_COUNT (n : Nat) : Fld := ⟨0xa0011c + n * 0x100, 0, 32⟩
/-- `GLW_n_BUF0_LO.ADDR` (R324), RO. -/
def GLW_n_BUF0_LO_ADDR (n : Nat) : Fld := ⟨0xa00120 + n * 0x100, 0, 32⟩
/-- `GLW_n_BUF0_HI.ADDR` (R324), RO. -/
def GLW_n_BUF0_HI_ADDR (n : Nat) : Fld := ⟨0xa00124 + n * 0x100, 0, 32⟩
/-- `GLW_n_BUF1_LO.ADDR` (R324), RO. -/
def GLW_n_BUF1_LO_ADDR (n : Nat) : Fld := ⟨0xa00128 + n * 0x100, 0, 32⟩
/-- `GLW_n_BUF1_HI.ADDR` (R324), RO. -/
def GLW_n_BUF1_HI_ADDR (n : Nat) : Fld := ⟨0xa0012c + n * 0x100, 0, 32⟩
/-- `GLW_n_SAT_COUNT.COUNT` (R324), RO. -/
def GLW_n_SAT_COUNT_COUNT (n : Nat) : Fld := ⟨0xa00130 + n * 0x100, 0, 32⟩
/-- `GLW_n_LOST.COUNT` (R324), RO. -/
def GLW_n_LOST_COUNT (n : Nat) : Fld := ⟨0xa00134 + n * 0x100, 0, 32⟩
/-- `GLW_n_DISCARDED.COUNT` (R324), RO. -/
def GLW_n_DISCARDED_COUNT (n : Nat) : Fld := ⟨0xa00138 + n * 0x100, 0, 32⟩
/-- `GLW_n_BELOW.COUNT` (R324), RO. -/
def GLW_n_BELOW_COUNT (n : Nat) : Fld := ⟨0xa0013c + n * 0x100, 0, 32⟩
/-- `GLW_n_DIRTYw.TILE` (R324), RO. -/
def GLW_n_DIRTYw_TILE (n w : Nat) : Fld := ⟨0xa00140 + n * 0x100 + w * 0x4, 0, 32⟩
/-- `GLW_GEOM_A.VAL` (R323), RO. -/
def GLW_GEOM_A_VAL : Fld := ⟨0xa40000, 0, 32⟩
/-- `GLW_GEOM_B.VAL` (R323), RO. -/
def GLW_GEOM_B_VAL : Fld := ⟨0xa40004, 0, 32⟩
/-- `GLW_INTEG.P` (R323), RO. -/
def GLW_INTEG_P : Fld := ⟨0xa40008, 0, 24⟩
/-- `GLW_PERSIST.VAL` (R323), RO. -/
def GLW_PERSIST_VAL : Fld := ⟨0xa4000c, 0, 17⟩
/-- `GLW_SNAP_CTRL.VAL` (R323), RO. -/
def GLW_SNAP_CTRL_VAL : Fld := ⟨0xa40010, 0, 14⟩
/-- `KPR_CTRL.HALT` (R89), W1S. -/
def KPR_CTRL_HALT : Fld := ⟨0xb00000, 0, 1⟩
/-- `KPR_CTRL.RESUME` (R89), WO. -/
def KPR_CTRL_RESUME : Fld := ⟨0xb00000, 1, 1⟩
/-- `KPR_CTRL.RESTART` (R89), WO. -/
def KPR_CTRL_RESTART : Fld := ⟨0xb00000, 2, 1⟩
/-- `KPR_STATUS.STATE` (R89), RO. -/
def KPR_STATUS_STATE : Fld := ⟨0xb00004, 0, 2⟩
/-- `KPR_STATUS.CAUSE` (R89), RO. -/
def KPR_STATUS_CAUSE : Fld := ⟨0xb00004, 2, 4⟩
/-- `KPR_STATUS.CODE_OK` (R89), RO. -/
def KPR_STATUS_CODE_OK : Fld := ⟨0xb00004, 6, 1⟩
/-- `KPR_STATUS.RESTARTS` (R89), RO. -/
def KPR_STATUS_RESTARTS : Fld := ⟨0xb00004, 16, 16⟩
/-- `KPR_PC.PC` (R89), RO. -/
def KPR_PC_PC : Fld := ⟨0xb00008, 0, 32⟩
/-- `KPR_TRAP.CODE` (R89), RO. -/
def KPR_TRAP_CODE : Fld := ⟨0xb0000c, 0, 4⟩
/-- `KPR_TRAP_ADDR.ADDR` (R89), RO. -/
def KPR_TRAP_ADDR_ADDR : Fld := ⟨0xb00010, 0, 32⟩
/-- `KPR_CYC_LO.CYC` (R89), RO. -/
def KPR_CYC_LO_CYC : Fld := ⟨0xb00018, 0, 32⟩
/-- `KPR_CYC_HI.CYC` (R89), RO. -/
def KPR_CYC_HI_CYC : Fld := ⟨0xb0001c, 0, 32⟩
/-- `KPR_WDT_CTRL.EN` (R89), W1S. -/
def KPR_WDT_CTRL_EN : Fld := ⟨0xb00020, 0, 1⟩
/-- `KPR_WDT_CTRL.PERIOD` (R89), RW. -/
def KPR_WDT_CTRL_PERIOD : Fld := ⟨0xb00020, 1, 20⟩
/-- `KPR_WDT_KICK.KEY` (R89), WO. -/
def KPR_WDT_KICK_KEY : Fld := ⟨0xb00024, 0, 16⟩
/-- `KPR_WDT_LEFT.LEFT` (R89), RO. -/
def KPR_WDT_LEFT_LEFT : Fld := ⟨0xb00028, 0, 20⟩
/-- `KPR_CODE_END.END` (R89), RO. -/
def KPR_CODE_END_END : Fld := ⟨0xb00030, 0, 20⟩
/-- `KPR_MBOX_INi.DATA` (R89), RW. -/
def KPR_MBOX_INi_DATA (i : Nat) : Fld := ⟨0xb00040 + i * 0x4, 0, 32⟩
/-- `KPR_MBOX_DB.RING` (R89), WO. -/
def KPR_MBOX_DB_RING : Fld := ⟨0xb00060, 0, 1⟩
/-- `KPR_MBOX_OUTi.DATA` (R89), RO. -/
def KPR_MBOX_OUTi_DATA (i : Nat) : Fld := ⟨0xb00080 + i * 0x4, 0, 32⟩
/-- `KPR_LOAD_STATUS.FLUSHED` (R89), RO. -/
def KPR_LOAD_STATUS_FLUSHED : Fld := ⟨0xb000a0, 0, 16⟩
/-- `KPR_LOAD_STATUS.LOADED` (R89), RO. -/
def KPR_LOAD_STATUS_LOADED : Fld := ⟨0xb000a0, 16, 1⟩
/-- `KPR_LOAD_STATUS.COEF_BUSY` (R89), W1C. -/
def KPR_LOAD_STATUS_COEF_BUSY : Fld := ⟨0xb000a0, 17, 1⟩
/-- `KPR_LOAD_TICK_LO.TICK` (R89), RO. -/
def KPR_LOAD_TICK_LO_TICK : Fld := ⟨0xb000a8, 0, 32⟩
/-- `KPR_LOAD_TICK_HI.TICK` (R89), RO. -/
def KPR_LOAD_TICK_HI_TICK : Fld := ⟨0xb000ac, 0, 32⟩
/-- `KPR_TL_CTRL.FLUSH` (R142), WO. -/
def KPR_TL_CTRL_FLUSH : Fld := ⟨0xb01000, 0, 16⟩
/-- `KPR_TL_STATUS.HELD` (R142), RO. -/
def KPR_TL_STATUS_HELD : Fld := ⟨0xb01004, 0, 1⟩
/-- `KPR_TL_STATUS.STALLED` (R142), RO. -/
def KPR_TL_STATUS_STALLED : Fld := ⟨0xb01004, 1, 1⟩
/-- `KPR_TL_STATUS.STALL_UNIT` (R142), RO. -/
def KPR_TL_STATUS_STALL_UNIT : Fld := ⟨0xb01004, 2, 4⟩
/-- `KPR_TL_STATUS.DIRECT` (R142), W1C. -/
def KPR_TL_STATUS_DIRECT : Fld := ⟨0xb01004, 6, 1⟩
/-- `KPR_TL_STATUS.ERR` (R142), RO. -/
def KPR_TL_STATUS_ERR : Fld := ⟨0xb01004, 8, 3⟩
/-- `KPR_TL_HELD_LO.HELD` (R142), RO. -/
def KPR_TL_HELD_LO_HELD : Fld := ⟨0xb01008, 0, 32⟩
/-- `KPR_TL_HELD_HI.HELD` (R142), RO. -/
def KPR_TL_HELD_HI_HELD : Fld := ⟨0xb0100c, 0, 32⟩
/-- `KPR_TL_AFFECT.UNIT` (R142), RO. -/
def KPR_TL_AFFECT_UNIT : Fld := ⟨0xb01010, 0, 16⟩
/-- `KPR_TL_IMM_UNIT.UNIT` (R142), RO. -/
def KPR_TL_IMM_UNIT_UNIT : Fld := ⟨0xb01014, 0, 4⟩
/-- `KPR_TL_IMM_UNIT.SEL` (R142), RO. -/
def KPR_TL_IMM_UNIT_SEL : Fld := ⟨0xb01014, 4, 20⟩
/-- `KPR_TL_IMM_TICK_LO.TICK` (R142), RO. -/
def KPR_TL_IMM_TICK_LO_TICK : Fld := ⟨0xb01018, 0, 32⟩
/-- `KPR_TL_IMM_TICK_HI.TICK` (R142), RO. -/
def KPR_TL_IMM_TICK_HI_TICK : Fld := ⟨0xb0101c, 0, 32⟩
/-- `KPR_TL_LOADS.ISSUED` (R142), RO. -/
def KPR_TL_LOADS_ISSUED : Fld := ⟨0xb01020, 0, 16⟩
/-- `KPR_TL_LOADS.DONE` (R142), RO. -/
def KPR_TL_LOADS_DONE : Fld := ⟨0xb01020, 16, 16⟩
/-- `KPR_TLQ_u_LEVEL.LEVEL` (R142), RO. -/
def KPR_TLQ_u_LEVEL_LEVEL (u : Nat) : Fld := ⟨0xb01100 + u * 0x20, 0, 9⟩
/-- `KPR_TLQ_u_ISSUED.ISSUED` (R142), RO. -/
def KPR_TLQ_u_ISSUED_ISSUED (u : Nat) : Fld := ⟨0xb01104 + u * 0x20, 0, 32⟩
/-- `KPR_TLQ_u_DONE.DONE` (R142), RO. -/
def KPR_TLQ_u_DONE_DONE (u : Nat) : Fld := ⟨0xb01108 + u * 0x20, 0, 32⟩
/-- `KPR_TLQ_u_ERRS.LATE` (R142), RO. -/
def KPR_TLQ_u_ERRS_LATE (u : Nat) : Fld := ⟨0xb0110c + u * 0x20, 0, 16⟩
/-- `KPR_TLQ_u_ERRS.REFUSED` (R142), RO. -/
def KPR_TLQ_u_ERRS_REFUSED (u : Nat) : Fld := ⟨0xb0110c + u * 0x20, 16, 16⟩
/-- `KPR_TLQ_u_LAST_LO.LAST` (R142), RO. -/
def KPR_TLQ_u_LAST_LO_LAST (u : Nat) : Fld := ⟨0xb01110 + u * 0x20, 0, 32⟩
/-- `KPR_TLQ_u_LAST_HI.LAST` (R142), RO. -/
def KPR_TLQ_u_LAST_HI_LAST (u : Nat) : Fld := ⟨0xb01114 + u * 0x20, 0, 32⟩
/-- `KPR_TLQ_u_LATE_T_LO.LATE_T` (R142), RO. -/
def KPR_TLQ_u_LATE_T_LO_LATE_T (u : Nat) : Fld := ⟨0xb01118 + u * 0x20, 0, 32⟩
/-- `KPR_TLQ_u_FLUSHED.FLUSHED` (R142), RO. -/
def KPR_TLQ_u_FLUSHED_FLUSHED (u : Nat) : Fld := ⟨0xb0111c + u * 0x20, 0, 16⟩
/-- `BCN_RUN.RUN` (R90), W1S. -/
def BCN_RUN_RUN : Fld := ⟨0xb02000, 0, 16⟩
/-- `BCN_HALT.HALT` (R90), W1S. -/
def BCN_HALT_HALT : Fld := ⟨0xb02004, 0, 16⟩
/-- `BCN_STATE.STATE0` (R90), RO. -/
def BCN_STATE_STATE0 : Fld := ⟨0xb02008, 0, 2⟩
/-- `BCN_STATE.STATE1` (R90), RO. -/
def BCN_STATE_STATE1 : Fld := ⟨0xb02008, 2, 2⟩
/-- `BCN_STATE.STATE2` (R90), RO. -/
def BCN_STATE_STATE2 : Fld := ⟨0xb02008, 4, 2⟩
/-- `BCN_STATE.STATE3` (R90), RO. -/
def BCN_STATE_STATE3 : Fld := ⟨0xb02008, 6, 2⟩
/-- `BCN_STATE.STATE4` (R90), RO. -/
def BCN_STATE_STATE4 : Fld := ⟨0xb02008, 8, 2⟩
/-- `BCN_STATE.STATE5` (R90), RO. -/
def BCN_STATE_STATE5 : Fld := ⟨0xb02008, 10, 2⟩
/-- `BCN_STATE.STATE6` (R90), RO. -/
def BCN_STATE_STATE6 : Fld := ⟨0xb02008, 12, 2⟩
/-- `BCN_STATE.STATE7` (R90), RO. -/
def BCN_STATE_STATE7 : Fld := ⟨0xb02008, 14, 2⟩
/-- `BCN_STATE.STATE8` (R90), RO. -/
def BCN_STATE_STATE8 : Fld := ⟨0xb02008, 16, 2⟩
/-- `BCN_STATE.STATE9` (R90), RO. -/
def BCN_STATE_STATE9 : Fld := ⟨0xb02008, 18, 2⟩
/-- `BCN_STATE.STATE10` (R90), RO. -/
def BCN_STATE_STATE10 : Fld := ⟨0xb02008, 20, 2⟩
/-- `BCN_STATE.STATE11` (R90), RO. -/
def BCN_STATE_STATE11 : Fld := ⟨0xb02008, 22, 2⟩
/-- `BCN_STATE.STATE12` (R90), RO. -/
def BCN_STATE_STATE12 : Fld := ⟨0xb02008, 24, 2⟩
/-- `BCN_STATE.STATE13` (R90), RO. -/
def BCN_STATE_STATE13 : Fld := ⟨0xb02008, 26, 2⟩
/-- `BCN_STATE.STATE14` (R90), RO. -/
def BCN_STATE_STATE14 : Fld := ⟨0xb02008, 28, 2⟩
/-- `BCN_STATE.STATE15` (R90), RO. -/
def BCN_STATE_STATE15 : Fld := ⟨0xb02008, 30, 2⟩
/-- `BCN_AUTORESTART.AUTO` (R90), RW. -/
def BCN_AUTORESTART_AUTO : Fld := ⟨0xb0200c, 0, 16⟩
/-- `BCN_LAST_REFUSE.SEL` (R90), RO. -/
def BCN_LAST_REFUSE_SEL : Fld := ⟨0xb02010, 0, 7⟩
/-- `BCN_LAST_REFUSE.REASON` (R90), RO. -/
def BCN_LAST_REFUSE_REASON : Fld := ⟨0xb02010, 8, 4⟩
/-- `BCN_n_PC.PC` (R90), RO. -/
def BCN_n_PC_PC (n : Nat) : Fld := ⟨0xb04000 + n * 0x100, 0, 32⟩
/-- `BCN_n_FAULT.CODE` (R90), RO. -/
def BCN_n_FAULT_CODE (n : Nat) : Fld := ⟨0xb04004 + n * 0x100, 0, 4⟩
/-- `BCN_n_FAULT_ADDR.ADDR` (R90), RO. -/
def BCN_n_FAULT_ADDR_ADDR (n : Nat) : Fld := ⟨0xb04008 + n * 0x100, 0, 32⟩
/-- `BCN_n_RESTARTS.COUNT` (R90), RO. -/
def BCN_n_RESTARTS_COUNT (n : Nat) : Fld := ⟨0xb0400c + n * 0x100, 0, 16⟩
/-- `BCN_n_WDOG.CYCLES` (R90), RW. -/
def BCN_n_WDOG_CYCLES (n : Nat) : Fld := ⟨0xb04010 + n * 0x100, 0, 24⟩
/-- `BCN_n_ATTN.SIGNAL` (R90), W1C. -/
def BCN_n_ATTN_SIGNAL (n : Nat) : Fld := ⟨0xb04014 + n * 0x100, 0, 1⟩
/-- `BCN_n_ATTN.QDROP` (R90), W1C. -/
def BCN_n_ATTN_QDROP (n : Nat) : Fld := ⟨0xb04014 + n * 0x100, 1, 4⟩
/-- `BCN_n_ATTN.CFG_BUSY` (R90), W1C. -/
def BCN_n_ATTN_CFG_BUSY (n : Nat) : Fld := ⟨0xb04014 + n * 0x100, 5, 1⟩
/-- `BCN_n_ATTN.BIND_REF` (R90), W1C. -/
def BCN_n_ATTN_BIND_REF (n : Nat) : Fld := ⟨0xb04014 + n * 0x100, 6, 1⟩
/-- `BCN_n_ATTN.CODE` (R90), RO. -/
def BCN_n_ATTN_CODE (n : Nat) : Fld := ⟨0xb04014 + n * 0x100, 16, 16⟩
/-- `BCN_n_Qq_CFG.BASE` (R90), RW. -/
def BCN_n_Qq_CFG_BASE (n q : Nat) : Fld := ⟨0xb04020 + n * 0x100 + q * 0x10, 0, 12⟩
/-- `BCN_n_Qq_CFG.MEM` (R90), RW. -/
def BCN_n_Qq_CFG_MEM (n q : Nat) : Fld := ⟨0xb04020 + n * 0x100 + q * 0x10, 12, 1⟩
/-- `BCN_n_Qq_CFG.SLOT` (R90), RW. -/
def BCN_n_Qq_CFG_SLOT (n q : Nat) : Fld := ⟨0xb04020 + n * 0x100 + q * 0x10, 16, 12⟩
/-- `BCN_n_Qq_CFG.DROP_EVT` (R90), RW. -/
def BCN_n_Qq_CFG_DROP_EVT (n q : Nat) : Fld := ⟨0xb04020 + n * 0x100 + q * 0x10, 31, 1⟩
/-- `BCN_n_Qq_SLOTS.COUNT` (R90), RW. -/
def BCN_n_Qq_SLOTS_COUNT (n q : Nat) : Fld := ⟨0xb04024 + n * 0x100 + q * 0x10, 0, 12⟩
/-- `BCN_n_Qq_DROPS.DROPS` (R90), RO. -/
def BCN_n_Qq_DROPS_DROPS (n q : Nat) : Fld := ⟨0xb04028 + n * 0x100 + q * 0x10, 0, 32⟩
/-- `BCN_n_Qq_STATUS.WR` (R90), RO. -/
def BCN_n_Qq_STATUS_WR (n q : Nat) : Fld := ⟨0xb0402c + n * 0x100 + q * 0x10, 0, 16⟩
/-- `BCN_n_Qq_STATUS.RD` (R90), RO. -/
def BCN_n_Qq_STATUS_RD (n q : Nat) : Fld := ⟨0xb0402c + n * 0x100 + q * 0x10, 16, 16⟩
/-- `BCN_n_CYC_LO.CYC` (R90), RO. -/
def BCN_n_CYC_LO_CYC (n : Nat) : Fld := ⟨0xb04060 + n * 0x100, 0, 32⟩
/-- `BCN_n_CYC_HI.CYC` (R90), RO. -/
def BCN_n_CYC_HI_CYC (n : Nat) : Fld := ⟨0xb04064 + n * 0x100, 0, 32⟩
/-- `BCN_n_POSTED.POSTED` (R90), RO. -/
def BCN_n_POSTED_POSTED (n : Nat) : Fld := ⟨0xb04068 + n * 0x100, 0, 16⟩
/-- `BCN_BIND_n_q.OP` (R126), RO. -/
def BCN_BIND_n_q_OP (n q : Nat) : Fld := ⟨0xb40000 + n * 0x10 + q * 0x4, 0, 32⟩
/-- `BCN_CPAGE_n_q.PAGE` (R126), RO. -/
def BCN_CPAGE_n_q_PAGE (n q : Nat) : Fld := ⟨0xb40100 + n * 0x10 + q * 0x4, 0, 6⟩
/-- `AMC_STATUS.STATE` (R349), RO. -/
def AMC_STATUS_STATE : Fld := ⟨0xc00000, 0, 2⟩
/-- `AMC_STATUS.POP_ERR` (R349), RO. -/
def AMC_STATUS_POP_ERR : Fld := ⟨0xc00000, 2, 1⟩
/-- `AMC_STATUS.POP_CODE` (R349), RO. -/
def AMC_STATUS_POP_CODE : Fld := ⟨0xc00000, 3, 4⟩
/-- `AMC_STATUS.RATE_ERR` (R349), W1C. -/
def AMC_STATUS_RATE_ERR : Fld := ⟨0xc00000, 7, 1⟩
/-- `AMC_STATUS.CH_MASK` (R349), RO. -/
def AMC_STATUS_CH_MASK : Fld := ⟨0xc00000, 8, 8⟩
/-- `AMC_STATUS.RATE` (R349), RO. -/
def AMC_STATUS_RATE : Fld := ⟨0xc00000, 16, 2⟩
/-- `AMC_STATUS.ON_BACKUP` (R349), RO. -/
def AMC_STATUS_ON_BACKUP : Fld := ⟨0xc00000, 18, 1⟩
/-- `AMC_CFG.RATE` (R349), RW. -/
def AMC_CFG_RATE : Fld := ⟨0xc00004, 0, 2⟩
/-- `AMC_CFG.APPLY` (R349), WO. -/
def AMC_CFG_APPLY : Fld := ⟨0xc00004, 2, 1⟩
/-- `AMC_CFG.SR_EN` (R349), RW. -/
def AMC_CFG_SR_EN : Fld := ⟨0xc00004, 3, 1⟩
/-- `AMC_SIZE_LO.M` (R349), RO. -/
def AMC_SIZE_LO_M : Fld := ⟨0xc00008, 0, 32⟩
/-- `AMC_SIZE_HI.M` (R349), RO. -/
def AMC_SIZE_HI_M : Fld := ⟨0xc0000c, 0, 32⟩
/-- `AMC_ADMIT_WR.LIMIT` (R349), RO. -/
def AMC_ADMIT_WR_LIMIT : Fld := ⟨0xc00010, 0, 12⟩
/-- `AMC_ADMIT_WR.USED` (R349), RO. -/
def AMC_ADMIT_WR_USED : Fld := ⟨0xc00010, 16, 12⟩
/-- `AMC_ADMIT_RD.LIMIT` (R349), RO. -/
def AMC_ADMIT_RD_LIMIT : Fld := ⟨0xc00014, 0, 12⟩
/-- `AMC_ADMIT_RD.USED` (R349), RO. -/
def AMC_ADMIT_RD_USED : Fld := ⟨0xc00014, 16, 12⟩
/-- `AMC_FIFO.LEVEL` (R349), RO. -/
def AMC_FIFO_LEVEL : Fld := ⟨0xc00018, 0, 14⟩
/-- `AMC_FIFO.PEAK` (R349), RO. -/
def AMC_FIFO_PEAK : Fld := ⟨0xc00018, 16, 14⟩
/-- `AMC_FIFO.DROPPING` (R349), RO. -/
def AMC_FIFO_DROPPING : Fld := ⟨0xc00018, 30, 1⟩
/-- `AMC_FIFO.CLEAR` (R349), WO. -/
def AMC_FIFO_CLEAR : Fld := ⟨0xc00018, 31, 1⟩
/-- `AMC_FIFO_LOST_LO.COUNT` (R349), RO. -/
def AMC_FIFO_LOST_LO_COUNT : Fld := ⟨0xc00020, 0, 32⟩
/-- `AMC_FIFO_LOST_HI.COUNT` (R349), RO. -/
def AMC_FIFO_LOST_HI_COUNT : Fld := ⟨0xc00024, 0, 32⟩
/-- `AMC_LTR.PANEL_US` (R349), RO. -/
def AMC_LTR_PANEL_US : Fld := ⟨0xc00028, 0, 16⟩
/-- `AMC_LTR.EXIT_US` (R349), RO. -/
def AMC_LTR_EXIT_US : Fld := ⟨0xc00028, 16, 16⟩
/-- `AMC_SR_COUNT.COUNT` (R349), RO. -/
def AMC_SR_COUNT_COUNT : Fld := ⟨0xc0002c, 0, 32⟩
/-- `AMC_APERTURE_LO.BASE` (R349), RW. -/
def AMC_APERTURE_LO_BASE : Fld := ⟨0xc00030, 0, 32⟩
/-- `AMC_APERTURE_HI.BASE` (R349), RW. -/
def AMC_APERTURE_HI_BASE : Fld := ⟨0xc00034, 0, 32⟩
/-- `AMC_TRAIN.ABANDONED` (R349), RO. -/
def AMC_TRAIN_ABANDONED : Fld := ⟨0xc00038, 0, 16⟩
/-- `AMC_TRAIN.RETRAINS` (R349), RO. -/
def AMC_TRAIN_RETRAINS : Fld := ⟨0xc00038, 16, 16⟩
/-- `AMC_LAST_REFUSE.SEL` (R349), RO. -/
def AMC_LAST_REFUSE_SEL : Fld := ⟨0xc0003c, 0, 2⟩
/-- `AMC_LAST_REFUSE.REASON` (R349), RO. -/
def AMC_LAST_REFUSE_REASON : Fld := ⟨0xc0003c, 4, 4⟩
/-- `AMC_c_STATUS.PRESENT` (R349), RO. -/
def AMC_c_STATUS_PRESENT (c : Nat) : Fld := ⟨0xc00100 + c * 0x20, 0, 1⟩
/-- `AMC_c_STATUS.TRAINED` (R349), RO. -/
def AMC_c_STATUS_TRAINED (c : Nat) : Fld := ⟨0xc00100 + c * 0x20, 1, 1⟩
/-- `AMC_c_STATUS.TEMP` (R349), RO. -/
def AMC_c_STATUS_TEMP (c : Nat) : Fld := ⟨0xc00100 + c * 0x20, 8, 8⟩
/-- `AMC_c_STATUS.SIZE` (R349), RO. -/
def AMC_c_STATUS_SIZE (c : Nat) : Fld := ⟨0xc00100 + c * 0x20, 16, 16⟩
/-- `AMC_c_CE.COUNT` (R349), RO. -/
def AMC_c_CE_COUNT (c : Nat) : Fld := ⟨0xc00104 + c * 0x20, 0, 32⟩
/-- `AMC_c_UE.COUNT` (R349), RO. -/
def AMC_c_UE_COUNT (c : Nat) : Fld := ⟨0xc00108 + c * 0x20, 0, 32⟩
/-- `AMC_c_REPLAYS.COUNT` (R349), RO. -/
def AMC_c_REPLAYS_COUNT (c : Nat) : Fld := ⟨0xc0010c + c * 0x20, 0, 32⟩
/-- `AMC_c_OVERRUN.COUNT` (R349), RO. -/
def AMC_c_OVERRUN_COUNT (c : Nat) : Fld := ⟨0xc00110 + c * 0x20, 0, 32⟩
/-- `AMC_CAP_n_STATUS.ACTIVE` (R349), RO. -/
def AMC_CAP_n_STATUS_ACTIVE (n : Nat) : Fld := ⟨0xc00200 + n * 0x40, 0, 1⟩
/-- `AMC_CAP_n_STATUS.SEGMENT` (R349), RO. -/
def AMC_CAP_n_STATUS_SEGMENT (n : Nat) : Fld := ⟨0xc00200 + n * 0x40, 1, 1⟩
/-- `AMC_CAP_n_STATUS.FULL` (R349), W1C. -/
def AMC_CAP_n_STATUS_FULL (n : Nat) : Fld := ⟨0xc00200 + n * 0x40, 2, 1⟩
/-- `AMC_CAP_n_STATUS.GAP_SEEN` (R349), W1C. -/
def AMC_CAP_n_STATUS_GAP_SEEN (n : Nat) : Fld := ⟨0xc00200 + n * 0x40, 3, 1⟩
/-- `AMC_CAP_n_CHUNK.INDEX` (R349), RO. -/
def AMC_CAP_n_CHUNK_INDEX (n : Nat) : Fld := ⟨0xc00204 + n * 0x40, 0, 32⟩
/-- `AMC_CAP_n_PASS.COUNT` (R349), RO. -/
def AMC_CAP_n_PASS_COUNT (n : Nat) : Fld := ⟨0xc00208 + n * 0x40, 0, 32⟩
/-- `AMC_CAP_n_NEWEST_LO.TICK` (R349), RO. -/
def AMC_CAP_n_NEWEST_LO_TICK (n : Nat) : Fld := ⟨0xc00210 + n * 0x40, 0, 32⟩
/-- `AMC_CAP_n_NEWEST_HI.TICK` (R349), RO. -/
def AMC_CAP_n_NEWEST_HI_TICK (n : Nat) : Fld := ⟨0xc00214 + n * 0x40, 0, 32⟩
/-- `AMC_CAP_n_OLDEST_LO.TICK` (R349), RO. -/
def AMC_CAP_n_OLDEST_LO_TICK (n : Nat) : Fld := ⟨0xc00218 + n * 0x40, 0, 32⟩
/-- `AMC_CAP_n_OLDEST_HI.TICK` (R349), RO. -/
def AMC_CAP_n_OLDEST_HI_TICK (n : Nat) : Fld := ⟨0xc0021c + n * 0x40, 0, 32⟩
/-- `AMC_CAP_n_PADDED.COUNT` (R349), RO. -/
def AMC_CAP_n_PADDED_COUNT (n : Nat) : Fld := ⟨0xc00220 + n * 0x40, 0, 32⟩
/-- `AMC_CAP_A.VAL` (R348), RO. -/
def AMC_CAP_A_VAL : Fld := ⟨0xc40000, 0, 8⟩
/-- `AMC_CAP_B.VAL` (R348), RO. -/
def AMC_CAP_B_VAL : Fld := ⟨0xc40004, 0, 8⟩
/-- `AMC_RING_A.VAL` (R348), RO. -/
def AMC_RING_A_VAL : Fld := ⟨0xc40008, 0, 30⟩
/-- `AMC_RING_B.VAL` (R348), RO. -/
def AMC_RING_B_VAL : Fld := ⟨0xc4000c, 0, 30⟩
/-- `HST_STATUS.LINK_UP` (R384), RO. -/
def HST_STATUS_LINK_UP : Fld := ⟨0xd00000, 0, 1⟩
/-- `HST_STATUS.RATE` (R384), RO. -/
def HST_STATUS_RATE : Fld := ⟨0xd00000, 1, 3⟩
/-- `HST_STATUS.WIDTH` (R384), RO. -/
def HST_STATUS_WIDTH : Fld := ⟨0xd00000, 4, 5⟩
/-- `HST_STATUS.DEGRADED` (R384), RO. -/
def HST_STATUS_DEGRADED : Fld := ⟨0xd00000, 9, 1⟩
/-- `HST_STATUS.ACC_NOCLK` (R384), W1C. -/
def HST_STATUS_ACC_NOCLK : Fld := ⟨0xd00000, 10, 1⟩
/-- `HST_STATUS.ACC_UR` (R384), W1C. -/
def HST_STATUS_ACC_UR : Fld := ⟨0xd00000, 11, 1⟩
/-- `HST_STATUS.ASPM` (R384), RO. -/
def HST_STATUS_ASPM : Fld := ⟨0xd00000, 12, 2⟩
/-- `HST_LINK_LIMIT.LIMIT` (R384), RO. -/
def HST_LINK_LIMIT_LIMIT : Fld := ⟨0xd00004, 0, 14⟩
/-- `HST_LINK_LIMIT.USED` (R384), RO. -/
def HST_LINK_LIMIT_USED : Fld := ⟨0xd00004, 16, 14⟩
/-- `HST_TAGS.INUSE` (R384), RO. -/
def HST_TAGS_INUSE : Fld := ⟨0xd00008, 0, 13⟩
/-- `HST_TAGS.PEAK` (R384), RO. -/
def HST_TAGS_PEAK : Fld := ⟨0xd00008, 16, 13⟩
/-- `HST_TAGS.CLEAR` (R384), WO. -/
def HST_TAGS_CLEAR : Fld := ⟨0xd00008, 31, 1⟩
/-- `DMA_n_SRC_LO.ADDR` (R387), RW. -/
def DMA_n_SRC_LO_ADDR (n : Nat) : Fld := ⟨0xd01000 + n * 0x40, 0, 32⟩
/-- `DMA_n_SRC_HI.ADDR` (R387), RW. -/
def DMA_n_SRC_HI_ADDR (n : Nat) : Fld := ⟨0xd01004 + n * 0x40, 0, 32⟩
/-- `DMA_n_DST_LO.ADDR` (R387), RW. -/
def DMA_n_DST_LO_ADDR (n : Nat) : Fld := ⟨0xd01008 + n * 0x40, 0, 32⟩
/-- `DMA_n_DST_HI.ADDR` (R387), RW. -/
def DMA_n_DST_HI_ADDR (n : Nat) : Fld := ⟨0xd0100c + n * 0x40, 0, 32⟩
/-- `DMA_n_COUNT.BYTES` (R387), RW. -/
def DMA_n_COUNT_BYTES (n : Nat) : Fld := ⟨0xd01010 + n * 0x40, 0, 32⟩
/-- `DMA_n_CTRL.START` (R387), WO. -/
def DMA_n_CTRL_START (n : Nat) : Fld := ⟨0xd01014 + n * 0x40, 0, 1⟩
/-- `DMA_n_CTRL.SRC_SP` (R387), RW. -/
def DMA_n_CTRL_SRC_SP (n : Nat) : Fld := ⟨0xd01014 + n * 0x40, 1, 2⟩
/-- `DMA_n_CTRL.DST_SP` (R387), RW. -/
def DMA_n_CTRL_DST_SP (n : Nat) : Fld := ⟨0xd01014 + n * 0x40, 3, 2⟩
/-- `DMA_n_CTRL.PRIO` (R387), RW. -/
def DMA_n_CTRL_PRIO (n : Nat) : Fld := ⟨0xd01014 + n * 0x40, 5, 2⟩
/-- `DMA_n_CTRL.IRQ` (R387), RW. -/
def DMA_n_CTRL_IRQ (n : Nat) : Fld := ⟨0xd01014 + n * 0x40, 7, 1⟩
/-- `DMA_n_CTRL.RESUME` (R387), WO. -/
def DMA_n_CTRL_RESUME (n : Nat) : Fld := ⟨0xd01014 + n * 0x40, 8, 1⟩
/-- `DMA_n_CTRL.FLUSH` (R387), WO. -/
def DMA_n_CTRL_FLUSH (n : Nat) : Fld := ⟨0xd01014 + n * 0x40, 9, 1⟩
/-- `DMA_n_STATUS.ACTIVE` (R387), RO. -/
def DMA_n_STATUS_ACTIVE (n : Nat) : Fld := ⟨0xd01018 + n * 0x40, 0, 1⟩
/-- `DMA_n_STATUS.PAUSED` (R387), RO. -/
def DMA_n_STATUS_PAUSED (n : Nat) : Fld := ⟨0xd01018 + n * 0x40, 1, 1⟩
/-- `DMA_n_STATUS.LEVEL` (R387), RO. -/
def DMA_n_STATUS_LEVEL (n : Nat) : Fld := ⟨0xd01018 + n * 0x40, 2, 7⟩
/-- `DMA_n_STATUS.QFULL` (R387), W1C. -/
def DMA_n_STATUS_QFULL (n : Nat) : Fld := ⟨0xd01018 + n * 0x40, 9, 1⟩
/-- `DMA_n_STATUS.DONE` (R387), RO. -/
def DMA_n_STATUS_DONE (n : Nat) : Fld := ⟨0xd01018 + n * 0x40, 16, 16⟩
/-- `DMA_n_LAST.CODE` (R387), RO. -/
def DMA_n_LAST_CODE (n : Nat) : Fld := ⟨0xd0101c + n * 0x40, 0, 4⟩
/-- `DMA_n_LAST.PWR_FORCED` (R387), RO. -/
def DMA_n_LAST_PWR_FORCED (n : Nat) : Fld := ⟨0xd0101c + n * 0x40, 4, 1⟩
/-- `DMA_n_LAST_BYTES.BYTES` (R387), RO. -/
def DMA_n_LAST_BYTES_BYTES (n : Nat) : Fld := ⟨0xd01020 + n * 0x40, 0, 32⟩
/-- `DMA_n_CPL_LO.ADDR` (R387), RW. -/
def DMA_n_CPL_LO_ADDR (n : Nat) : Fld := ⟨0xd01024 + n * 0x40, 0, 32⟩
/-- `DMA_n_CPL_HI.ADDR` (R387), RW. -/
def DMA_n_CPL_HI_ADDR (n : Nat) : Fld := ⟨0xd01028 + n * 0x40, 0, 32⟩
/-- `STR_CTRL.PCRC` (R384), RW. -/
def STR_CTRL_PCRC : Fld := ⟨0xd02000, 0, 1⟩
/-- `STR_CTRL.NOSNOOP_PAYLOAD` (R384), RW. -/
def STR_CTRL_NOSNOOP_PAYLOAD : Fld := ⟨0xd02000, 1, 1⟩
/-- `STR_CTRL.RO_PAYLOAD` (R384), RW. -/
def STR_CTRL_RO_PAYLOAD : Fld := ⟨0xd02000, 2, 1⟩
/-- `STR_IRQ_LO.PEND` (R384), W1C. -/
def STR_IRQ_LO_PEND : Fld := ⟨0xd02008, 0, 32⟩
/-- `STR_IRQ_HI.PEND` (R384), W1C. -/
def STR_IRQ_HI_PEND : Fld := ⟨0xd0200c, 0, 32⟩
/-- `STR_NVQ_KICK.ANY` (R384), WO. -/
def STR_NVQ_KICK_ANY : Fld := ⟨0xd02010, 0, 32⟩
/-- `STR_LAST_REFUSE.STREAM` (R384), RO. -/
def STR_LAST_REFUSE_STREAM : Fld := ⟨0xd02014, 0, 6⟩
/-- `STR_LAST_REFUSE.REASON` (R384), RO. -/
def STR_LAST_REFUSE_REASON : Fld := ⟨0xd02014, 8, 4⟩
/-- `STR_RECORDS_LO.COUNT` (R384), RO. -/
def STR_RECORDS_LO_COUNT : Fld := ⟨0xd02018, 0, 32⟩
/-- `STR_RECORDS_HI.COUNT` (R384), RO. -/
def STR_RECORDS_HI_COUNT : Fld := ⟨0xd0201c, 0, 32⟩
/-- `STR_s_CFG.GUAR` (R385), RW. -/
def STR_s_CFG_GUAR (s : Nat) : Fld := ⟨0xd03000 + s * 0x40, 0, 1⟩
/-- `STR_s_CFG.DEST` (R385), RW. -/
def STR_s_CFG_DEST (s : Nat) : Fld := ⟨0xd03000 + s * 0x40, 1, 1⟩
/-- `STR_s_CFG.IRQ` (R385), RW. -/
def STR_s_CFG_IRQ (s : Nat) : Fld := ⟨0xd03000 + s * 0x40, 2, 1⟩
/-- `STR_s_CFG.NV_STOP` (R385), RW. -/
def STR_s_CFG_NV_STOP (s : Nat) : Fld := ⟨0xd03000 + s * 0x40, 3, 1⟩
/-- `STR_s_CFG.FUA` (R385), RW. -/
def STR_s_CFG_FUA (s : Nat) : Fld := ⟨0xd03000 + s * 0x40, 4, 1⟩
/-- `STR_s_CFG.RECCH` (R385), RW. -/
def STR_s_CFG_RECCH (s : Nat) : Fld := ⟨0xd03000 + s * 0x40, 8, 4⟩
/-- `STR_s_CFG.NVQ_MASK` (R385), RW. -/
def STR_s_CFG_NVQ_MASK (s : Nat) : Fld := ⟨0xd03000 + s * 0x40, 16, 16⟩
/-- `STR_s_RATE.LINK` (R385), RW. -/
def STR_s_RATE_LINK (s : Nat) : Fld := ⟨0xd03004 + s * 0x40, 0, 14⟩
/-- `STR_s_RATE.MEM` (R385), RW. -/
def STR_s_RATE_MEM (s : Nat) : Fld := ⟨0xd03004 + s * 0x40, 16, 14⟩
/-- `STR_s_CTRL.ADMIT` (R385), WO. -/
def STR_s_CTRL_ADMIT (s : Nat) : Fld := ⟨0xd03008 + s * 0x40, 0, 1⟩
/-- `STR_s_CTRL.RELEASE` (R385), WO. -/
def STR_s_CTRL_RELEASE (s : Nat) : Fld := ⟨0xd03008 + s * 0x40, 1, 1⟩
/-- `STR_s_STATUS.STATE` (R385), RO. -/
def STR_s_STATUS_STATE (s : Nat) : Fld := ⟨0xd0300c + s * 0x40, 0, 2⟩
/-- `STR_s_STATUS.RESULT` (R385), RO. -/
def STR_s_STATUS_RESULT (s : Nat) : Fld := ⟨0xd0300c + s * 0x40, 2, 4⟩
/-- `STR_s_STATUS.GUAR_LOSS` (R385), W1C. -/
def STR_s_STATUS_GUAR_LOSS (s : Nat) : Fld := ⟨0xd0300c + s * 0x40, 6, 1⟩
/-- `STR_s_STATUS.CONS_ERR` (R385), W1C. -/
def STR_s_STATUS_CONS_ERR (s : Nat) : Fld := ⟨0xd0300c + s * 0x40, 7, 1⟩
/-- `STR_s_STATUS.CFG_BUSY` (R385), W1C. -/
def STR_s_STATUS_CFG_BUSY (s : Nat) : Fld := ⟨0xd0300c + s * 0x40, 8, 1⟩
/-- `STR_s_RING_BASE_LO.BASE` (R385), RW. -/
def STR_s_RING_BASE_LO_BASE (s : Nat) : Fld := ⟨0xd03010 + s * 0x40, 0, 32⟩
/-- `STR_s_RING_BASE_HI.BASE` (R385), RW. -/
def STR_s_RING_BASE_HI_BASE (s : Nat) : Fld := ⟨0xd03014 + s * 0x40, 0, 32⟩
/-- `STR_s_RING.RING_LOG2` (R385), RW. -/
def STR_s_RING_RING_LOG2 (s : Nat) : Fld := ⟨0xd03018 + s * 0x40, 0, 5⟩
/-- `STR_s_RING.STRIPE_LOG2` (R385), RW. -/
def STR_s_RING_STRIPE_LOG2 (s : Nat) : Fld := ⟨0xd03018 + s * 0x40, 8, 5⟩
/-- `STR_s_WMARK.BYTES` (R385), RW. -/
def STR_s_WMARK_BYTES (s : Nat) : Fld := ⟨0xd0301c + s * 0x40, 0, 32⟩
/-- `STR_s_PROD_ADDR_LO.ADDR` (R385), RW. -/
def STR_s_PROD_ADDR_LO_ADDR (s : Nat) : Fld := ⟨0xd03020 + s * 0x40, 0, 32⟩
/-- `STR_s_PROD_ADDR_HI.ADDR` (R385), RW. -/
def STR_s_PROD_ADDR_HI_ADDR (s : Nat) : Fld := ⟨0xd03024 + s * 0x40, 0, 32⟩
/-- `STR_s_CONS_LO.CONS` (R385), RW. -/
def STR_s_CONS_LO_CONS (s : Nat) : Fld := ⟨0xd03028 + s * 0x40, 0, 32⟩
/-- `STR_s_CONS_HI.CONS` (R385), RW. -/
def STR_s_CONS_HI_CONS (s : Nat) : Fld := ⟨0xd0302c + s * 0x40, 0, 32⟩
/-- `STR_s_SEQ_LO.SEQ` (R385), RO. -/
def STR_s_SEQ_LO_SEQ (s : Nat) : Fld := ⟨0xd03030 + s * 0x40, 0, 32⟩
/-- `STR_s_SEQ_HI.SEQ` (R385), RO. -/
def STR_s_SEQ_HI_SEQ (s : Nat) : Fld := ⟨0xd03034 + s * 0x40, 0, 32⟩
/-- `STR_s_DROPS_LO.COUNT` (R385), RO. -/
def STR_s_DROPS_LO_COUNT (s : Nat) : Fld := ⟨0xd03038 + s * 0x40, 0, 32⟩
/-- `STR_s_DROPS_HI.COUNT` (R385), RO. -/
def STR_s_DROPS_HI_COUNT (s : Nat) : Fld := ⟨0xd0303c + s * 0x40, 0, 32⟩
/-- `NVQ_q_CFG.EN` (R386), RW. -/
def NVQ_q_CFG_EN (q : Nat) : Fld := ⟨0xd04000 + q * 0x40, 0, 1⟩
/-- `NVQ_q_CFG.LOC` (R386), RW. -/
def NVQ_q_CFG_LOC (q : Nat) : Fld := ⟨0xd04000 + q * 0x40, 1, 1⟩
/-- `NVQ_q_CFG.LBA4K` (R386), RW. -/
def NVQ_q_CFG_LBA4K (q : Nat) : Fld := ⟨0xd04000 + q * 0x40, 2, 1⟩
/-- `NVQ_q_CFG.FAILED` (R386), RO. -/
def NVQ_q_CFG_FAILED (q : Nat) : Fld := ⟨0xd04000 + q * 0x40, 3, 1⟩
/-- `NVQ_q_CFG.QSIZE_M1` (R386), RW. -/
def NVQ_q_CFG_QSIZE_M1 (q : Nat) : Fld := ⟨0xd04000 + q * 0x40, 16, 10⟩
/-- `NVQ_q_NSID.NSID` (R386), RW. -/
def NVQ_q_NSID_NSID (q : Nat) : Fld := ⟨0xd04004 + q * 0x40, 0, 32⟩
/-- `NVQ_q_SQ_LO.ADDR` (R386), RW. -/
def NVQ_q_SQ_LO_ADDR (q : Nat) : Fld := ⟨0xd04008 + q * 0x40, 0, 32⟩
/-- `NVQ_q_SQ_HI.ADDR` (R386), RW. -/
def NVQ_q_SQ_HI_ADDR (q : Nat) : Fld := ⟨0xd0400c + q * 0x40, 0, 32⟩
/-- `NVQ_q_CQ_LO.ADDR` (R386), RW. -/
def NVQ_q_CQ_LO_ADDR (q : Nat) : Fld := ⟨0xd04010 + q * 0x40, 0, 32⟩
/-- `NVQ_q_CQ_HI.ADDR` (R386), RW. -/
def NVQ_q_CQ_HI_ADDR (q : Nat) : Fld := ⟨0xd04014 + q * 0x40, 0, 32⟩
/-- `NVQ_q_SQDB_LO.ADDR` (R386), RW. -/
def NVQ_q_SQDB_LO_ADDR (q : Nat) : Fld := ⟨0xd04018 + q * 0x40, 0, 32⟩
/-- `NVQ_q_SQDB_HI.ADDR` (R386), RW. -/
def NVQ_q_SQDB_HI_ADDR (q : Nat) : Fld := ⟨0xd0401c + q * 0x40, 0, 32⟩
/-- `NVQ_q_CQDB_LO.ADDR` (R386), RW. -/
def NVQ_q_CQDB_LO_ADDR (q : Nat) : Fld := ⟨0xd04020 + q * 0x40, 0, 32⟩
/-- `NVQ_q_CQDB_HI.ADDR` (R386), RW. -/
def NVQ_q_CQDB_HI_ADDR (q : Nat) : Fld := ⟨0xd04024 + q * 0x40, 0, 32⟩
/-- `NVQ_q_LBA_LO.LBA` (R386), RW. -/
def NVQ_q_LBA_LO_LBA (q : Nat) : Fld := ⟨0xd04028 + q * 0x40, 0, 32⟩
/-- `NVQ_q_LBA_HI.LBA` (R386), RW. -/
def NVQ_q_LBA_HI_LBA (q : Nat) : Fld := ⟨0xd0402c + q * 0x40, 0, 32⟩
/-- `NVQ_q_NLBA_LO.NLBA` (R386), RW. -/
def NVQ_q_NLBA_LO_NLBA (q : Nat) : Fld := ⟨0xd04030 + q * 0x40, 0, 32⟩
/-- `NVQ_q_NLBA_HI.NLBA` (R386), RW. -/
def NVQ_q_NLBA_HI_NLBA (q : Nat) : Fld := ⟨0xd04034 + q * 0x40, 0, 32⟩
/-- `NVQ_q_STATUS.INFLIGHT` (R386), RO. -/
def NVQ_q_STATUS_INFLIGHT (q : Nat) : Fld := ⟨0xd04038 + q * 0x40, 0, 9⟩
/-- `NVQ_q_STATUS.ERRS` (R386), RO. -/
def NVQ_q_STATUS_ERRS (q : Nat) : Fld := ⟨0xd04038 + q * 0x40, 16, 16⟩
/-- `NVQ_q_TIMEOUT.TIMEOUT_MS` (R386), RW. -/
def NVQ_q_TIMEOUT_TIMEOUT_MS (q : Nat) : Fld := ⟨0xd0403c + q * 0x40, 0, 16⟩
/-- `NVQ_q_TIMEOUT.LAST_SC` (R386), RO. -/
def NVQ_q_TIMEOUT_LAST_SC (q : Nat) : Fld := ⟨0xd0403c + q * 0x40, 16, 16⟩
/-- `MSIX_v_ADDR_LO.ADDR` (R351), RW. -/
def MSIX_v_ADDR_LO_ADDR (v : Nat) : Fld := ⟨0xd0e000 + v * 0x10, 0, 32⟩
/-- `MSIX_v_ADDR_HI.ADDR` (R351), RW. -/
def MSIX_v_ADDR_HI_ADDR (v : Nat) : Fld := ⟨0xd0e004 + v * 0x10, 0, 32⟩
/-- `MSIX_v_DATA.DATA` (R351), RW. -/
def MSIX_v_DATA_DATA (v : Nat) : Fld := ⟨0xd0e008 + v * 0x10, 0, 32⟩
/-- `MSIX_v_CTRL.MASK` (R351), RW. -/
def MSIX_v_CTRL_MASK (v : Nat) : Fld := ⟨0xd0e00c + v * 0x10, 0, 1⟩
/-- `MSIX_PBA_w.PBA` (R351), RO. -/
def MSIX_PBA_w_PBA (w : Nat) : Fld := ⟨0xd0e800 + w * 0x4, 0, 32⟩
/-- `STR_ANCHOR_TAI_LO.TAI_LO` (R49), RW. -/
def STR_ANCHOR_TAI_LO_TAI_LO : Fld := ⟨0xd0f000, 0, 32⟩
/-- `STR_ANCHOR_TAI_HI.TAI_HI` (R49), RW. -/
def STR_ANCHOR_TAI_HI_TAI_HI : Fld := ⟨0xd0f004, 0, 32⟩
/-- `STR_ANCHOR_TICK_LO.TICK_LO` (R49), RW. -/
def STR_ANCHOR_TICK_LO_TICK_LO : Fld := ⟨0xd0f008, 0, 32⟩
/-- `STR_ANCHOR_TICK_HI.TICK_HI` (R49), RW. -/
def STR_ANCHOR_TICK_HI_TICK_HI : Fld := ⟨0xd0f00c, 0, 32⟩
/-- `STR_ANCHOR_FRAC.FRAC` (R49), RW. -/
def STR_ANCHOR_FRAC_FRAC : Fld := ⟨0xd0f010, 0, 10⟩
/-- `STR_ANCHOR_CTRL.COMMIT` (R49), WO. -/
def STR_ANCHOR_CTRL_COMMIT : Fld := ⟨0xd0f014, 0, 1⟩
/-- `STR_ANCHOR_STATUS.INDEX` (R49), RO. -/
def STR_ANCHOR_STATUS_INDEX : Fld := ⟨0xd0f018, 0, 16⟩
/-- `STR_ANCHOR_STATUS.BUSY` (R49), RO. -/
def STR_ANCHOR_STATUS_BUSY : Fld := ⟨0xd0f018, 16, 1⟩
/-- `STR_ANCHOR_STATUS.ERR` (R49), RO. -/
def STR_ANCHOR_STATUS_ERR : Fld := ⟨0xd0f018, 17, 3⟩
/-- `STR_ANCHOR_STATUS.SUSPECT` (R49), RO. -/
def STR_ANCHOR_STATUS_SUSPECT : Fld := ⟨0xd0f018, 20, 1⟩
/-- `STR_STREAM_EN_s.VAL` (R383), RO. -/
def STR_STREAM_EN_s_VAL (s : Nat) : Fld := ⟨0xd40000 + s * 0x4, 0, 14⟩
/-- `STR_STREAM_EN_s.CORES` (R383), RO. -/
def STR_STREAM_EN_s_CORES (s : Nat) : Fld := ⟨0xd40000 + s * 0x4, 16, 16⟩
/-- `PNL_CTRL.EN` (R400), RW. -/
def PNL_CTRL_EN : Fld := ⟨0xe00000, 0, 1⟩
/-- `PNL_CTRL.TE_EN` (R400), RW. -/
def PNL_CTRL_TE_EN : Fld := ⟨0xe00000, 1, 1⟩
/-- `PNL_CTRL.TE_ON_CMD` (R400), RW. -/
def PNL_CTRL_TE_ON_CMD : Fld := ⟨0xe00000, 2, 1⟩
/-- `PNL_CTRL.FULL` (R400), WO. -/
def PNL_CTRL_FULL : Fld := ⟨0xe00000, 3, 1⟩
/-- `PNL_CTRL.FRAME_EVT` (R400), RW. -/
def PNL_CTRL_FRAME_EVT : Fld := ⟨0xe00000, 4, 1⟩
/-- `PNL_LINK.RATE` (R400), RW. -/
def PNL_LINK_RATE : Fld := ⟨0xe00004, 0, 8⟩
/-- `PNL_LINK.LANES` (R400), RW. -/
def PNL_LINK_LANES : Fld := ⟨0xe00004, 8, 2⟩
/-- `PNL_PANEL.WIDTH` (R400), RW. -/
def PNL_PANEL_WIDTH : Fld := ⟨0xe00008, 0, 12⟩
/-- `PNL_PANEL.HEIGHT` (R400), RW. -/
def PNL_PANEL_HEIGHT : Fld := ⟨0xe00008, 16, 12⟩
/-- `PNL_FRAME_US.US` (R400), RW. -/
def PNL_FRAME_US_US : Fld := ⟨0xe0000c, 0, 17⟩
/-- `PNL_VIEW_n.X` (R400), RW. -/
def PNL_VIEW_n_X (n : Nat) : Fld := ⟨0xe00010 + n * 0x4, 0, 12⟩
/-- `PNL_VIEW_n.Y` (R400), RW. -/
def PNL_VIEW_n_Y (n : Nat) : Fld := ⟨0xe00010 + n * 0x4, 12, 12⟩
/-- `PNL_VIEW_n.EN` (R400), RW. -/
def PNL_VIEW_n_EN (n : Nat) : Fld := ⟨0xe00010 + n * 0x4, 24, 1⟩
/-- `PNL_HOST_ADDR_LO.ADDR` (R400), RW. -/
def PNL_HOST_ADDR_LO_ADDR : Fld := ⟨0xe00018, 0, 32⟩
/-- `PNL_HOST_ADDR_HI.ADDR` (R400), RW. -/
def PNL_HOST_ADDR_HI_ADDR : Fld := ⟨0xe0001c, 0, 32⟩
/-- `PNL_HOST_STRIDE.BYTES` (R400), RW. -/
def PNL_HOST_STRIDE_BYTES : Fld := ⟨0xe00020, 0, 16⟩
/-- `PNL_HOST_RECT0.X` (R400), RW. -/
def PNL_HOST_RECT0_X : Fld := ⟨0xe00024, 0, 12⟩
/-- `PNL_HOST_RECT0.Y` (R400), RW. -/
def PNL_HOST_RECT0_Y : Fld := ⟨0xe00024, 16, 12⟩
/-- `PNL_HOST_RECT1.W` (R400), RW. -/
def PNL_HOST_RECT1_W : Fld := ⟨0xe00028, 0, 12⟩
/-- `PNL_HOST_RECT1.H` (R400), RW. -/
def PNL_HOST_RECT1_H : Fld := ⟨0xe00028, 16, 12⟩
/-- `PNL_COMMIT.GO` (R400), WO. -/
def PNL_COMMIT_GO : Fld := ⟨0xe0002c, 0, 1⟩
/-- `PNL_COMMIT.HOST` (R400), WO. -/
def PNL_COMMIT_HOST : Fld := ⟨0xe0002c, 1, 1⟩
/-- `PNL_STATUS.LINK` (R400), RO. -/
def PNL_STATUS_LINK : Fld := ⟨0xe00030, 0, 2⟩
/-- `PNL_STATUS.PUSHING` (R400), RO. -/
def PNL_STATUS_PUSHING : Fld := ⟨0xe00030, 2, 1⟩
/-- `PNL_STATUS.PENDING` (R400), RO. -/
def PNL_STATUS_PENDING : Fld := ⟨0xe00030, 3, 1⟩
/-- `PNL_STATUS.TE_OK` (R400), RO. -/
def PNL_STATUS_TE_OK : Fld := ⟨0xe00030, 4, 1⟩
/-- `PNL_STATUS.COMMIT_ERR` (R400), W1C. -/
def PNL_STATUS_COMMIT_ERR : Fld := ⟨0xe00030, 5, 1⟩
/-- `PNL_STATUS.ERR_CODE` (R400), RO. -/
def PNL_STATUS_ERR_CODE : Fld := ⟨0xe00030, 6, 3⟩
/-- `PNL_STATUS.OVERRUN` (R400), W1C. -/
def PNL_STATUS_OVERRUN : Fld := ⟨0xe00030, 9, 1⟩
/-- `PNL_STATUS.CFG_BUSY` (R400), W1C. -/
def PNL_STATUS_CFG_BUSY : Fld := ⟨0xe00030, 10, 1⟩
/-- `PNL_STATUS.DCS_BUSY` (R400), RO. -/
def PNL_STATUS_DCS_BUSY : Fld := ⟨0xe00030, 11, 1⟩
/-- `PNL_STATUS.DCS_DROP` (R400), W1C. -/
def PNL_STATUS_DCS_DROP : Fld := ⟨0xe00030, 12, 1⟩
/-- `PNL_STATUS.HOST_ERR` (R400), W1C. -/
def PNL_STATUS_HOST_ERR : Fld := ⟨0xe00030, 13, 1⟩
/-- `PNL_ACT_VIEW_n.X` (R400), RO. -/
def PNL_ACT_VIEW_n_X (n : Nat) : Fld := ⟨0xe00034 + n * 0x4, 0, 12⟩
/-- `PNL_ACT_VIEW_n.Y` (R400), RO. -/
def PNL_ACT_VIEW_n_Y (n : Nat) : Fld := ⟨0xe00034 + n * 0x4, 12, 12⟩
/-- `PNL_ACT_VIEW_n.EN` (R400), RO. -/
def PNL_ACT_VIEW_n_EN (n : Nat) : Fld := ⟨0xe00034 + n * 0x4, 24, 1⟩
/-- `PNL_OWED.A` (R400), RO. -/
def PNL_OWED_A : Fld := ⟨0xe0003c, 0, 10⟩
/-- `PNL_OWED.B` (R400), RO. -/
def PNL_OWED_B : Fld := ⟨0xe0003c, 16, 10⟩
/-- `PNL_TE_PERIOD.US` (R400), RO. -/
def PNL_TE_PERIOD_US : Fld := ⟨0xe00040, 0, 20⟩
/-- `PNL_FRAMES.COUNT` (R400), RO. -/
def PNL_FRAMES_COUNT : Fld := ⟨0xe00044, 0, 32⟩
/-- `PNL_TILES_LO.COUNT` (R400), RO. -/
def PNL_TILES_LO_COUNT : Fld := ⟨0xe00048, 0, 32⟩
/-- `PNL_TILES_HI.COUNT` (R400), RO. -/
def PNL_TILES_HI_COUNT : Fld := ⟨0xe0004c, 0, 32⟩
/-- `PNL_DCS_CTRL.LEN` (R400), RW. -/
def PNL_DCS_CTRL_LEN : Fld := ⟨0xe00050, 0, 5⟩
/-- `PNL_DCS_CTRL.GENERIC` (R400), RW. -/
def PNL_DCS_CTRL_GENERIC : Fld := ⟨0xe00050, 5, 1⟩
/-- `PNL_DCS_CTRL.SEND` (R400), WO. -/
def PNL_DCS_CTRL_SEND : Fld := ⟨0xe00050, 6, 1⟩
/-- `PNL_DCS_DATAi.DATA` (R400), RW. -/
def PNL_DCS_DATAi_DATA (i : Nat) : Fld := ⟨0xe00054 + i * 0x4, 0, 32⟩
/-- `GGE_STATUS.SCANNING` (R418), RO. -/
def GGE_STATUS_SCANNING : Fld := ⟨0xf00000, 0, 1⟩
/-- `GGE_STATUS.URGENT` (R418), RO. -/
def GGE_STATUS_URGENT : Fld := ⟨0xf00000, 1, 1⟩
/-- `GGE_STATUS.QUEUED` (R418), RO. -/
def GGE_STATUS_QUEUED : Fld := ⟨0xf00000, 2, 3⟩
/-- `GGE_STATUS.TEST_ON` (R418), RO. -/
def GGE_STATUS_TEST_ON : Fld := ⟨0xf00000, 5, 1⟩
/-- `GGE_STATUS.RENORM_SEEN` (R418), W1C. -/
def GGE_STATUS_RENORM_SEEN : Fld := ⟨0xf00000, 6, 1⟩
/-- `GGE_STATUS.URG_DROP` (R418), W1C. -/
def GGE_STATUS_URG_DROP : Fld := ⟨0xf00000, 7, 1⟩
/-- `GGE_STATUS.REFUSED` (R418), W1C. -/
def GGE_STATUS_REFUSED : Fld := ⟨0xf00000, 8, 1⟩
/-- `GGE_REQ.INPUT` (R418), WO. -/
def GGE_REQ_INPUT : Fld := ⟨0xf00004, 0, 5⟩
/-- `GGE_REQ.GO` (R418), WO. -/
def GGE_REQ_GO : Fld := ⟨0xf00004, 5, 1⟩
/-- `GGE_SNAP.INPUT` (R418), WO. -/
def GGE_SNAP_INPUT : Fld := ⟨0xf00008, 0, 5⟩
/-- `GGE_SNAP.CLEAR` (R418), WO. -/
def GGE_SNAP_CLEAR : Fld := ⟨0xf00008, 5, 1⟩
/-- `GGE_SNAP.PEND` (R418), RO. -/
def GGE_SNAP_PEND : Fld := ⟨0xf00008, 6, 1⟩
/-- `GGE_SNAP_SUM_LO.SUM` (R418), RO. -/
def GGE_SNAP_SUM_LO_SUM : Fld := ⟨0xf0000c, 0, 32⟩
/-- `GGE_SNAP_SUM_HI.SUM` (R418), RO. -/
def GGE_SNAP_SUM_HI_SUM : Fld := ⟨0xf00010, 0, 16⟩
/-- `GGE_SNAP_COUNT.COUNT` (R418), RO. -/
def GGE_SNAP_COUNT_COUNT : Fld := ⟨0xf00014, 0, 32⟩
/-- `GGE_SNAP_MINMAX.MIN` (R418), RO. -/
def GGE_SNAP_MINMAX_MIN : Fld := ⟨0xf00018, 0, 12⟩
/-- `GGE_SNAP_MINMAX.MAX` (R418), RO. -/
def GGE_SNAP_MINMAX_MAX : Fld := ⟨0xf00018, 16, 12⟩
/-- `GGE_SNAP_MINMAX.RENORM` (R418), RO. -/
def GGE_SNAP_MINMAX_RENORM : Fld := ⟨0xf00018, 28, 1⟩
/-- `GGE_SNAP_MINMAX.EMPTY` (R418), RO. -/
def GGE_SNAP_MINMAX_EMPTY : Fld := ⟨0xf00018, 29, 1⟩
/-- `GGE_ALARM_HI.INPUT` (R418), W1C. -/
def GGE_ALARM_HI_INPUT : Fld := ⟨0xf0001c, 0, 32⟩
/-- `GGE_ALARM_LO.INPUT` (R418), W1C. -/
def GGE_ALARM_LO_INPUT : Fld := ⟨0xf00020, 0, 32⟩
/-- `GGE_TEST_CTRL.INPUT` (R418), RW. -/
def GGE_TEST_CTRL_INPUT : Fld := ⟨0xf00024, 0, 5⟩
/-- `GGE_TEST_CTRL.CODE` (R418), RW. -/
def GGE_TEST_CTRL_CODE : Fld := ⟨0xf00024, 5, 10⟩
/-- `GGE_TEST_CTRL.EN` (R418), RW. -/
def GGE_TEST_CTRL_EN : Fld := ⟨0xf00024, 15, 1⟩
/-- `GGE_TEST_RESULT.MIN` (R418), RO. -/
def GGE_TEST_RESULT_MIN : Fld := ⟨0xf00028, 0, 12⟩
/-- `GGE_TEST_RESULT.MAX` (R418), RO. -/
def GGE_TEST_RESULT_MAX : Fld := ⟨0xf00028, 16, 12⟩
/-- `GGE_TEST_COUNT.COUNT` (R418), RO. -/
def GGE_TEST_COUNT_COUNT : Fld := ⟨0xf0002c, 0, 16⟩
/-- `GGE_EVT_CTRL.SCAN_EVT` (R418), RW. -/
def GGE_EVT_CTRL_SCAN_EVT : Fld := ⟨0xf00030, 0, 1⟩
/-- `GGE_LAST_REFUSE.SEL` (R418), RO. -/
def GGE_LAST_REFUSE_SEL : Fld := ⟨0xf00034, 0, 1⟩
/-- `GGE_LAST_REFUSE.REASON` (R418), RO. -/
def GGE_LAST_REFUSE_REASON : Fld := ⟨0xf00034, 4, 4⟩
/-- `GGE_i_LIMIT.LOW` (R418), RW. -/
def GGE_i_LIMIT_LOW (i : Nat) : Fld := ⟨0xf00100 + i * 0x10, 0, 12⟩
/-- `GGE_i_LIMIT.HIGH` (R418), RW. -/
def GGE_i_LIMIT_HIGH (i : Nat) : Fld := ⟨0xf00100 + i * 0x10, 16, 12⟩
/-- `GGE_i_LIMIT.EN_LO` (R418), RW. -/
def GGE_i_LIMIT_EN_LO (i : Nat) : Fld := ⟨0xf00100 + i * 0x10, 28, 1⟩
/-- `GGE_i_LIMIT.EN_HI` (R418), RW. -/
def GGE_i_LIMIT_EN_HI (i : Nat) : Fld := ⟨0xf00100 + i * 0x10, 29, 1⟩
/-- `GGE_i_LIMIT.WAKE` (R418), RW. -/
def GGE_i_LIMIT_WAKE (i : Nat) : Fld := ⟨0xf00100 + i * 0x10, 30, 1⟩
/-- `GGE_i_STATE.HI_ACTIVE` (R418), RO. -/
def GGE_i_STATE_HI_ACTIVE (i : Nat) : Fld := ⟨0xf00104 + i * 0x10, 0, 1⟩
/-- `GGE_i_STATE.LO_ACTIVE` (R418), RO. -/
def GGE_i_STATE_LO_ACTIVE (i : Nat) : Fld := ⟨0xf00104 + i * 0x10, 1, 1⟩
/-- `GGE_SCAN_MASK.MASK` (R417), RO. -/
def GGE_SCAN_MASK_MASK : Fld := ⟨0xf40000, 0, 32⟩
/-- `LOG_STATUS.STATE` (R419), RO. -/
def LOG_STATUS_STATE : Fld := ⟨0x1000000, 0, 2⟩
/-- `LOG_STATUS.WRITING` (R419), RO. -/
def LOG_STATUS_WRITING : Fld := ⟨0x1000000, 2, 1⟩
/-- `LOG_STATUS.PENDING` (R419), RO. -/
def LOG_STATUS_PENDING : Fld := ⟨0x1000000, 3, 1⟩
/-- `LOG_STATUS.ERASING` (R419), RO. -/
def LOG_STATUS_ERASING : Fld := ⟨0x1000000, 4, 1⟩
/-- `LOG_STATUS.WIN_READY` (R419), RO. -/
def LOG_STATUS_WIN_READY : Fld := ⟨0x1000000, 5, 1⟩
/-- `LOG_STATUS.WIN_VALID` (R419), RO. -/
def LOG_STATUS_WIN_VALID : Fld := ⟨0x1000000, 6, 1⟩
/-- `LOG_STATUS.SAT` (R419), W1C. -/
def LOG_STATUS_SAT : Fld := ⟨0x1000000, 7, 1⟩
/-- `LOG_STATUS.CLR_RESULT` (R419), RO. -/
def LOG_STATUS_CLR_RESULT : Fld := ⟨0x1000000, 8, 4⟩
/-- `LOG_STATUS.CLR_BUSY` (R419), RO. -/
def LOG_STATUS_CLR_BUSY : Fld := ⟨0x1000000, 12, 1⟩
/-- `LOG_STATUS.FAIL` (R419), W1C. -/
def LOG_STATUS_FAIL : Fld := ⟨0x1000000, 13, 1⟩
/-- `LOG_SEQ.SEQ` (R419), RO. -/
def LOG_SEQ_SEQ : Fld := ⟨0x1000004, 0, 32⟩
/-- `LOG_OPSEC.SEC` (R419), RO. -/
def LOG_OPSEC_SEC : Fld := ⟨0x1000008, 0, 32⟩
/-- `LOG_CYCLES.COUNT` (R419), RO. -/
def LOG_CYCLES_COUNT : Fld := ⟨0x100000c, 0, 32⟩
/-- `LOG_CURSOR.AGE` (R419), RW. -/
def LOG_CURSOR_AGE : Fld := ⟨0x1000010, 0, 8⟩
/-- `LOG_WIN_SEQ.SEQ` (R419), RO. -/
def LOG_WIN_SEQ_SEQ : Fld := ⟨0x1000014, 0, 32⟩
/-- `LOG_CTRL.COMMIT` (R419), WO. -/
def LOG_CTRL_COMMIT : Fld := ⟨0x1000018, 0, 1⟩
/-- `LOG_CTRL.CLEAR` (R419), WO. -/
def LOG_CTRL_CLEAR : Fld := ⟨0x1000018, 1, 1⟩
/-- `LOG_NEXT.SLOT` (R419), RO. -/
def LOG_NEXT_SLOT : Fld := ⟨0x100001c, 0, 8⟩
/-- `LOG_NONCEi.NONCE` (R419), RO. -/
def LOG_NONCEi_NONCE (i : Nat) : Fld := ⟨0x1000020 + i * 0x4, 0, 32⟩
/-- `LCS_STATUS.STATE` (R472), RO. -/
def LCS_STATUS_STATE : Fld := ⟨0x1100000, 0, 3⟩
/-- `LCS_STATUS.PENDING` (R472), RO. -/
def LCS_STATUS_PENDING : Fld := ⟨0x1100000, 3, 3⟩
/-- `LCS_STATUS.SLOT_PROG` (R472), RO. -/
def LCS_STATUS_SLOT_PROG : Fld := ⟨0x1100000, 6, 2⟩
/-- `LCS_STATUS.SLOT_REVOKED` (R472), RO. -/
def LCS_STATUS_SLOT_REVOKED : Fld := ⟨0x1100000, 8, 2⟩
/-- `LCS_STATUS.ID_READY` (R472), RO. -/
def LCS_STATUS_ID_READY : Fld := ⟨0x1100000, 10, 1⟩
/-- `LCS_STATUS.TRNG_FAIL` (R472), RO. -/
def LCS_STATUS_TRNG_FAIL : Fld := ⟨0x1100000, 11, 1⟩
/-- `LCS_STATUS.CMD_BUSY` (R472), RO. -/
def LCS_STATUS_CMD_BUSY : Fld := ⟨0x1100000, 12, 1⟩
/-- `LCS_STATUS.FUSE_REV` (R472), RO. -/
def LCS_STATUS_FUSE_REV : Fld := ⟨0x1100000, 16, 8⟩
/-- `LCS_CMD_CTRL.GO` (R472), WO. -/
def LCS_CMD_CTRL_GO : Fld := ⟨0x1100004, 0, 1⟩
/-- `LCS_CMD_RESULT.RESULT` (R472), RO. -/
def LCS_CMD_RESULT_RESULT : Fld := ⟨0x1100008, 0, 4⟩
/-- `LCS_CMD_RESULT.OP` (R472), RO. -/
def LCS_CMD_RESULT_OP : Fld := ⟨0x1100008, 4, 8⟩
/-- `LCS_SVN.OTP` (R472), RO. -/
def LCS_SVN_OTP : Fld := ⟨0x110000c, 0, 7⟩
/-- `LCS_SVN.IMAGE` (R472), RO. -/
def LCS_SVN_IMAGE : Fld := ⟨0x110000c, 16, 7⟩
/-- `LCS_NONCEi.NONCE` (R472), RO. -/
def LCS_NONCEi_NONCE (i : Nat) : Fld := ⟨0x1100010 + i * 0x4, 0, 32⟩
/-- `LCS_LOAD_ADDR_LO.ADDR` (R472), RW. -/
def LCS_LOAD_ADDR_LO_ADDR : Fld := ⟨0x1100040, 0, 32⟩
/-- `LCS_LOAD_ADDR_HI.ADDR` (R472), RW. -/
def LCS_LOAD_ADDR_HI_ADDR : Fld := ⟨0x1100044, 0, 32⟩
/-- `LCS_LOAD_LEN.BYTES` (R472), RW. -/
def LCS_LOAD_LEN_BYTES : Fld := ⟨0x1100048, 0, 25⟩
/-- `LCS_LOAD_CTRL.GO` (R472), WO. -/
def LCS_LOAD_CTRL_GO : Fld := ⟨0x110004c, 0, 1⟩
/-- `LCS_LOAD_CTRL.SRC` (R472), RW. -/
def LCS_LOAD_CTRL_SRC : Fld := ⟨0x110004c, 1, 1⟩
/-- `LCS_LOAD_STATUS.RESULT` (R472), RO. -/
def LCS_LOAD_STATUS_RESULT : Fld := ⟨0x1100050, 0, 4⟩
/-- `LCS_LOAD_STATUS.BUSY` (R472), RO. -/
def LCS_LOAD_STATUS_BUSY : Fld := ⟨0x1100050, 4, 1⟩
/-- `LCS_LOAD_STATUS.LOAD_DROP` (R472), W1C. -/
def LCS_LOAD_STATUS_LOAD_DROP : Fld := ⟨0x1100050, 5, 1⟩
/-- `LCS_ATT_NONCEi.NONCE` (R472), RW. -/
def LCS_ATT_NONCEi_NONCE (i : Nat) : Fld := ⟨0x1100060 + i * 0x4, 0, 32⟩
/-- `LCS_ATT_CTRL.GO` (R472), WO. -/
def LCS_ATT_CTRL_GO : Fld := ⟨0x1100080, 0, 1⟩
/-- `LCS_ATT_STATUS.RESULT` (R472), RO. -/
def LCS_ATT_STATUS_RESULT : Fld := ⟨0x1100084, 0, 2⟩
/-- `LCS_ATT_STATUS.BUSY` (R472), RO. -/
def LCS_ATT_STATUS_BUSY : Fld := ⟨0x1100084, 2, 1⟩
/-- `LCS_MEAS_m_i.DIGEST` (R472), RO. -/
def LCS_MEAS_m_i_DIGEST (m i : Nat) : Fld := ⟨0x1100100 + m * 0x20 + i * 0x4, 0, 32⟩
/-- `LCS_EXT_DATAi.DATA` (R472), RW. -/
def LCS_EXT_DATAi_DATA (i : Nat) : Fld := ⟨0x1100180 + i * 0x4, 0, 32⟩
/-- `LCS_EXT_CTRL.EXTEND` (R472), WO. -/
def LCS_EXT_CTRL_EXTEND : Fld := ⟨0x11001a0, 0, 1⟩
/-- `BST_RUN.TESTS` (R473), RW. -/
def BST_RUN_TESTS : Fld := ⟨0x1200000, 0, 5⟩
/-- `BST_RUN.GO` (R473), WO. -/
def BST_RUN_GO : Fld := ⟨0x1200000, 8, 1⟩
/-- `BST_RUN.ABORT` (R473), WO. -/
def BST_RUN_ABORT : Fld := ⟨0x1200000, 9, 1⟩
/-- `BST_STATUS.BUSY` (R473), RO. -/
def BST_STATUS_BUSY : Fld := ⟨0x1200004, 0, 1⟩
/-- `BST_STATUS.WHOLE` (R473), RO. -/
def BST_STATUS_WHOLE : Fld := ⟨0x1200004, 1, 1⟩
/-- `BST_STATUS.JTAG_BLOCKED` (R473), W1C. -/
def BST_STATUS_JTAG_BLOCKED : Fld := ⟨0x1200004, 2, 1⟩
/-- `BST_STATUS.SRAM_UNREP` (R473), W1C. -/
def BST_STATUS_SRAM_UNREP : Fld := ⟨0x1200004, 3, 1⟩
/-- `BST_STATUS.REFUSED` (R473), W1C. -/
def BST_STATUS_REFUSED : Fld := ⟨0x1200004, 4, 1⟩
/-- `BST_RESULT.RES0` (R473), RO. -/
def BST_RESULT_RES0 : Fld := ⟨0x1200008, 0, 3⟩
/-- `BST_RESULT.RES1` (R473), RO. -/
def BST_RESULT_RES1 : Fld := ⟨0x1200008, 3, 3⟩
/-- `BST_RESULT.RES2` (R473), RO. -/
def BST_RESULT_RES2 : Fld := ⟨0x1200008, 6, 3⟩
/-- `BST_RESULT.RES3` (R473), RO. -/
def BST_RESULT_RES3 : Fld := ⟨0x1200008, 9, 3⟩
/-- `BST_RESULT.RES4` (R473), RO. -/
def BST_RESULT_RES4 : Fld := ⟨0x1200008, 12, 3⟩
/-- `BST_RESULT.PATROL` (R473), RO. -/
def BST_RESULT_PATROL : Fld := ⟨0x1200008, 15, 3⟩
/-- `BST_TETHER_FAIL_LO.FWD` (R473), RO. -/
def BST_TETHER_FAIL_LO_FWD : Fld := ⟨0x1200010, 0, 32⟩
/-- `BST_TETHER_FAIL_HI.FWD` (R473), RO. -/
def BST_TETHER_FAIL_HI_FWD : Fld := ⟨0x1200014, 0, 2⟩
/-- `BST_TETHER_FAIL_HI.RET` (R473), RO. -/
def BST_TETHER_FAIL_HI_RET : Fld := ⟨0x1200014, 4, 3⟩
/-- `BST_DDR_FAIL.FAIL` (R473), RO. -/
def BST_DDR_FAIL_FAIL : Fld := ⟨0x1200020, 0, 8⟩
/-- `BST_DDR_FAIL.UNTESTED` (R473), RO. -/
def BST_DDR_FAIL_UNTESTED : Fld := ⟨0x1200020, 8, 8⟩
/-- `BST_LINK_FAIL.PCIE` (R473), RO. -/
def BST_LINK_FAIL_PCIE : Fld := ⟨0x1200024, 0, 16⟩
/-- `BST_LINK_FAIL.DSI` (R473), RO. -/
def BST_LINK_FAIL_DSI : Fld := ⟨0x1200024, 16, 4⟩
/-- `BST_LINK_FAIL.DSI_CLK` (R473), RO. -/
def BST_LINK_FAIL_DSI_CLK : Fld := ⟨0x1200024, 20, 1⟩
/-- `BST_SRAM_REPAIRS.SOFT` (R473), RO. -/
def BST_SRAM_REPAIRS_SOFT : Fld := ⟨0x1200028, 0, 16⟩
/-- `BST_SRAM_REPAIRS.FREE` (R473), RO. -/
def BST_SRAM_REPAIRS_FREE : Fld := ⟨0x1200028, 16, 16⟩
/-- `BST_SRAM_FAIL_ADDR.OFFSET` (R473), RO. -/
def BST_SRAM_FAIL_ADDR_OFFSET : Fld := ⟨0x120002c, 0, 26⟩
/-- `BST_REPAIR.FUSE_SRAM` (R473), WO. -/
def BST_REPAIR_FUSE_SRAM : Fld := ⟨0x1200030, 0, 1⟩
/-- `BST_REPAIR.FUSE_TETHER` (R473), WO. -/
def BST_REPAIR_FUSE_TETHER : Fld := ⟨0x1200030, 1, 1⟩
/-- `BST_REPAIR.REPAIR_RESULT` (R473), RO. -/
def BST_REPAIR_REPAIR_RESULT : Fld := ⟨0x1200030, 2, 2⟩
/-- `BST_REPAIR.BURNING` (R473), RO. -/
def BST_REPAIR_BURNING : Fld := ⟨0x1200030, 4, 1⟩
/-- `BST_PATROL_CTRL.EN` (R473), RW. -/
def BST_PATROL_CTRL_EN : Fld := ⟨0x1200040, 0, 1⟩
/-- `BST_PATROL_CTRL.PERIOD` (R473), RW. -/
def BST_PATROL_CTRL_PERIOD : Fld := ⟨0x1200040, 4, 12⟩
/-- `BST_PATROL_STATUS.SLICE` (R473), RO. -/
def BST_PATROL_STATUS_SLICE : Fld := ⟨0x1200044, 0, 10⟩
/-- `BST_PATROL_STATUS.RUNNING` (R473), RO. -/
def BST_PATROL_STATUS_RUNNING : Fld := ⟨0x1200044, 10, 1⟩
/-- `BST_PATROL_STATUS.FAILS` (R473), RO. -/
def BST_PATROL_STATUS_FAILS : Fld := ⟨0x1200044, 16, 16⟩
/-- `BST_PATROL_PASSES.COUNT` (R473), RO. -/
def BST_PATROL_PASSES_COUNT : Fld := ⟨0x1200048, 0, 32⟩
/-- `BST_t_COUNT.COUNT` (R473), RO. -/
def BST_t_COUNT_COUNT (t : Nat) : Fld := ⟨0x1200100 + t * 0x10, 0, 32⟩
/-- `BST_t_EXPECTED.EXPECTED` (R473), RO. -/
def BST_t_EXPECTED_EXPECTED (t : Nat) : Fld := ⟨0x1200104 + t * 0x10, 0, 32⟩
/-- `BST_t_SIG.SIG` (R473), RO. -/
def BST_t_SIG_SIG (t : Nat) : Fld := ⟨0x1200108 + t * 0x10, 0, 32⟩
/-- `BST_t_STATE.DONE` (R473), RO. -/
def BST_t_STATE_DONE (t : Nat) : Fld := ⟨0x120010c + t * 0x10, 0, 1⟩
/-- `BST_t_STATE.SIG_OK` (R473), RO. -/
def BST_t_STATE_SIG_OK (t : Nat) : Fld := ⟨0x120010c + t * 0x10, 1, 1⟩
/-- `BST_DDR_PIN_c.PIN` (R473), RO. -/
def BST_DDR_PIN_c_PIN (c : Nat) : Fld := ⟨0x1200200 + c * 0x4, 0, 7⟩
/-- `BST_DDR_PIN_c.VALID` (R473), RO. -/
def BST_DDR_PIN_c_VALID (c : Nat) : Fld := ⟨0x1200200 + c * 0x4, 7, 1⟩
/-- `EVT_CTRL.CLR_CNT` (R482), WO. -/
def EVT_CTRL_CLR_CNT : Fld := ⟨0x1300000, 0, 1⟩
/-- `EVT_FAULT.ACTIVE` (R482), RO. -/
def EVT_FAULT_ACTIVE : Fld := ⟨0x1300004, 0, 1⟩
/-- `EVT_PEND_w.PEND` (R482), W1C. -/
def EVT_PEND_w_PEND (w : Nat) : Fld := ⟨0x1300100 + w * 0x4, 0, 32⟩
/-- `EVT_GPIO_MODE.MODE0` (R482), RW. -/
def EVT_GPIO_MODE_MODE0 : Fld := ⟨0x1300200, 0, 2⟩
/-- `EVT_GPIO_MODE.MODE1` (R482), RW. -/
def EVT_GPIO_MODE_MODE1 : Fld := ⟨0x1300200, 2, 2⟩
/-- `EVT_GPIO_MODE.MODE2` (R482), RW. -/
def EVT_GPIO_MODE_MODE2 : Fld := ⟨0x1300200, 4, 2⟩
/-- `EVT_GPIO_MODE.MODE3` (R482), RW. -/
def EVT_GPIO_MODE_MODE3 : Fld := ⟨0x1300200, 6, 2⟩
/-- `EVT_GPIO_MODE.MODE4` (R482), RW. -/
def EVT_GPIO_MODE_MODE4 : Fld := ⟨0x1300200, 8, 2⟩
/-- `EVT_GPIO_MODE.MODE5` (R482), RW. -/
def EVT_GPIO_MODE_MODE5 : Fld := ⟨0x1300200, 10, 2⟩
/-- `EVT_GPIO_MODE.MODE6` (R482), RW. -/
def EVT_GPIO_MODE_MODE6 : Fld := ⟨0x1300200, 12, 2⟩
/-- `EVT_GPIO_MODE.MODE7` (R482), RW. -/
def EVT_GPIO_MODE_MODE7 : Fld := ⟨0x1300200, 14, 2⟩
/-- `EVT_GPIO_MODE.MODE8` (R482), RW. -/
def EVT_GPIO_MODE_MODE8 : Fld := ⟨0x1300200, 16, 2⟩
/-- `EVT_GPIO_MODE.MODE9` (R482), RW. -/
def EVT_GPIO_MODE_MODE9 : Fld := ⟨0x1300200, 18, 2⟩
/-- `EVT_GPIO_MODE.MODE10` (R482), RW. -/
def EVT_GPIO_MODE_MODE10 : Fld := ⟨0x1300200, 20, 2⟩
/-- `EVT_GPIO_MODE.MODE11` (R482), RW. -/
def EVT_GPIO_MODE_MODE11 : Fld := ⟨0x1300200, 22, 2⟩
/-- `EVT_GPIO_MODE.MODE12` (R482), RW. -/
def EVT_GPIO_MODE_MODE12 : Fld := ⟨0x1300200, 24, 2⟩
/-- `EVT_GPIO_MODE.MODE13` (R482), RW. -/
def EVT_GPIO_MODE_MODE13 : Fld := ⟨0x1300200, 26, 2⟩
/-- `EVT_GPIO_MODE.MODE14` (R482), RW. -/
def EVT_GPIO_MODE_MODE14 : Fld := ⟨0x1300200, 28, 2⟩
/-- `EVT_GPIO_MODE.MODE15` (R482), RW. -/
def EVT_GPIO_MODE_MODE15 : Fld := ⟨0x1300200, 30, 2⟩
/-- `EVT_SAT_w.SAT` (R482), W1C. -/
def EVT_SAT_w_SAT (w : Nat) : Fld := ⟨0x1300300 + w * 0x4, 0, 32⟩
/-- `EVT_VEC_v.MIN_GAP` (R482), RW. -/
def EVT_VEC_v_MIN_GAP (v : Nat) : Fld := ⟨0x1300800 + v * 0x4, 0, 16⟩
/-- `EVT_VEC_v.DEFERRED` (R482), RO. -/
def EVT_VEC_v_DEFERRED (v : Nat) : Fld := ⟨0x1300800 + v * 0x4, 16, 1⟩
/-- `EVT_ROUTE_i.VECTOR` (R482), RW. -/
def EVT_ROUTE_i_VECTOR (i : Nat) : Fld := ⟨0x1301000 + i * 0x4, 0, 6⟩
/-- `EVT_ROUTE_i.MSIX_EN` (R482), RW. -/
def EVT_ROUTE_i_MSIX_EN (i : Nat) : Fld := ⟨0x1301000 + i * 0x4, 6, 1⟩
/-- `EVT_ROUTE_i.FAULT_EN` (R482), RW. -/
def EVT_ROUTE_i_FAULT_EN (i : Nat) : Fld := ⟨0x1301000 + i * 0x4, 7, 1⟩
/-- `EVT_ROUTE_i.GPIO` (R482), RW. -/
def EVT_ROUTE_i_GPIO (i : Nat) : Fld := ⟨0x1301000 + i * 0x4, 8, 4⟩
/-- `EVT_ROUTE_i.GPIO_EN` (R482), RW. -/
def EVT_ROUTE_i_GPIO_EN (i : Nat) : Fld := ⟨0x1301000 + i * 0x4, 12, 1⟩
/-- `EVT_CNT_i.COUNT` (R482), RO. -/
def EVT_CNT_i_COUNT (i : Nat) : Fld := ⟨0x1302000 + i * 0x4, 0, 16⟩
/-- `EVT_CNT_i.CLEAR` (R482), WO. -/
def EVT_CNT_i_CLEAR (i : Nat) : Fld := ⟨0x1302000 + i * 0x4, 16, 1⟩

end F

namespace A

/-- Address of `DEV_ID` (R477). -/
def DEV_ID : Nat := 0x0
/-- Address of `DEV_REV` (R477). -/
def DEV_REV : Nat := 0x4
/-- Address of `DEV_SERIAL_LO` (R477). -/
def DEV_SERIAL_LO : Nat := 0x8
/-- Address of `DEV_SERIAL_HI` (R477). -/
def DEV_SERIAL_HI : Nat := 0xc
/-- Address of `DEV_IDCODE` (R477). -/
def DEV_IDCODE : Nat := 0x10
/-- Address of `DEV_CAPS` (R477). -/
def DEV_CAPS : Nat := 0x14
/-- Address of `DEV_SCRATCH` (R477). -/
def DEV_SCRATCH : Nat := 0x18
/-- Address of `DEV_SWEVT` (R477). -/
def DEV_SWEVT : Nat := 0x1c
/-- Address of `DEV_GPIO_OE` (R477). -/
def DEV_GPIO_OE : Nat := 0x20
/-- Address of `DEV_GPIO_OUT` (R477). -/
def DEV_GPIO_OUT : Nat := 0x24
/-- Address of `DEV_GPIO_IN` (R477). -/
def DEV_GPIO_IN : Nat := 0x28
/-- Address of `DEV_GPIO_EDGE_EN` (R477). -/
def DEV_GPIO_EDGE_EN : Nat := 0x2c
/-- Address of `DEV_GPIO_EDGE_SRC` (R477). -/
def DEV_GPIO_EDGE_SRC : Nat := 0x30
/-- Address of `RST_CAUSE` (R443). -/
def RST_CAUSE : Nat := 0x100000
/-- Address of `RST_BLOCK_REQ` (R443). -/
def RST_BLOCK_REQ : Nat := 0x100004
/-- Address of `RST_BLOCK_FORCED` (R443). -/
def RST_BLOCK_FORCED : Nat := 0x100008
/-- Address of `RST_BLOCK_NOCLK` (R443). -/
def RST_BLOCK_NOCLK : Nat := 0x10000c
/-- Address of `RST_BLOCK_HELD` (R443). -/
def RST_BLOCK_HELD : Nat := 0x100010
/-- Address of `RST_STRAPS` (R443). -/
def RST_STRAPS : Nat := 0x100014
/-- Address of `PWR_CTRL` (R444). -/
def PWR_CTRL : Nat := 0x100100
/-- Address of `PWR_TICK_LO` (R444). -/
def PWR_TICK_LO : Nat := 0x100108
/-- Address of `PWR_TICK_HI` (R444). -/
def PWR_TICK_HI : Nat := 0x10010c
/-- Address of `PWR_STATUS` (R444). -/
def PWR_STATUS : Nat := 0x100110
/-- Address of `PWR_WAKE_CFG` (R444). -/
def PWR_WAKE_CFG : Nat := 0x100114
/-- Address of `PWR_WAKE_SRC` (R444). -/
def PWR_WAKE_SRC : Nat := 0x100118
/-- Address of `PWR_FOG_CAUSE` (R444). -/
def PWR_FOG_CAUSE : Nat := 0x100120
/-- Address of `PWR_FOG_OPSEC` (R444). -/
def PWR_FOG_OPSEC : Nat := 0x100124
/-- Address of `PWR_THERM` (R444). -/
def PWR_THERM : Nat := 0x100128
/-- Address of `PWR_PAUSE_LO` (R444). -/
def PWR_PAUSE_LO : Nat := 0x100130
/-- Address of `PWR_PAUSE_HI` (R444). -/
def PWR_PAUSE_HI : Nat := 0x100134
/-- Address of `PWR_RESUME_LO` (R444). -/
def PWR_RESUME_LO : Nat := 0x100138
/-- Address of `PWR_RESUME_HI` (R444). -/
def PWR_RESUME_HI : Nat := 0x10013c
/-- Address of `CLK_STATUS` (R201). -/
def CLK_STATUS : Nat := 0x200000
/-- Address of `CLK_REF_STATUS` (R201). -/
def CLK_REF_STATUS : Nat := 0x200004
/-- Address of `CLK_REF_NOM` (R201). -/
def CLK_REF_NOM : Nat := 0x200008
/-- Address of `CLK_CFG_ERR` (R201). -/
def CLK_CFG_ERR : Nat := 0x20000c
/-- Address of `CLK_SYS_CTRL` (R201). -/
def CLK_SYS_CTRL : Nat := 0x200010
/-- Address of `CLK_SC_CTRL` (R201). -/
def CLK_SC_CTRL : Nat := 0x200020
/-- Address of `CLK_SC_RDIV` (R201). -/
def CLK_SC_RDIV : Nat := 0x200024
/-- Address of `CLK_SC_NINT` (R201). -/
def CLK_SC_NINT : Nat := 0x200028
/-- Address of `CLK_SC_NUM` (R201). -/
def CLK_SC_NUM : Nat := 0x20002c
/-- Address of `CLK_SC_DEN` (R201). -/
def CLK_SC_DEN : Nat := 0x200030
/-- Address of `CLK_SC_MDLL` (R201). -/
def CLK_SC_MDLL : Nat := 0x200034
/-- Address of `CLK_SC_RATE_LO` (R201). -/
def CLK_SC_RATE_LO : Nat := 0x200038
/-- Address of `CLK_SC_RATE_HI` (R201). -/
def CLK_SC_RATE_HI : Nat := 0x20003c
/-- Address of `CLK_SC_STATUS` (R201). -/
def CLK_SC_STATUS : Nat := 0x200040
/-- Address of `CLK_SC_LOST_LO` (R201). -/
def CLK_SC_LOST_LO : Nat := 0x200048
/-- Address of `CLK_SC_LOST_HI` (R201). -/
def CLK_SC_LOST_HI : Nat := 0x20004c
/-- Address of `CLK_SC_VCO` (R201). -/
def CLK_SC_VCO : Nat := 0x200050
/-- Address of `CLK_SPREAD_TOWER` (R201). -/
def CLK_SPREAD_TOWER : Nat := 0x200060
/-- Address of `CLK_SPREAD_PANEL` (R201). -/
def CLK_SPREAD_PANEL : Nat := 0x200064
/-- Address of `CLK_SPREAD_MEM` (R201). -/
def CLK_SPREAD_MEM : Nat := 0x200068
/-- Address of `LMP_GLOBAL_STATUS` (R164). -/
def LMP_GLOBAL_STATUS : Nat := 0x300000
/-- Address of `LMP_PENDING` (R164). -/
def LMP_PENDING : Nat := 0x300004
/-- Address of `LMP_n_STATUS` (R164). -/
def LMP_n_STATUS (n : Nat) : Nat := 0x300100 + n * 0x100
/-- Address of `LMP_n_OVR_EPISODES` (R164). -/
def LMP_n_OVR_EPISODES (n : Nat) : Nat := 0x300104 + n * 0x100
/-- Address of `LMP_n_OVR_SAMPLES_LO` (R164). -/
def LMP_n_OVR_SAMPLES_LO (n : Nat) : Nat := 0x300108 + n * 0x100
/-- Address of `LMP_n_OVR_SAMPLES_HI` (R164). -/
def LMP_n_OVR_SAMPLES_HI (n : Nat) : Nat := 0x30010c + n * 0x100
/-- Address of `LMP_n_PEAK` (R164). -/
def LMP_n_PEAK (n : Nat) : Nat := 0x300110 + n * 0x100
/-- Address of `LMP_n_CMP_EDGES` (R164). -/
def LMP_n_CMP_EDGES (n : Nat) : Nat := 0x300114 + n * 0x100
/-- Address of `LMP_n_EVT_CTRL` (R164). -/
def LMP_n_EVT_CTRL (n : Nat) : Nat := 0x300118 + n * 0x100
/-- Address of `LMP_n_LAST_REFUSE` (R164). -/
def LMP_n_LAST_REFUSE (n : Nat) : Nat := 0x30011c + n * 0x100
/-- Address of `LMP_n_ATTEN` (R163). -/
def LMP_n_ATTEN (n : Nat) : Nat := 0x340000 + n * 0x40000
/-- Address of `LMP_n_PREAMP` (R163). -/
def LMP_n_PREAMP (n : Nat) : Nat := 0x340004 + n * 0x40000
/-- Address of `LMP_n_FT_THR0` (R163). -/
def LMP_n_FT_THR0 (n : Nat) : Nat := 0x340008 + n * 0x40000
/-- Address of `LMP_n_FT_THR1` (R163). -/
def LMP_n_FT_THR1 (n : Nat) : Nat := 0x34000c + n * 0x40000
/-- Address of `LMP_n_FT_CTRL` (R163). -/
def LMP_n_FT_CTRL (n : Nat) : Nat := 0x340010 + n * 0x40000
/-- Address of `CAL_STATUS` (R184). -/
def CAL_STATUS : Nat := 0x400000
/-- Address of `CAL_REFUSE` (R184). -/
def CAL_REFUSE : Nat := 0x400004
/-- Address of `CAL_n_STATUS` (R184). -/
def CAL_n_STATUS (n : Nat) : Nat := 0x400100 + n * 0x100
/-- Address of `CAL_n_STEPS` (R184). -/
def CAL_n_STEPS (n : Nat) : Nat := 0x400104 + n * 0x100
/-- Address of `CAL_n_LAST_SWAP_LO` (R184). -/
def CAL_n_LAST_SWAP_LO (n : Nat) : Nat := 0x400108 + n * 0x100
/-- Address of `CAL_n_LAST_SWAP_HI` (R184). -/
def CAL_n_LAST_SWAP_HI (n : Nat) : Nat := 0x40010c + n * 0x100
/-- Address of `CAL_n_NEXT_GRID_LO` (R184). -/
def CAL_n_NEXT_GRID_LO (n : Nat) : Nat := 0x400110 + n * 0x100
/-- Address of `CAL_n_NEXT_GRID_HI` (R184). -/
def CAL_n_NEXT_GRID_HI (n : Nat) : Nat := 0x400114 + n * 0x100
/-- Address of `CAL_n_SCHED` (R184). -/
def CAL_n_SCHED (n : Nat) : Nat := 0x400118 + n * 0x100
/-- Address of `CAL_n_PLAUS` (R184). -/
def CAL_n_PLAUS (n : Nat) : Nat := 0x40011c + n * 0x100
/-- Address of `CAL_n_MAPr` (R184). -/
def CAL_n_MAPr (n r : Nat) : Nat := 0x400120 + n * 0x100 + r * 0x4
/-- Address of `CAL_n_USER_STAGE` (R184). -/
def CAL_n_USER_STAGE (n : Nat) : Nat := 0x400130 + n * 0x100
/-- Address of `CAL_n_USER` (R184). -/
def CAL_n_USER (n : Nat) : Nat := 0x400134 + n * 0x100
/-- Address of `CAL_n_COUNTS` (R184). -/
def CAL_n_COUNTS (n : Nat) : Nat := 0x400138 + n * 0x100
/-- Address of `CAL_n_s_TRIM` (R184). -/
def CAL_n_s_TRIM (n s : Nat) : Nat := 0x401000 + n * 0x200 + s * 0x10
/-- Address of `CAL_n_s_FUSE` (R184). -/
def CAL_n_s_FUSE (n s : Nat) : Nat := 0x401004 + n * 0x200 + s * 0x10
/-- Address of `CAL_n_s_BG` (R184). -/
def CAL_n_s_BG (n s : Nat) : Nat := 0x401008 + n * 0x200 + s * 0x10
/-- Address of `CAL_FREEZE` (R183). -/
def CAL_FREEZE : Nat := 0x440000
/-- Address of `CAL_ROTATE` (R183). -/
def CAL_ROTATE : Nat := 0x440004
/-- Address of `CAL_SWAP_SCHED` (R183). -/
def CAL_SWAP_SCHED : Nat := 0x440008
/-- Address of `TTH_STATUS` (R215). -/
def TTH_STATUS : Nat := 0x500000
/-- Address of `TTH_CTRL` (R215). -/
def TTH_CTRL : Nat := 0x500004
/-- Address of `TTH_FWD_BAD_LO` (R215). -/
def TTH_FWD_BAD_LO : Nat := 0x500008
/-- Address of `TTH_FWD_BAD_HI` (R215). -/
def TTH_FWD_BAD_HI : Nat := 0x50000c
/-- Address of `TTH_FWD_FUSE_LO` (R215). -/
def TTH_FWD_FUSE_LO : Nat := 0x500010
/-- Address of `TTH_FWD_FUSE_HI` (R215). -/
def TTH_FWD_FUSE_HI : Nat := 0x500014
/-- Address of `TTH_RET_BAD` (R215). -/
def TTH_RET_BAD : Nat := 0x500018
/-- Address of `TTH_FRAMES_LO` (R215). -/
def TTH_FRAMES_LO : Nat := 0x500020
/-- Address of `TTH_FRAMES_HI` (R215). -/
def TTH_FRAMES_HI : Nat := 0x500024
/-- Address of `TTH_CRC_ERRS` (R215). -/
def TTH_CRC_ERRS : Nat := 0x500028
/-- Address of `TTH_RET_ERRS` (R215). -/
def TTH_RET_ERRS : Nat := 0x50002c
/-- Address of `TTH_LANE_SEL` (R215). -/
def TTH_LANE_SEL : Nat := 0x500030
/-- Address of `TTH_LANE_ERRS` (R215). -/
def TTH_LANE_ERRS : Nat := 0x500034
/-- Address of `TTH_LANE_MARGIN` (R215). -/
def TTH_LANE_MARGIN : Nat := 0x500038
/-- Address of `TTH_LAST_SWITCH_LO` (R215). -/
def TTH_LAST_SWITCH_LO : Nat := 0x500040
/-- Address of `TTH_LAST_SWITCH_HI` (R215). -/
def TTH_LAST_SWITCH_HI : Nat := 0x500044
/-- Address of `TTH_GAP_BLOCKS` (R215). -/
def TTH_GAP_BLOCKS : Nat := 0x500048
/-- Address of `TTH_RET_DISCARD` (R215). -/
def TTH_RET_DISCARD : Nat := 0x50004c
/-- Address of `FLT_n_STATUS` (R235). -/
def FLT_n_STATUS (n : Nat) : Nat := 0x600000 + n * 0x100
/-- Address of `FLT_n_RESTART_LO` (R235). -/
def FLT_n_RESTART_LO (n : Nat) : Nat := 0x600008 + n * 0x100
/-- Address of `FLT_n_RESTART_HI` (R235). -/
def FLT_n_RESTART_HI (n : Nat) : Nat := 0x60000c + n * 0x100
/-- Address of `FLT_n_RESTARTS` (R235). -/
def FLT_n_RESTARTS (n : Nat) : Nat := 0x600010 + n * 0x100
/-- Address of `FLT_n_SAT_COUNT` (R235). -/
def FLT_n_SAT_COUNT (n : Nat) : Nat := 0x600014 + n * 0x100
/-- Address of `FLT_n_THR_LISTED` (R235). -/
def FLT_n_THR_LISTED (n : Nat) : Nat := 0x600018 + n * 0x100
/-- Address of `FLT_n_THR_EXCESS` (R235). -/
def FLT_n_THR_EXCESS (n : Nat) : Nat := 0x60001c + n * 0x100
/-- Address of `FLT_n_LAST_REFUSE` (R235). -/
def FLT_n_LAST_REFUSE (n : Nat) : Nat := 0x600020 + n * 0x100
/-- Address of `FLT_n_EVT_CTRL` (R235). -/
def FLT_n_EVT_CTRL (n : Nat) : Nat := 0x600024 + n * 0x100
/-- Address of `FLT_n_TRACE` (R235). -/
def FLT_n_TRACE (n : Nat) : Nat := 0x600028 + n * 0x100
/-- Address of `FLT_n_NCO_FREQ_LO` (R234). -/
def FLT_n_NCO_FREQ_LO (n : Nat) : Nat := 0x640000 + n * 0x40000
/-- Address of `FLT_n_NCO_FREQ_HI` (R234). -/
def FLT_n_NCO_FREQ_HI (n : Nat) : Nat := 0x640004 + n * 0x40000
/-- Address of `FLT_n_NCO_PHASE` (R234). -/
def FLT_n_NCO_PHASE (n : Nat) : Nat := 0x640008 + n * 0x40000
/-- Address of `FLT_n_DEC_K` (R234). -/
def FLT_n_DEC_K (n : Nat) : Nat := 0x64000c + n * 0x40000
/-- Address of `FLT_n_SPAN_MODE` (R234). -/
def FLT_n_SPAN_MODE (n : Nat) : Nat := 0x640010 + n * 0x40000
/-- Address of `FLT_n_RANK_CTRL` (R234). -/
def FLT_n_RANK_CTRL (n : Nat) : Nat := 0x640014 + n * 0x40000
/-- Address of `FLT_n_THR_HIGH` (R234). -/
def FLT_n_THR_HIGH (n : Nat) : Nat := 0x640018 + n * 0x40000
/-- Address of `FLT_n_THR_LOW` (R234). -/
def FLT_n_THR_LOW (n : Nat) : Nat := 0x64001c + n * 0x40000
/-- Address of `FLT_n_OUT_CTRL` (R234). -/
def FLT_n_OUT_CTRL (n : Nat) : Nat := 0x640020 + n * 0x40000
/-- Address of `LNS_n_STATUS` (R256). -/
def LNS_n_STATUS (n : Nat) : Nat := 0x700000 + n * 0x100
/-- Address of `LNS_n_GRID_LO` (R256). -/
def LNS_n_GRID_LO (n : Nat) : Nat := 0x700008 + n * 0x100
/-- Address of `LNS_n_GRID_HI` (R256). -/
def LNS_n_GRID_HI (n : Nat) : Nat := 0x70000c + n * 0x100
/-- Address of `LNS_n_FRAMES_LO` (R256). -/
def LNS_n_FRAMES_LO (n : Nat) : Nat := 0x700010 + n * 0x100
/-- Address of `LNS_n_FRAMES_HI` (R256). -/
def LNS_n_FRAMES_HI (n : Nat) : Nat := 0x700014 + n * 0x100
/-- Address of `LNS_n_ABANDONED` (R256). -/
def LNS_n_ABANDONED (n : Nat) : Nat := 0x700018 + n * 0x100
/-- Address of `LNS_n_PARTIAL` (R256). -/
def LNS_n_PARTIAL (n : Nat) : Nat := 0x70001c + n * 0x100
/-- Address of `LNS_n_LAST_REFUSE` (R256). -/
def LNS_n_LAST_REFUSE (n : Nat) : Nat := 0x700020 + n * 0x100
/-- Address of `LNS_n_MAX_EXP` (R256). -/
def LNS_n_MAX_EXP (n : Nat) : Nat := 0x700024 + n * 0x100
/-- Address of `LNS_n_UWIN_SUM` (R256). -/
def LNS_n_UWIN_SUM (n : Nat) : Nat := 0x700028 + n * 0x100
/-- Address of `LNS_n_ENABLE` (R255). -/
def LNS_n_ENABLE (n : Nat) : Nat := 0x740000 + n * 0x40000
/-- Address of `LNS_n_FFT_LOG2N` (R255). -/
def LNS_n_FFT_LOG2N (n : Nat) : Nat := 0x740004 + n * 0x40000
/-- Address of `LNS_n_WINDOW` (R255). -/
def LNS_n_WINDOW (n : Nat) : Nat := 0x740008 + n * 0x40000
/-- Address of `LNS_n_KAISER_BETA` (R255). -/
def LNS_n_KAISER_BETA (n : Nat) : Nat := 0x74000c + n * 0x40000
/-- Address of `LNS_n_HOP_DIV` (R255). -/
def LNS_n_HOP_DIV (n : Nat) : Nat := 0x740010 + n * 0x40000
/-- Address of `LNS_n_DET_MODE` (R255). -/
def LNS_n_DET_MODE (n : Nat) : Nat := 0x740014 + n * 0x40000
/-- Address of `LNS_n_DET_COUNT` (R255). -/
def LNS_n_DET_COUNT (n : Nat) : Nat := 0x740018 + n * 0x40000
/-- Address of `LNS_n_BIN_FIRST` (R255). -/
def LNS_n_BIN_FIRST (n : Nat) : Nat := 0x74001c + n * 0x40000
/-- Address of `LNS_n_BIN_LAST` (R255). -/
def LNS_n_BIN_LAST (n : Nat) : Nat := 0x740020 + n * 0x40000
/-- Address of `LNS_n_FORMAT` (R255). -/
def LNS_n_FORMAT (n : Nat) : Nat := 0x740024 + n * 0x40000
/-- Address of `SEC_STATUS` (R287). -/
def SEC_STATUS : Nat := 0x800000
/-- Address of `SEC_TRIG_COUNT` (R287). -/
def SEC_TRIG_COUNT : Nat := 0x800004
/-- Address of `SEC_SUPPRESSED` (R287). -/
def SEC_SUPPRESSED : Nat := 0x800008
/-- Address of `SEC_FORCED` (R287). -/
def SEC_FORCED : Nat := 0x80000c
/-- Address of `SEC_OVERLAP` (R287). -/
def SEC_OVERLAP : Nat := 0x800010
/-- Address of `SEC_LAST_TRIG_LO` (R287). -/
def SEC_LAST_TRIG_LO : Nat := 0x800018
/-- Address of `SEC_LAST_TRIG_HI` (R287). -/
def SEC_LAST_TRIG_HI : Nat := 0x80001c
/-- Address of `SEC_LAST_SRC_LO` (R287). -/
def SEC_LAST_SRC_LO : Nat := 0x800020
/-- Address of `SEC_LAST_SRC_HI` (R287). -/
def SEC_LAST_SRC_HI : Nat := 0x800024
/-- Address of `SEC_SEG_INDEX` (R287). -/
def SEC_SEG_INDEX : Nat := 0x800028
/-- Address of `SEC_SEG_CAP_LO` (R287). -/
def SEC_SEG_CAP_LO : Nat := 0x800030
/-- Address of `SEC_SEG_CAP_HI` (R287). -/
def SEC_SEG_CAP_HI : Nat := 0x800034
/-- Address of `SEC_DEC_DELAY_LO` (R287). -/
def SEC_DEC_DELAY_LO : Nat := 0x800038
/-- Address of `SEC_DEC_DELAY_HI` (R287). -/
def SEC_DEC_DELAY_HI : Nat := 0x80003c
/-- Address of `SEC_LAST_REFUSE` (R287). -/
def SEC_LAST_REFUSE : Nat := 0x800040
/-- Address of `SEC_PROG_n_STATUS` (R287). -/
def SEC_PROG_n_STATUS (n : Nat) : Nat := 0x800050 + n * 0x4
/-- Address of `SEC_PIN_LATE` (R287). -/
def SEC_PIN_LATE : Nat := 0x800060
/-- Address of `SEC_XTRIG_STATUS` (R287). -/
def SEC_XTRIG_STATUS : Nat := 0x800064
/-- Address of `SEC_EVT_CTRL` (R287). -/
def SEC_EVT_CTRL : Nat := 0x800068
/-- Address of `SEC_TICK_NOW_LO` (R37). -/
def SEC_TICK_NOW_LO : Nat := 0x80f000
/-- Address of `SEC_TICK_NOW_HI` (R37). -/
def SEC_TICK_NOW_HI : Nat := 0x80f004
/-- Address of `SEC_RANGE_CTRL` (R55). -/
def SEC_RANGE_CTRL : Nat := 0x80f010
/-- Address of `SEC_RANGE_LOAD_LO` (R55). -/
def SEC_RANGE_LOAD_LO : Nat := 0x80f018
/-- Address of `SEC_RANGE_LOAD_HI` (R55). -/
def SEC_RANGE_LOAD_HI : Nat := 0x80f01c
/-- Address of `SEC_RANGE_STATUS` (R55). -/
def SEC_RANGE_STATUS : Nat := 0x80f020
/-- Address of `SEC_RANGE_NAT_LO` (R55). -/
def SEC_RANGE_NAT_LO : Nat := 0x80f028
/-- Address of `SEC_RANGE_NAT_HI` (R55). -/
def SEC_RANGE_NAT_HI : Nat := 0x80f02c
/-- Address of `SEC_RANGE_PHASE` (R55). -/
def SEC_RANGE_PHASE : Nat := 0x80f030
/-- Address of `SEC_MASK_CTRL_m` (R286). -/
def SEC_MASK_CTRL_m (m : Nat) : Nat := 0x840000 + m * 0x4
/-- Address of `SEC_PROG_CTRL0` (R286). -/
def SEC_PROG_CTRL0 : Nat := 0x840040
/-- Address of `SEC_PROG_CTRLp` (R286). -/
def SEC_PROG_CTRLp (p : Nat) : Nat := 0x840044 + p * 0x4
/-- Address of `SEC_HOLDOFF_LO` (R286). -/
def SEC_HOLDOFF_LO : Nat := 0x840080
/-- Address of `SEC_HOLDOFF_HI` (R286). -/
def SEC_HOLDOFF_HI : Nat := 0x840084
/-- Address of `SEC_AUTO_LO` (R286). -/
def SEC_AUTO_LO : Nat := 0x840088
/-- Address of `SEC_AUTO_HI` (R286). -/
def SEC_AUTO_HI : Nat := 0x84008c
/-- Address of `SEC_PRE_LO` (R286). -/
def SEC_PRE_LO : Nat := 0x840090
/-- Address of `SEC_PRE_HI` (R286). -/
def SEC_PRE_HI : Nat := 0x840094
/-- Address of `SEC_POST_LO` (R286). -/
def SEC_POST_LO : Nat := 0x840098
/-- Address of `SEC_POST_HI` (R286). -/
def SEC_POST_HI : Nat := 0x84009c
/-- Address of `SEC_SEG_RING` (R286). -/
def SEC_SEG_RING : Nat := 0x8400a0
/-- Address of `SEC_ARM` (R286). -/
def SEC_ARM : Nat := 0x8400c0
/-- Address of `SEC_IO_RESYNC_V_LO` (R286). -/
def SEC_IO_RESYNC_V_LO : Nat := 0x880000
/-- Address of `SEC_IO_RESYNC_V_HI` (R286). -/
def SEC_IO_RESYNC_V_HI : Nat := 0x880004
/-- Address of `SEC_IO_RESYNC` (R286). -/
def SEC_IO_RESYNC : Nat := 0x880008
/-- Address of `SEC_IO_TRIGOUTn_SRC` (R286). -/
def SEC_IO_TRIGOUTn_SRC (n : Nat) : Nat := 0x880010 + n * 0x4
/-- Address of `SEC_IO_XTRIG_CTRL` (R286). -/
def SEC_IO_XTRIG_CTRL : Nat := 0x880018
/-- Address of `IVU_STATUS` (R304). -/
def IVU_STATUS : Nat := 0x900000
/-- Address of `IVU_MEAS_COUNT` (R304). -/
def IVU_MEAS_COUNT : Nat := 0x900004
/-- Address of `IVU_SET_COUNT` (R304). -/
def IVU_SET_COUNT : Nat := 0x900008
/-- Address of `IVU_SKIPPED` (R304). -/
def IVU_SKIPPED : Nat := 0x900018
/-- Address of `IVU_LAST_REFUSE` (R304). -/
def IVU_LAST_REFUSE : Nat := 0x90001c
/-- Address of `IVU_EVT_CTRL` (R304). -/
def IVU_EVT_CTRL : Nat := 0x900020
/-- Address of `IVU_CH_n_CAL` (R304). -/
def IVU_CH_n_CAL (n : Nat) : Nat := 0x900100 + n * 0x20
/-- Address of `IVU_CH_n_ZERO` (R304). -/
def IVU_CH_n_ZERO (n : Nat) : Nat := 0x900104 + n * 0x20
/-- Address of `IVU_CH_n_EDGES_LO` (R304). -/
def IVU_CH_n_EDGES_LO (n : Nat) : Nat := 0x900108 + n * 0x20
/-- Address of `IVU_CH_n_EDGES_HI` (R304). -/
def IVU_CH_n_EDGES_HI (n : Nat) : Nat := 0x90010c + n * 0x20
/-- Address of `IVU_CH_n_LOST` (R304). -/
def IVU_CH_n_LOST (n : Nat) : Nat := 0x900110 + n * 0x20
/-- Address of `IVU_CH_n_CALFAIL` (R304). -/
def IVU_CH_n_CALFAIL (n : Nat) : Nat := 0x900114 + n * 0x20
/-- Address of `IVU_START_SRC` (R303). -/
def IVU_START_SRC : Nat := 0x940000
/-- Address of `IVU_STOP_MASK` (R303). -/
def IVU_STOP_MASK : Nat := 0x940004
/-- Address of `IVU_GATE_CTRL` (R303). -/
def IVU_GATE_CTRL : Nat := 0x940008
/-- Address of `IVU_STAT_N` (R303). -/
def IVU_STAT_N : Nat := 0x94000c
/-- Address of `IVU_CAL_CTRL` (R303). -/
def IVU_CAL_CTRL : Nat := 0x940010
/-- Address of `GLW_LAST_REFUSE` (R324). -/
def GLW_LAST_REFUSE : Nat := 0xa00000
/-- Address of `GLW_EVT_CTRL` (R324). -/
def GLW_EVT_CTRL : Nat := 0xa00004
/-- Address of `GLW_n_STATUS` (R324). -/
def GLW_n_STATUS (n : Nat) : Nat := 0xa00100 + n * 0x100
/-- Address of `GLW_n_WIDTH` (R324). -/
def GLW_n_WIDTH (n : Nat) : Nat := 0xa00104 + n * 0x100
/-- Address of `GLW_n_SNAPS` (R324). -/
def GLW_n_SNAPS (n : Nat) : Nat := 0xa00108 + n * 0x100
/-- Address of `GLW_n_LAST_SNAP_LO` (R324). -/
def GLW_n_LAST_SNAP_LO (n : Nat) : Nat := 0xa00110 + n * 0x100
/-- Address of `GLW_n_LAST_SNAP_HI` (R324). -/
def GLW_n_LAST_SNAP_HI (n : Nat) : Nat := 0xa00114 + n * 0x100
/-- Address of `GLW_n_SPECTRA_LO` (R324). -/
def GLW_n_SPECTRA_LO (n : Nat) : Nat := 0xa00118 + n * 0x100
/-- Address of `GLW_n_SPECTRA_HI` (R324). -/
def GLW_n_SPECTRA_HI (n : Nat) : Nat := 0xa0011c + n * 0x100
/-- Address of `GLW_n_BUF0_LO` (R324). -/
def GLW_n_BUF0_LO (n : Nat) : Nat := 0xa00120 + n * 0x100
/-- Address of `GLW_n_BUF0_HI` (R324). -/
def GLW_n_BUF0_HI (n : Nat) : Nat := 0xa00124 + n * 0x100
/-- Address of `GLW_n_BUF1_LO` (R324). -/
def GLW_n_BUF1_LO (n : Nat) : Nat := 0xa00128 + n * 0x100
/-- Address of `GLW_n_BUF1_HI` (R324). -/
def GLW_n_BUF1_HI (n : Nat) : Nat := 0xa0012c + n * 0x100
/-- Address of `GLW_n_SAT_COUNT` (R324). -/
def GLW_n_SAT_COUNT (n : Nat) : Nat := 0xa00130 + n * 0x100
/-- Address of `GLW_n_LOST` (R324). -/
def GLW_n_LOST (n : Nat) : Nat := 0xa00134 + n * 0x100
/-- Address of `GLW_n_DISCARDED` (R324). -/
def GLW_n_DISCARDED (n : Nat) : Nat := 0xa00138 + n * 0x100
/-- Address of `GLW_n_BELOW` (R324). -/
def GLW_n_BELOW (n : Nat) : Nat := 0xa0013c + n * 0x100
/-- Address of `GLW_n_DIRTYw` (R324). -/
def GLW_n_DIRTYw (n w : Nat) : Nat := 0xa00140 + n * 0x100 + w * 0x4
/-- Address of `GLW_GEOM_A` (R323). -/
def GLW_GEOM_A : Nat := 0xa40000
/-- Address of `GLW_GEOM_B` (R323). -/
def GLW_GEOM_B : Nat := 0xa40004
/-- Address of `GLW_INTEG` (R323). -/
def GLW_INTEG : Nat := 0xa40008
/-- Address of `GLW_PERSIST` (R323). -/
def GLW_PERSIST : Nat := 0xa4000c
/-- Address of `GLW_SNAP_CTRL` (R323). -/
def GLW_SNAP_CTRL : Nat := 0xa40010
/-- Address of `KPR_CTRL` (R89). -/
def KPR_CTRL : Nat := 0xb00000
/-- Address of `KPR_STATUS` (R89). -/
def KPR_STATUS : Nat := 0xb00004
/-- Address of `KPR_PC` (R89). -/
def KPR_PC : Nat := 0xb00008
/-- Address of `KPR_TRAP` (R89). -/
def KPR_TRAP : Nat := 0xb0000c
/-- Address of `KPR_TRAP_ADDR` (R89). -/
def KPR_TRAP_ADDR : Nat := 0xb00010
/-- Address of `KPR_CYC_LO` (R89). -/
def KPR_CYC_LO : Nat := 0xb00018
/-- Address of `KPR_CYC_HI` (R89). -/
def KPR_CYC_HI : Nat := 0xb0001c
/-- Address of `KPR_WDT_CTRL` (R89). -/
def KPR_WDT_CTRL : Nat := 0xb00020
/-- Address of `KPR_WDT_KICK` (R89). -/
def KPR_WDT_KICK : Nat := 0xb00024
/-- Address of `KPR_WDT_LEFT` (R89). -/
def KPR_WDT_LEFT : Nat := 0xb00028
/-- Address of `KPR_CODE_END` (R89). -/
def KPR_CODE_END : Nat := 0xb00030
/-- Address of `KPR_MBOX_INi` (R89). -/
def KPR_MBOX_INi (i : Nat) : Nat := 0xb00040 + i * 0x4
/-- Address of `KPR_MBOX_DB` (R89). -/
def KPR_MBOX_DB : Nat := 0xb00060
/-- Address of `KPR_MBOX_OUTi` (R89). -/
def KPR_MBOX_OUTi (i : Nat) : Nat := 0xb00080 + i * 0x4
/-- Address of `KPR_LOAD_STATUS` (R89). -/
def KPR_LOAD_STATUS : Nat := 0xb000a0
/-- Address of `KPR_LOAD_TICK_LO` (R89). -/
def KPR_LOAD_TICK_LO : Nat := 0xb000a8
/-- Address of `KPR_LOAD_TICK_HI` (R89). -/
def KPR_LOAD_TICK_HI : Nat := 0xb000ac
/-- Address of `KPR_TL_CTRL` (R142). -/
def KPR_TL_CTRL : Nat := 0xb01000
/-- Address of `KPR_TL_STATUS` (R142). -/
def KPR_TL_STATUS : Nat := 0xb01004
/-- Address of `KPR_TL_HELD_LO` (R142). -/
def KPR_TL_HELD_LO : Nat := 0xb01008
/-- Address of `KPR_TL_HELD_HI` (R142). -/
def KPR_TL_HELD_HI : Nat := 0xb0100c
/-- Address of `KPR_TL_AFFECT` (R142). -/
def KPR_TL_AFFECT : Nat := 0xb01010
/-- Address of `KPR_TL_IMM_UNIT` (R142). -/
def KPR_TL_IMM_UNIT : Nat := 0xb01014
/-- Address of `KPR_TL_IMM_TICK_LO` (R142). -/
def KPR_TL_IMM_TICK_LO : Nat := 0xb01018
/-- Address of `KPR_TL_IMM_TICK_HI` (R142). -/
def KPR_TL_IMM_TICK_HI : Nat := 0xb0101c
/-- Address of `KPR_TL_LOADS` (R142). -/
def KPR_TL_LOADS : Nat := 0xb01020
/-- Address of `KPR_TLQ_u_LEVEL` (R142). -/
def KPR_TLQ_u_LEVEL (u : Nat) : Nat := 0xb01100 + u * 0x20
/-- Address of `KPR_TLQ_u_ISSUED` (R142). -/
def KPR_TLQ_u_ISSUED (u : Nat) : Nat := 0xb01104 + u * 0x20
/-- Address of `KPR_TLQ_u_DONE` (R142). -/
def KPR_TLQ_u_DONE (u : Nat) : Nat := 0xb01108 + u * 0x20
/-- Address of `KPR_TLQ_u_ERRS` (R142). -/
def KPR_TLQ_u_ERRS (u : Nat) : Nat := 0xb0110c + u * 0x20
/-- Address of `KPR_TLQ_u_LAST_LO` (R142). -/
def KPR_TLQ_u_LAST_LO (u : Nat) : Nat := 0xb01110 + u * 0x20
/-- Address of `KPR_TLQ_u_LAST_HI` (R142). -/
def KPR_TLQ_u_LAST_HI (u : Nat) : Nat := 0xb01114 + u * 0x20
/-- Address of `KPR_TLQ_u_LATE_T_LO` (R142). -/
def KPR_TLQ_u_LATE_T_LO (u : Nat) : Nat := 0xb01118 + u * 0x20
/-- Address of `KPR_TLQ_u_FLUSHED` (R142). -/
def KPR_TLQ_u_FLUSHED (u : Nat) : Nat := 0xb0111c + u * 0x20
/-- Address of `BCN_RUN` (R90). -/
def BCN_RUN : Nat := 0xb02000
/-- Address of `BCN_HALT` (R90). -/
def BCN_HALT : Nat := 0xb02004
/-- Address of `BCN_STATE` (R90). -/
def BCN_STATE : Nat := 0xb02008
/-- Address of `BCN_AUTORESTART` (R90). -/
def BCN_AUTORESTART : Nat := 0xb0200c
/-- Address of `BCN_LAST_REFUSE` (R90). -/
def BCN_LAST_REFUSE : Nat := 0xb02010
/-- Address of `BCN_n_PC` (R90). -/
def BCN_n_PC (n : Nat) : Nat := 0xb04000 + n * 0x100
/-- Address of `BCN_n_FAULT` (R90). -/
def BCN_n_FAULT (n : Nat) : Nat := 0xb04004 + n * 0x100
/-- Address of `BCN_n_FAULT_ADDR` (R90). -/
def BCN_n_FAULT_ADDR (n : Nat) : Nat := 0xb04008 + n * 0x100
/-- Address of `BCN_n_RESTARTS` (R90). -/
def BCN_n_RESTARTS (n : Nat) : Nat := 0xb0400c + n * 0x100
/-- Address of `BCN_n_WDOG` (R90). -/
def BCN_n_WDOG (n : Nat) : Nat := 0xb04010 + n * 0x100
/-- Address of `BCN_n_ATTN` (R90). -/
def BCN_n_ATTN (n : Nat) : Nat := 0xb04014 + n * 0x100
/-- Address of `BCN_n_Qq_CFG` (R90). -/
def BCN_n_Qq_CFG (n q : Nat) : Nat := 0xb04020 + n * 0x100 + q * 0x10
/-- Address of `BCN_n_Qq_SLOTS` (R90). -/
def BCN_n_Qq_SLOTS (n q : Nat) : Nat := 0xb04024 + n * 0x100 + q * 0x10
/-- Address of `BCN_n_Qq_DROPS` (R90). -/
def BCN_n_Qq_DROPS (n q : Nat) : Nat := 0xb04028 + n * 0x100 + q * 0x10
/-- Address of `BCN_n_Qq_STATUS` (R90). -/
def BCN_n_Qq_STATUS (n q : Nat) : Nat := 0xb0402c + n * 0x100 + q * 0x10
/-- Address of `BCN_n_CYC_LO` (R90). -/
def BCN_n_CYC_LO (n : Nat) : Nat := 0xb04060 + n * 0x100
/-- Address of `BCN_n_CYC_HI` (R90). -/
def BCN_n_CYC_HI (n : Nat) : Nat := 0xb04064 + n * 0x100
/-- Address of `BCN_n_POSTED` (R90). -/
def BCN_n_POSTED (n : Nat) : Nat := 0xb04068 + n * 0x100
/-- Address of `BCN_BIND_n_q` (R126). -/
def BCN_BIND_n_q (n q : Nat) : Nat := 0xb40000 + n * 0x10 + q * 0x4
/-- Address of `BCN_CPAGE_n_q` (R126). -/
def BCN_CPAGE_n_q (n q : Nat) : Nat := 0xb40100 + n * 0x10 + q * 0x4
/-- Address of `AMC_STATUS` (R349). -/
def AMC_STATUS : Nat := 0xc00000
/-- Address of `AMC_CFG` (R349). -/
def AMC_CFG : Nat := 0xc00004
/-- Address of `AMC_SIZE_LO` (R349). -/
def AMC_SIZE_LO : Nat := 0xc00008
/-- Address of `AMC_SIZE_HI` (R349). -/
def AMC_SIZE_HI : Nat := 0xc0000c
/-- Address of `AMC_ADMIT_WR` (R349). -/
def AMC_ADMIT_WR : Nat := 0xc00010
/-- Address of `AMC_ADMIT_RD` (R349). -/
def AMC_ADMIT_RD : Nat := 0xc00014
/-- Address of `AMC_FIFO` (R349). -/
def AMC_FIFO : Nat := 0xc00018
/-- Address of `AMC_FIFO_LOST_LO` (R349). -/
def AMC_FIFO_LOST_LO : Nat := 0xc00020
/-- Address of `AMC_FIFO_LOST_HI` (R349). -/
def AMC_FIFO_LOST_HI : Nat := 0xc00024
/-- Address of `AMC_LTR` (R349). -/
def AMC_LTR : Nat := 0xc00028
/-- Address of `AMC_SR_COUNT` (R349). -/
def AMC_SR_COUNT : Nat := 0xc0002c
/-- Address of `AMC_APERTURE_LO` (R349). -/
def AMC_APERTURE_LO : Nat := 0xc00030
/-- Address of `AMC_APERTURE_HI` (R349). -/
def AMC_APERTURE_HI : Nat := 0xc00034
/-- Address of `AMC_TRAIN` (R349). -/
def AMC_TRAIN : Nat := 0xc00038
/-- Address of `AMC_LAST_REFUSE` (R349). -/
def AMC_LAST_REFUSE : Nat := 0xc0003c
/-- Address of `AMC_c_STATUS` (R349). -/
def AMC_c_STATUS (c : Nat) : Nat := 0xc00100 + c * 0x20
/-- Address of `AMC_c_CE` (R349). -/
def AMC_c_CE (c : Nat) : Nat := 0xc00104 + c * 0x20
/-- Address of `AMC_c_UE` (R349). -/
def AMC_c_UE (c : Nat) : Nat := 0xc00108 + c * 0x20
/-- Address of `AMC_c_REPLAYS` (R349). -/
def AMC_c_REPLAYS (c : Nat) : Nat := 0xc0010c + c * 0x20
/-- Address of `AMC_c_OVERRUN` (R349). -/
def AMC_c_OVERRUN (c : Nat) : Nat := 0xc00110 + c * 0x20
/-- Address of `AMC_CAP_n_STATUS` (R349). -/
def AMC_CAP_n_STATUS (n : Nat) : Nat := 0xc00200 + n * 0x40
/-- Address of `AMC_CAP_n_CHUNK` (R349). -/
def AMC_CAP_n_CHUNK (n : Nat) : Nat := 0xc00204 + n * 0x40
/-- Address of `AMC_CAP_n_PASS` (R349). -/
def AMC_CAP_n_PASS (n : Nat) : Nat := 0xc00208 + n * 0x40
/-- Address of `AMC_CAP_n_NEWEST_LO` (R349). -/
def AMC_CAP_n_NEWEST_LO (n : Nat) : Nat := 0xc00210 + n * 0x40
/-- Address of `AMC_CAP_n_NEWEST_HI` (R349). -/
def AMC_CAP_n_NEWEST_HI (n : Nat) : Nat := 0xc00214 + n * 0x40
/-- Address of `AMC_CAP_n_OLDEST_LO` (R349). -/
def AMC_CAP_n_OLDEST_LO (n : Nat) : Nat := 0xc00218 + n * 0x40
/-- Address of `AMC_CAP_n_OLDEST_HI` (R349). -/
def AMC_CAP_n_OLDEST_HI (n : Nat) : Nat := 0xc0021c + n * 0x40
/-- Address of `AMC_CAP_n_PADDED` (R349). -/
def AMC_CAP_n_PADDED (n : Nat) : Nat := 0xc00220 + n * 0x40
/-- Address of `AMC_CAP_A` (R348). -/
def AMC_CAP_A : Nat := 0xc40000
/-- Address of `AMC_CAP_B` (R348). -/
def AMC_CAP_B : Nat := 0xc40004
/-- Address of `AMC_RING_A` (R348). -/
def AMC_RING_A : Nat := 0xc40008
/-- Address of `AMC_RING_B` (R348). -/
def AMC_RING_B : Nat := 0xc4000c
/-- Address of `HST_STATUS` (R384). -/
def HST_STATUS : Nat := 0xd00000
/-- Address of `HST_LINK_LIMIT` (R384). -/
def HST_LINK_LIMIT : Nat := 0xd00004
/-- Address of `HST_TAGS` (R384). -/
def HST_TAGS : Nat := 0xd00008
/-- Address of `DMA_n_SRC_LO` (R387). -/
def DMA_n_SRC_LO (n : Nat) : Nat := 0xd01000 + n * 0x40
/-- Address of `DMA_n_SRC_HI` (R387). -/
def DMA_n_SRC_HI (n : Nat) : Nat := 0xd01004 + n * 0x40
/-- Address of `DMA_n_DST_LO` (R387). -/
def DMA_n_DST_LO (n : Nat) : Nat := 0xd01008 + n * 0x40
/-- Address of `DMA_n_DST_HI` (R387). -/
def DMA_n_DST_HI (n : Nat) : Nat := 0xd0100c + n * 0x40
/-- Address of `DMA_n_COUNT` (R387). -/
def DMA_n_COUNT (n : Nat) : Nat := 0xd01010 + n * 0x40
/-- Address of `DMA_n_CTRL` (R387). -/
def DMA_n_CTRL (n : Nat) : Nat := 0xd01014 + n * 0x40
/-- Address of `DMA_n_STATUS` (R387). -/
def DMA_n_STATUS (n : Nat) : Nat := 0xd01018 + n * 0x40
/-- Address of `DMA_n_LAST` (R387). -/
def DMA_n_LAST (n : Nat) : Nat := 0xd0101c + n * 0x40
/-- Address of `DMA_n_LAST_BYTES` (R387). -/
def DMA_n_LAST_BYTES (n : Nat) : Nat := 0xd01020 + n * 0x40
/-- Address of `DMA_n_CPL_LO` (R387). -/
def DMA_n_CPL_LO (n : Nat) : Nat := 0xd01024 + n * 0x40
/-- Address of `DMA_n_CPL_HI` (R387). -/
def DMA_n_CPL_HI (n : Nat) : Nat := 0xd01028 + n * 0x40
/-- Address of `STR_CTRL` (R384). -/
def STR_CTRL : Nat := 0xd02000
/-- Address of `STR_IRQ_LO` (R384). -/
def STR_IRQ_LO : Nat := 0xd02008
/-- Address of `STR_IRQ_HI` (R384). -/
def STR_IRQ_HI : Nat := 0xd0200c
/-- Address of `STR_NVQ_KICK` (R384). -/
def STR_NVQ_KICK : Nat := 0xd02010
/-- Address of `STR_LAST_REFUSE` (R384). -/
def STR_LAST_REFUSE : Nat := 0xd02014
/-- Address of `STR_RECORDS_LO` (R384). -/
def STR_RECORDS_LO : Nat := 0xd02018
/-- Address of `STR_RECORDS_HI` (R384). -/
def STR_RECORDS_HI : Nat := 0xd0201c
/-- Address of `STR_s_CFG` (R385). -/
def STR_s_CFG (s : Nat) : Nat := 0xd03000 + s * 0x40
/-- Address of `STR_s_RATE` (R385). -/
def STR_s_RATE (s : Nat) : Nat := 0xd03004 + s * 0x40
/-- Address of `STR_s_CTRL` (R385). -/
def STR_s_CTRL (s : Nat) : Nat := 0xd03008 + s * 0x40
/-- Address of `STR_s_STATUS` (R385). -/
def STR_s_STATUS (s : Nat) : Nat := 0xd0300c + s * 0x40
/-- Address of `STR_s_RING_BASE_LO` (R385). -/
def STR_s_RING_BASE_LO (s : Nat) : Nat := 0xd03010 + s * 0x40
/-- Address of `STR_s_RING_BASE_HI` (R385). -/
def STR_s_RING_BASE_HI (s : Nat) : Nat := 0xd03014 + s * 0x40
/-- Address of `STR_s_RING` (R385). -/
def STR_s_RING (s : Nat) : Nat := 0xd03018 + s * 0x40
/-- Address of `STR_s_WMARK` (R385). -/
def STR_s_WMARK (s : Nat) : Nat := 0xd0301c + s * 0x40
/-- Address of `STR_s_PROD_ADDR_LO` (R385). -/
def STR_s_PROD_ADDR_LO (s : Nat) : Nat := 0xd03020 + s * 0x40
/-- Address of `STR_s_PROD_ADDR_HI` (R385). -/
def STR_s_PROD_ADDR_HI (s : Nat) : Nat := 0xd03024 + s * 0x40
/-- Address of `STR_s_CONS_LO` (R385). -/
def STR_s_CONS_LO (s : Nat) : Nat := 0xd03028 + s * 0x40
/-- Address of `STR_s_CONS_HI` (R385). -/
def STR_s_CONS_HI (s : Nat) : Nat := 0xd0302c + s * 0x40
/-- Address of `STR_s_SEQ_LO` (R385). -/
def STR_s_SEQ_LO (s : Nat) : Nat := 0xd03030 + s * 0x40
/-- Address of `STR_s_SEQ_HI` (R385). -/
def STR_s_SEQ_HI (s : Nat) : Nat := 0xd03034 + s * 0x40
/-- Address of `STR_s_DROPS_LO` (R385). -/
def STR_s_DROPS_LO (s : Nat) : Nat := 0xd03038 + s * 0x40
/-- Address of `STR_s_DROPS_HI` (R385). -/
def STR_s_DROPS_HI (s : Nat) : Nat := 0xd0303c + s * 0x40
/-- Address of `NVQ_q_CFG` (R386). -/
def NVQ_q_CFG (q : Nat) : Nat := 0xd04000 + q * 0x40
/-- Address of `NVQ_q_NSID` (R386). -/
def NVQ_q_NSID (q : Nat) : Nat := 0xd04004 + q * 0x40
/-- Address of `NVQ_q_SQ_LO` (R386). -/
def NVQ_q_SQ_LO (q : Nat) : Nat := 0xd04008 + q * 0x40
/-- Address of `NVQ_q_SQ_HI` (R386). -/
def NVQ_q_SQ_HI (q : Nat) : Nat := 0xd0400c + q * 0x40
/-- Address of `NVQ_q_CQ_LO` (R386). -/
def NVQ_q_CQ_LO (q : Nat) : Nat := 0xd04010 + q * 0x40
/-- Address of `NVQ_q_CQ_HI` (R386). -/
def NVQ_q_CQ_HI (q : Nat) : Nat := 0xd04014 + q * 0x40
/-- Address of `NVQ_q_SQDB_LO` (R386). -/
def NVQ_q_SQDB_LO (q : Nat) : Nat := 0xd04018 + q * 0x40
/-- Address of `NVQ_q_SQDB_HI` (R386). -/
def NVQ_q_SQDB_HI (q : Nat) : Nat := 0xd0401c + q * 0x40
/-- Address of `NVQ_q_CQDB_LO` (R386). -/
def NVQ_q_CQDB_LO (q : Nat) : Nat := 0xd04020 + q * 0x40
/-- Address of `NVQ_q_CQDB_HI` (R386). -/
def NVQ_q_CQDB_HI (q : Nat) : Nat := 0xd04024 + q * 0x40
/-- Address of `NVQ_q_LBA_LO` (R386). -/
def NVQ_q_LBA_LO (q : Nat) : Nat := 0xd04028 + q * 0x40
/-- Address of `NVQ_q_LBA_HI` (R386). -/
def NVQ_q_LBA_HI (q : Nat) : Nat := 0xd0402c + q * 0x40
/-- Address of `NVQ_q_NLBA_LO` (R386). -/
def NVQ_q_NLBA_LO (q : Nat) : Nat := 0xd04030 + q * 0x40
/-- Address of `NVQ_q_NLBA_HI` (R386). -/
def NVQ_q_NLBA_HI (q : Nat) : Nat := 0xd04034 + q * 0x40
/-- Address of `NVQ_q_STATUS` (R386). -/
def NVQ_q_STATUS (q : Nat) : Nat := 0xd04038 + q * 0x40
/-- Address of `NVQ_q_TIMEOUT` (R386). -/
def NVQ_q_TIMEOUT (q : Nat) : Nat := 0xd0403c + q * 0x40
/-- Address of `MSIX_v_ADDR_LO` (R351). -/
def MSIX_v_ADDR_LO (v : Nat) : Nat := 0xd0e000 + v * 0x10
/-- Address of `MSIX_v_ADDR_HI` (R351). -/
def MSIX_v_ADDR_HI (v : Nat) : Nat := 0xd0e004 + v * 0x10
/-- Address of `MSIX_v_DATA` (R351). -/
def MSIX_v_DATA (v : Nat) : Nat := 0xd0e008 + v * 0x10
/-- Address of `MSIX_v_CTRL` (R351). -/
def MSIX_v_CTRL (v : Nat) : Nat := 0xd0e00c + v * 0x10
/-- Address of `MSIX_PBA_w` (R351). -/
def MSIX_PBA_w (w : Nat) : Nat := 0xd0e800 + w * 0x4
/-- Address of `STR_ANCHOR_TAI_LO` (R49). -/
def STR_ANCHOR_TAI_LO : Nat := 0xd0f000
/-- Address of `STR_ANCHOR_TAI_HI` (R49). -/
def STR_ANCHOR_TAI_HI : Nat := 0xd0f004
/-- Address of `STR_ANCHOR_TICK_LO` (R49). -/
def STR_ANCHOR_TICK_LO : Nat := 0xd0f008
/-- Address of `STR_ANCHOR_TICK_HI` (R49). -/
def STR_ANCHOR_TICK_HI : Nat := 0xd0f00c
/-- Address of `STR_ANCHOR_FRAC` (R49). -/
def STR_ANCHOR_FRAC : Nat := 0xd0f010
/-- Address of `STR_ANCHOR_CTRL` (R49). -/
def STR_ANCHOR_CTRL : Nat := 0xd0f014
/-- Address of `STR_ANCHOR_STATUS` (R49). -/
def STR_ANCHOR_STATUS : Nat := 0xd0f018
/-- Address of `STR_STREAM_EN_s` (R383). -/
def STR_STREAM_EN_s (s : Nat) : Nat := 0xd40000 + s * 0x4
/-- Address of `STR_MARK` (R383). -/
def STR_MARK : Nat := 0xd40400
/-- Address of `PNL_CTRL` (R400). -/
def PNL_CTRL : Nat := 0xe00000
/-- Address of `PNL_LINK` (R400). -/
def PNL_LINK : Nat := 0xe00004
/-- Address of `PNL_PANEL` (R400). -/
def PNL_PANEL : Nat := 0xe00008
/-- Address of `PNL_FRAME_US` (R400). -/
def PNL_FRAME_US : Nat := 0xe0000c
/-- Address of `PNL_VIEW_n` (R400). -/
def PNL_VIEW_n (n : Nat) : Nat := 0xe00010 + n * 0x4
/-- Address of `PNL_HOST_ADDR_LO` (R400). -/
def PNL_HOST_ADDR_LO : Nat := 0xe00018
/-- Address of `PNL_HOST_ADDR_HI` (R400). -/
def PNL_HOST_ADDR_HI : Nat := 0xe0001c
/-- Address of `PNL_HOST_STRIDE` (R400). -/
def PNL_HOST_STRIDE : Nat := 0xe00020
/-- Address of `PNL_HOST_RECT0` (R400). -/
def PNL_HOST_RECT0 : Nat := 0xe00024
/-- Address of `PNL_HOST_RECT1` (R400). -/
def PNL_HOST_RECT1 : Nat := 0xe00028
/-- Address of `PNL_COMMIT` (R400). -/
def PNL_COMMIT : Nat := 0xe0002c
/-- Address of `PNL_STATUS` (R400). -/
def PNL_STATUS : Nat := 0xe00030
/-- Address of `PNL_ACT_VIEW_n` (R400). -/
def PNL_ACT_VIEW_n (n : Nat) : Nat := 0xe00034 + n * 0x4
/-- Address of `PNL_OWED` (R400). -/
def PNL_OWED : Nat := 0xe0003c
/-- Address of `PNL_TE_PERIOD` (R400). -/
def PNL_TE_PERIOD : Nat := 0xe00040
/-- Address of `PNL_FRAMES` (R400). -/
def PNL_FRAMES : Nat := 0xe00044
/-- Address of `PNL_TILES_LO` (R400). -/
def PNL_TILES_LO : Nat := 0xe00048
/-- Address of `PNL_TILES_HI` (R400). -/
def PNL_TILES_HI : Nat := 0xe0004c
/-- Address of `PNL_DCS_CTRL` (R400). -/
def PNL_DCS_CTRL : Nat := 0xe00050
/-- Address of `PNL_DCS_DATAi` (R400). -/
def PNL_DCS_DATAi (i : Nat) : Nat := 0xe00054 + i * 0x4
/-- Address of `GGE_STATUS` (R418). -/
def GGE_STATUS : Nat := 0xf00000
/-- Address of `GGE_REQ` (R418). -/
def GGE_REQ : Nat := 0xf00004
/-- Address of `GGE_SNAP` (R418). -/
def GGE_SNAP : Nat := 0xf00008
/-- Address of `GGE_SNAP_SUM_LO` (R418). -/
def GGE_SNAP_SUM_LO : Nat := 0xf0000c
/-- Address of `GGE_SNAP_SUM_HI` (R418). -/
def GGE_SNAP_SUM_HI : Nat := 0xf00010
/-- Address of `GGE_SNAP_COUNT` (R418). -/
def GGE_SNAP_COUNT : Nat := 0xf00014
/-- Address of `GGE_SNAP_MINMAX` (R418). -/
def GGE_SNAP_MINMAX : Nat := 0xf00018
/-- Address of `GGE_ALARM_HI` (R418). -/
def GGE_ALARM_HI : Nat := 0xf0001c
/-- Address of `GGE_ALARM_LO` (R418). -/
def GGE_ALARM_LO : Nat := 0xf00020
/-- Address of `GGE_TEST_CTRL` (R418). -/
def GGE_TEST_CTRL : Nat := 0xf00024
/-- Address of `GGE_TEST_RESULT` (R418). -/
def GGE_TEST_RESULT : Nat := 0xf00028
/-- Address of `GGE_TEST_COUNT` (R418). -/
def GGE_TEST_COUNT : Nat := 0xf0002c
/-- Address of `GGE_EVT_CTRL` (R418). -/
def GGE_EVT_CTRL : Nat := 0xf00030
/-- Address of `GGE_LAST_REFUSE` (R418). -/
def GGE_LAST_REFUSE : Nat := 0xf00034
/-- Address of `GGE_i_LIMIT` (R418). -/
def GGE_i_LIMIT (i : Nat) : Nat := 0xf00100 + i * 0x10
/-- Address of `GGE_i_STATE` (R418). -/
def GGE_i_STATE (i : Nat) : Nat := 0xf00104 + i * 0x10
/-- Address of `GGE_SCAN_MASK` (R417). -/
def GGE_SCAN_MASK : Nat := 0xf40000
/-- Address of `GGE_URGENT` (R417). -/
def GGE_URGENT : Nat := 0xf40004
/-- Address of `LOG_STATUS` (R419). -/
def LOG_STATUS : Nat := 0x1000000
/-- Address of `LOG_SEQ` (R419). -/
def LOG_SEQ : Nat := 0x1000004
/-- Address of `LOG_OPSEC` (R419). -/
def LOG_OPSEC : Nat := 0x1000008
/-- Address of `LOG_CYCLES` (R419). -/
def LOG_CYCLES : Nat := 0x100000c
/-- Address of `LOG_CURSOR` (R419). -/
def LOG_CURSOR : Nat := 0x1000010
/-- Address of `LOG_WIN_SEQ` (R419). -/
def LOG_WIN_SEQ : Nat := 0x1000014
/-- Address of `LOG_CTRL` (R419). -/
def LOG_CTRL : Nat := 0x1000018
/-- Address of `LOG_NEXT` (R419). -/
def LOG_NEXT : Nat := 0x100001c
/-- Address of `LOG_NONCEi` (R419). -/
def LOG_NONCEi (i : Nat) : Nat := 0x1000020 + i * 0x4
/-- Address of `LCS_STATUS` (R472). -/
def LCS_STATUS : Nat := 0x1100000
/-- Address of `LCS_CMD_CTRL` (R472). -/
def LCS_CMD_CTRL : Nat := 0x1100004
/-- Address of `LCS_CMD_RESULT` (R472). -/
def LCS_CMD_RESULT : Nat := 0x1100008
/-- Address of `LCS_SVN` (R472). -/
def LCS_SVN : Nat := 0x110000c
/-- Address of `LCS_NONCEi` (R472). -/
def LCS_NONCEi (i : Nat) : Nat := 0x1100010 + i * 0x4
/-- Address of `LCS_LOAD_ADDR_LO` (R472). -/
def LCS_LOAD_ADDR_LO : Nat := 0x1100040
/-- Address of `LCS_LOAD_ADDR_HI` (R472). -/
def LCS_LOAD_ADDR_HI : Nat := 0x1100044
/-- Address of `LCS_LOAD_LEN` (R472). -/
def LCS_LOAD_LEN : Nat := 0x1100048
/-- Address of `LCS_LOAD_CTRL` (R472). -/
def LCS_LOAD_CTRL : Nat := 0x110004c
/-- Address of `LCS_LOAD_STATUS` (R472). -/
def LCS_LOAD_STATUS : Nat := 0x1100050
/-- Address of `LCS_ATT_NONCEi` (R472). -/
def LCS_ATT_NONCEi (i : Nat) : Nat := 0x1100060 + i * 0x4
/-- Address of `LCS_ATT_CTRL` (R472). -/
def LCS_ATT_CTRL : Nat := 0x1100080
/-- Address of `LCS_ATT_STATUS` (R472). -/
def LCS_ATT_STATUS : Nat := 0x1100084
/-- Address of `LCS_MEAS_m_i` (R472). -/
def LCS_MEAS_m_i (m i : Nat) : Nat := 0x1100100 + m * 0x20 + i * 0x4
/-- Address of `LCS_EXT_DATAi` (R472). -/
def LCS_EXT_DATAi (i : Nat) : Nat := 0x1100180 + i * 0x4
/-- Address of `LCS_EXT_CTRL` (R472). -/
def LCS_EXT_CTRL : Nat := 0x11001a0
/-- Address of `BST_RUN` (R473). -/
def BST_RUN : Nat := 0x1200000
/-- Address of `BST_STATUS` (R473). -/
def BST_STATUS : Nat := 0x1200004
/-- Address of `BST_RESULT` (R473). -/
def BST_RESULT : Nat := 0x1200008
/-- Address of `BST_TETHER_FAIL_LO` (R473). -/
def BST_TETHER_FAIL_LO : Nat := 0x1200010
/-- Address of `BST_TETHER_FAIL_HI` (R473). -/
def BST_TETHER_FAIL_HI : Nat := 0x1200014
/-- Address of `BST_DDR_FAIL` (R473). -/
def BST_DDR_FAIL : Nat := 0x1200020
/-- Address of `BST_LINK_FAIL` (R473). -/
def BST_LINK_FAIL : Nat := 0x1200024
/-- Address of `BST_SRAM_REPAIRS` (R473). -/
def BST_SRAM_REPAIRS : Nat := 0x1200028
/-- Address of `BST_SRAM_FAIL_ADDR` (R473). -/
def BST_SRAM_FAIL_ADDR : Nat := 0x120002c
/-- Address of `BST_REPAIR` (R473). -/
def BST_REPAIR : Nat := 0x1200030
/-- Address of `BST_PATROL_CTRL` (R473). -/
def BST_PATROL_CTRL : Nat := 0x1200040
/-- Address of `BST_PATROL_STATUS` (R473). -/
def BST_PATROL_STATUS : Nat := 0x1200044
/-- Address of `BST_PATROL_PASSES` (R473). -/
def BST_PATROL_PASSES : Nat := 0x1200048
/-- Address of `BST_t_COUNT` (R473). -/
def BST_t_COUNT (t : Nat) : Nat := 0x1200100 + t * 0x10
/-- Address of `BST_t_EXPECTED` (R473). -/
def BST_t_EXPECTED (t : Nat) : Nat := 0x1200104 + t * 0x10
/-- Address of `BST_t_SIG` (R473). -/
def BST_t_SIG (t : Nat) : Nat := 0x1200108 + t * 0x10
/-- Address of `BST_t_STATE` (R473). -/
def BST_t_STATE (t : Nat) : Nat := 0x120010c + t * 0x10
/-- Address of `BST_DDR_PIN_c` (R473). -/
def BST_DDR_PIN_c (c : Nat) : Nat := 0x1200200 + c * 0x4
/-- Address of `EVT_CTRL` (R482). -/
def EVT_CTRL : Nat := 0x1300000
/-- Address of `EVT_FAULT` (R482). -/
def EVT_FAULT : Nat := 0x1300004
/-- Address of `EVT_PEND_w` (R482). -/
def EVT_PEND_w (w : Nat) : Nat := 0x1300100 + w * 0x4
/-- Address of `EVT_GPIO_MODE` (R482). -/
def EVT_GPIO_MODE : Nat := 0x1300200
/-- Address of `EVT_SAT_w` (R482). -/
def EVT_SAT_w (w : Nat) : Nat := 0x1300300 + w * 0x4
/-- Address of `EVT_VEC_v` (R482). -/
def EVT_VEC_v (v : Nat) : Nat := 0x1300800 + v * 0x4
/-- Address of `EVT_ROUTE_i` (R482). -/
def EVT_ROUTE_i (i : Nat) : Nat := 0x1301000 + i * 0x4
/-- Address of `EVT_CNT_i` (R482). -/
def EVT_CNT_i (i : Nat) : Nat := 0x1302000 + i * 0x4

end A

end Sys2Proof.Machine
end

