-- ==== Sys2Proof/Machine/State.lean ====
section
/-! DEFINITION. The state of the block as plain data: every register (one list, over the register map), every memory the
spec gives contents, every queue, counter, mode and pin, the model's own fields (`free`, `out`) and the queue of waiting
commands.  INVENTORY.md lists each piece with the rule that names it and its reset value. -/

namespace Sys2Proof.Machine

/-- A pair of like things, one for channel A (0) and one for channel B (1). -/
structure Two (α : Type) where
  a : α
  b : α
deriving DecidableEq, Repr

/-- The field of channel `n`. -/
def Two.get {α : Type} (t : Two α) (n : Fin 2) : α := if n = 0 then t.a else t.b

/-- `t` with the field of channel `n` replaced. -/
def Two.set {α : Type} (t : Two α) (n : Fin 2) (x : α) : Two α :=
  if n = 0 then { t with a := x } else { t with b := x }

/-- A piece of a payload that still lies in acquisition memory (R368, R370): samples of a chunk from
element `skip` on, or a Glow display array.  `gen` is the first sample of the chunk it was cut from: the piece is gone once the writer has put
another chunk there. -/
inductive Piece where
  | elems (ch : Nat) (iq : Bool) (addr skip count : Nat) (gen : Nat)
  | glow (ch addr w c r : Nat) (gen : Nat) -- a display array from its stored array (R318)
deriving DecidableEq, Repr

/-- Samples whose marks a record carries: channel, first sample, sample after the last.  Marks that lie on them at the
release go into its `FLAGS` (R15, R23). -/
structure Cover where
  ch : Nat
  first : Nat
  end_ : Nat
  mask : BitVec 24          -- the flags it takes from them
deriving DecidableEq, Repr

/-- One record of R362, as a stream holds it between its selection and its delivery.  `pieces` follow
`payload` (R368, R370). -/
structure Record where
  typ : Nat                 -- TYPE, R363
  source : Nat              -- SOURCE, R363
  flags : BitVec 24         -- FLAGS, R364
  seq : Nat                 -- SEQ, 48 bits, R371
  stream : Nat              -- STREAM
  tick : BitVec 64          -- TICK
  frac : Nat                -- FRAC, 10 bits
  anchor : Nat              -- ANCHOR, filled at delivery (R47)
  trigTick : BitVec 64      -- TRIG_TICK
  param : BitVec 64         -- PARAM
  drop : Nat                -- DROP, filled at delivery (R371)
  payload : List (BitVec 8) -- payload bytes
  pieces : List Piece       -- payload still in acquisition memory
  cover : List Cover
  staged : Bool             -- it waits in staging for the link (R23)
  due : Nat                 -- sample count from which it may be released (R15, R375)
deriving DecidableEq, Repr

/-- What `LOCK_A` does (R198): it pulls low without pause, pulls low at each phase comparison, or is released. -/
inductive LockPin where
  | low
  | pulses
  | released
deriving DecidableEq, Repr

/-- The No Snoop and Relaxed Ordering bits of a write on the link (R355). -/
structure TlpAttr where
  noSnoop : Bool
  relaxed : Bool
deriving DecidableEq, Repr

/-- What leaves the block: bus writes and messages, pin changes, answers to reads.  The model's own list, newest
first; nothing in the machine reads it. -/
inductive Out where
  | lockA (x : LockPin)                                   -- `LOCK_A` changes what it does (R198)
  | readData (v : Nat)                                   -- the answer to a register, BAR or SMBus read
  | bytes (v : List (BitVec 8))                          -- the answer to a block read
  | poisoned                                             -- a read completed with poisoned data (R344)
  | unsupported                                          -- a read completed with Unsupported Request (R353)
  | msix (vector : Nat)                                  -- an MSI-X message (R483)
  | hostWrite (addr : Nat) (data : List (BitVec 8)) (attr : TlpAttr) -- a posted write to host memory
  | record (stream : Nat) (pos : Nat) (r : Record) (hcrc : BitVec 32) (pcrc : Option (BitVec 32)) (attr : TlpAttr)
                                                         -- a record written at byte position pos of its ring or log, its
                                                         -- payload with these attributes and its header with none (R355)
  | doorbell (addr : Nat) (v : Nat)                      -- a write to a drive's doorbell (R380, R381)
  | nvmeWrite (q cid slba nlb : Nat) (fua : Bool)        -- an NVM Express Write command (R380)
  | pin (name : String) (level : Bool)                   -- a pin changes level
  | dsi (data : List (BitVec 8))                         -- a DSI command sent to the panel (R392)
  | tile (view : Nat) (tile : Nat)                       -- a tile sent to the panel (R396)
  | tap (instruction : String)                           -- the TAP instruction that acts (R462)
  | flashWrite (slot : Nat)                              -- a Logbook slot image sent to the flash (R413)
  | pme                                                  -- a PM_PME message (R434)
deriving DecidableEq, Repr

/-- A synchronising reset that has taken effect: its sync tick as a sample count, the natural count there and the
label V (R50). -/
structure SyncPoint where
  sample : Nat
  natural : BitVec 64
  label : BitVec 64
deriving DecidableEq, Repr

/-- A synchronising reset waiting for its sync tick (R50, R54): from a RANGE_SYNC_IN pulse or a RESYNC entry. -/
structure PendingSync where
  pulse : Bool
  value : BitVec 64
  at_ : Nat                  -- sample count of the sync tick
  edge : Option Nat         -- the REFIN edge, 1/1,024 sample, whose stamp gives PHASE (R54); none after a deferral
deriving DecidableEq, Repr

/-- An accepted anchor (R44, R45). -/
structure Anchor where
  tai : Nat
  tick : Nat
  frac : Nat
  rate : Nat                -- programmed sample rate, µHz
deriving DecidableEq, Repr

/-- A cycle counter (R80, R89): what it last read, and how far its clock has run since, in sample periods times MHz.
`unsure` says that it also ran while no samples did, so that only a free value tells how far. -/
structure Cyc where
  count : BitVec 64
  run : Nat
  unsure : Bool
deriving DecidableEq, Repr

/-- Time at the converter and at the tower (R34 to R37, R50). -/
structure Time where
  tick : BitVec 64          -- the tick counter: label of the newest converter sample
  samples : Nat             -- samples converted since the counter was cleared; durations count these (R51)
  syncs : List SyncPoint    -- synchronising resets that took effect, newest first
  metAt : Option Nat        -- sample at which the latest reset was made or refused (R50)
  waiting : List PendingSync -- resets scheduled or deferred
  outPulse : Bool           -- RANGE_SYNC_OUT is driven high (R55)
  latch : List (Nat × BitVec 32) -- R7: high words latched by low-word reads, by requester and address
  staged : List (Nat × BitVec 32)  -- R7: low words written and waiting for their high word
  anchorPrev : Option Anchor -- the last accepted anchor
  kcyc : Cyc                -- KCLK cycles (R89)
  tcyc : Cyc                -- TCLK cycles (R80)
  tRun : Nat                -- how far TCLK has run, in sample periods times MHz: the hang count's clock (R81)
deriving DecidableEq, Repr

/-- Clock-good signals of the seven domains (R20, R22). -/
structure Good where
  sclk : Bool
  tclk : Bool
  kclk : Bool
  mclk : Bool
  hclk : Bool
  pclk : Bool
  aclk : Bool
deriving DecidableEq, Repr

/-- EVT's own state beside its registers (R481 to R486). -/
structure Evt where
  msixEnable : Bool         -- MSI-X Enable in configuration space
  funcMask : Bool           -- MSI-X Function Mask
  lastMsg : List (Nat × Nat) -- vector, sample count of its last message (R483)
  gpioPulse : BitVec 16     -- pins EVT is pulsing (R485)
  lastRaise : List (Nat × Nat) -- rate-limited source, sample count of its last occurrence
deriving DecidableEq, Repr

/-- Samples or outputs of one chunk of a ring as a stream takes them (R368). -/
structure ChunkRef where
  ch : Nat
  iq : Bool
  k : Nat
  addr : Nat
  skip : Nat                -- elements of the chunk left out before the first
  gen : Nat                 -- first sample of the chunk
  n : Nat                   -- first sample of the part
  label : BitVec 64
  count : Nat
  flags : BitVec 24
  pass : Nat
  seg : Option (Nat × BitVec 64) -- segment index and trigger label
  extra : BitVec 24         -- PRELOST, SPILL
  inline : List (BitVec 8)  -- payload bytes of spill data, which never were in memory
  logged : Option (Bool × Nat × Nat) -- IQ: FULL, GAIN and NCO_FREQ (R231)
  last : Bool               -- the chunk closed early: the record ends after it
deriving DecidableEq, Repr

/-- One stream beside its registers (R366 to R377). -/
structure Stream where
  hist : List (BitVec 64 × BitVec 32) -- STREAM_EN entries applied since admission: target, operand; newest first
  share : Nat               -- staging share of a guaranteed stream, bytes (R374)
  used : Nat                -- bytes held of the share
  pooled : Nat              -- bytes held of the pool
  bucket : Nat              -- token bucket, in bytes times sample periods per microsecond (R374)
  bucketAt : Nat            -- sample count of the last fill
  prod : Nat                -- producer count (or log count) in bytes
  prodAt : Option Nat       -- sample count of the last producer write (R377)
  prodSent : Nat            -- producer count last written to the host
  notified : Nat            -- producer count at the last notification (R377)
  dropsSince : Nat          -- drops since the last delivered record (R371)
  wrapSeq : Bool            -- the next delivered record carries WRAP (R371)
  formed : List Record      -- selected, not yet delivered; oldest first
  gather : Two (List ChunkRef) -- ring records being gathered (R368)
  tagGap : Two Bool         -- a chunk whose tag was lost precedes the next one read (R344)
  log : List (BitVec 8)     -- NVMe: log bytes not yet handed to drives in whole stripes
  written : Nat             -- NVMe: log bytes handed to drives in whole stripes
  partly : Nat              -- NVMe: bytes of the current stripe already written partly (R380)
  recs : List (Nat × Nat)   -- NVMe: log position and length of the records not yet on a drive
deriving DecidableEq, Repr

/-- A DMA descriptor (R356, R357). -/
structure Desc where
  src : Nat
  dst : Nat
  count : Nat
  srcSp : Nat
  dstSp : Nat
  prio : Nat
  irq : Bool
deriving DecidableEq, Repr

/-- One DMA channel beside its registers. -/
structure Dma where
  queue : List Desc
  active : Option Desc
  moved : Nat               -- bytes of the active descriptor moved and acknowledged
  stopAsked : Bool          -- a power-down asked it to stop (R361)
  bad : Bool                -- an uncorrectable error met its data (R344)
deriving DecidableEq, Repr

/-- An outstanding NVMe command (R380, R381). -/
structure NvCmd where
  cid : Nat
  stream : Nat
  at_ : Nat                 -- log position
  data : List (BitVec 8)
  frees : Nat               -- staging bytes it frees; 0 for a partial stripe
  unread : Nat              -- bytes its drive has not read yet
deriving DecidableEq, Repr

/-- One NVMe queue pair beside its registers. -/
structure Nvq where
  cmds : List NvCmd
  tail : Nat
  head : Nat
  phase : Bool
  nextCid : Nat
deriving DecidableEq, Repr

/-- A level of the hardware-loop stack (R102): first and last instruction of the body, the count left, and
whether the loop buffer fills in this iteration. -/
structure Loop where
  first : BitVec 32
  last : BitVec 32
  count : BitVec 32
  clean : Bool              -- nothing has emptied the loop buffer since this iteration began (R103)
deriving DecidableEq, Repr

/-- A binding of the dispatch unit (R70, R71). -/
structure Binding where
  src : Nat                 -- SRC
  deal : Bool
  blk : Nat
  pages : List (BitVec 64 × Nat) -- coefficient page by the label it applies from, newest first (R72)
  set_ : List Nat           -- cores, ascending
  q : Nat                   -- queue number
  op : BitVec 32            -- the operand, which the mirrors read
  start : BitVec 64         -- label of the binding's element
  index : Nat               -- entries since the start, dropped ones included
  buf : List (BitVec 8)     -- IQ block being gathered
  bufTick : BitVec 64
  bufFlags : BitVec 24
  bufParam : BitVec 64
deriving DecidableEq, Repr

/-- A pipeline output waiting for the dispatch unit (R70, R75).  `key` names the binding (core, queue) an IQ block was
gathered for; other outputs go to every binding of their source. -/
structure DispItem where
  src : Nat
  key : Option (Nat × Nat)
  kind : Nat                -- record TYPE of the payload
  source : Nat
  tick : BitVec 64
  flags : BitVec 24
  frac : Nat
  param : BitVec 64
  payload : List (BitVec 8)
deriving DecidableEq, Repr

/-- The dispatch unit, timeline unit 13 (R70 to R76). -/
structure Disp where
  bindings : List Binding
  waiting : List DispItem   -- oldest first
deriving DecidableEq, Repr

/-- One input queue of a Beacon core beside its registers (R74 to R77). -/
structure BQueue where
  bound : Bool
  wrap : Nat                -- W of the last binding (R74); QWRAP shows it while bound
  dropsBefore : Nat         -- entries dropped since the last entry written (R75)
  entries : List (BitVec 24 × Nat × Nat) -- FLAGS, DROPS_BEFORE and CPAGE of the entries not yet consumed, oldest first
deriving DecidableEq, Repr

/-- A post waiting in a core's post FIFO (R78, R79): descriptor address, flags ORed in at the POST. -/
structure Post where
  addr : BitVec 32
  flags : BitVec 24
deriving DecidableEq, Repr

/-- What holds a core in its present instruction. -/
inductive Stall where
  | waitq (q : Fin 4) (v : BitVec 16)                -- R104
  | post (addr : BitVec 32)                          -- R79
  | timeline (unit : Nat) (sel : Nat) (opnd : BitVec 32) (load : Bool) (imm : Bool) -- R129
deriving DecidableEq, Repr

/-- One of the seventeen cores (R57): 0 to 15 the Beacon cores, 16 the Keeper.  Vector registers, accumulators,
queues and posts of the Keeper stay at zero and empty: it has none. -/
structure Core where
  g : Vector (BitVec 32) 16
  ap : Vector (BitVec 32) 8
  inc : Vector (BitVec 32) 8
  rs : Vector (BitVec 32) 8
  rz : Vector (BitVec 32) 8
  cst : BitVec 32
  pc : BitVec 32
  epc : BitVec 32           -- Keeper only (R104)
  loops : List Loop         -- innermost first, at most 4
  shadow : List Loop        -- Keeper: the loop stack saved by a trap
  v : Vector (BitVec 256) 32
  acc : Vector (BitVec 640) 4 -- 16 lanes of 40 bits
  flagAcc : BitVec 24       -- FLAGACC (R77)
  queues : Vector BQueue 4
  posts : List Post
  stall : Option Stall
  hangFrom : Nat            -- run of TCLK from which the hang count runs (R81)
  waitFrom : Nat            -- run of TCLK at which a waitq stall began: its time does not count
  startAt : Nat             -- sample count at which a restarting core starts (R82)
  entryPc : BitVec 32       -- from the image header (R87)
  restartPc : BitVec 32
  trapPc : BitVec 32        -- Keeper only
deriving DecidableEq, Repr

/-- The Keeper beside its core (R65, R66, R84, R85). -/
structure Keeper where
  storeBuf : List (Nat × BitVec 32) -- stores not yet in Keeper memory, oldest first, at most 4
  mbox : Bool               -- bit 0 of Keeper-local register 3000_0010h (R86)
  cause : Nat               -- cst.CAUSE of the restart in progress
  codeHash : BitVec 256     -- measurement of KCODE taken at load
  wdtFrom : Nat             -- sample count from which KPR_WDT_LEFT counts down (R84)
deriving DecidableEq, Repr

/-- Where a queue entry stands.  Entries for the lamp die travel, wait in the lamp-side store, and are counted until
the lamp reports them (R129, R162). -/
inductive Phase where
  | queued | transit | stored | reported
deriving DecidableEq, Repr

/-- One timeline queue entry (R127 to R135). -/
structure Entry where
  sel : Nat
  opnd : BitVec 32
  table : Option Nat        -- number of the load this TL.LOAD entry waits for
  target : BitVec 64
  imm : Bool
  phase : Phase
  from_ : Nat               -- IMM: sample count at acceptance, at its arrival in the lamp-side store, or when its copy finished; its safe point comes after
  kept : Bool               -- a lamp-side entry kept over a reset that zeroed the queue's registers: they do not count it (R142)
deriving DecidableEq, Repr

/-- A table load (R135 to R137). -/
structure TlLoad where
  id : Nat
  unit : Nat
  sel : Nat
  src : Nat                 -- Keeper address
  len : Nat
  done : Bool
  shadow : List (BitVec 8)
deriving DecidableEq, Repr

/-- An affected window (R134): unit and selector, its first label, and the label it closed at. -/
structure Window where
  unit : Nat
  sel : Nat
  from_ : BitVec 64
  end_ : Option (BitVec 64)
deriving DecidableEq, Repr

/-- The timeline write side beside its registers (R119 to R142). -/
structure Timeline where
  held : Option (BitVec 64)
  queues : Vector (List Entry) 15
  windows : List Window     -- affected windows, newest first (R134)
  loads : List TlLoad       -- in acceptance order
  nextLoad : Nat
  lo : List (Nat × BitVec 32) -- staged _LO halves: (unit * 2^20 + selector, bits) (R125)
deriving DecidableEq, Repr

/-- Levels at the pins the spec's rules read or drive. -/
structure Pins where
  resetN : Bool             -- RESET_N (input)
  perstN : Bool             -- PERST_N (input)
  pwrWarnN : Bool           -- PWR_WARN_N (input)
  por : Bool                -- the power-on reset is asserted (R421)
  faultN : Bool             -- FAULT_N, open drain (R441)
  trigOut : Two Bool        -- TRIG_OUT0, TRIG_OUT1
  xtrigLow : Bool           -- the part pulls XTRIG low (R285)
  xtrigHeld : Bool          -- another part has pulled XTRIG low and may still do so
  syncOut : Bool            -- RANGE_SYNC_OUT (R55)
  sclkIn : Bool             -- SCLK_IN is present and measured in 14–17.5 GHz (R192), as last seen
  lockA : LockPin           -- LOCK_A, open drain (R198)
deriving DecidableEq, Repr

/-- A grid of a filter chain (R224): the chain from one restart to the next.  Outputs labelled before `end_` belong to it. -/
structure FGrid where
  origin : Nat              -- restart element, sample count
  end_ : Option Nat         -- element of the next restart
  k : Nat
  full : Bool
  nco : List (Nat × Nat × Nat) -- from element, accumulator there, frequency; newest first (R218)
  phase : List (Nat × Nat)  -- from element, phase; newest first
  steps : List Nat          -- elements at which the phase stepped (R219)
  next : Nat                -- sample count of the next output
  made : Nat                -- outputs produced
  outs : List (Nat × Int × Int × BitVec 24) -- outputs that have no trace value yet, oldest first
deriving DecidableEq, Repr

/-- A listed crossing (R230). -/
structure Crossing where
  label : BitVec 64
  n : Nat
  value : BitVec 32
  rise : Bool
  flags : BitVec 24
deriving DecidableEq, Repr

/-- A filter chain beside its registers (R217 to R231).  Settings that act by label keep their history, newest first: from
sample, operand. -/
structure Flt where
  grids : List FGrid        -- oldest first; empty before the first input element
  outCtrl : List (Nat × BitVec 32)
  rank : List (Nat × BitVec 32)
  thrHigh : List (Nat × BitVec 32)
  thrLow : List (Nat × BitVec 32)
  rankSeen : Nat            -- start of the RANK_CTRL setting the last trace value used
  high : Bool               -- detector state
  pos : Nat                 -- trace positions since the restart
  listed : Nat              -- crossings listed in the present event window
  excessSaid : Bool         -- FLT_n_THR_EXCESS raised in this window
  list : List Crossing      -- the list in the making, oldest first
  listEnd : Nat             -- newest input of the last trace value examined
  unlisted : Nat            -- crossings not listed since the previous list
  log : List (Nat × Bool × Nat × Nat) -- from sample: FULL, GAIN, NCO frequency that acts; newest first, at most 4,096 (R368)
deriving DecidableEq, Repr

/-- An IQ output as the Lens engine takes it. -/
structure IqOut where
  n : Nat                   -- its label as a sample count
  i : Int
  q : Int
  flags : BitVec 24
deriving DecidableEq, Repr

/-- A detector group in the making (R245). -/
structure Group where
  first : Nat               -- sample of its first frame
  count : Nat
  flags : BitVec 24
  exp : Nat
  acc : List Nat            -- by bin: numerator of the combined P
  den : Nat                 -- denominator of P
  last : Nat                -- newest input sample
deriving DecidableEq, Repr

/-- Settings of a Lens engine for frames from sample `n` on (R247, R249). -/
structure LnsCfg where
  n : Nat
  en : Bool
  log2n : Nat
  win : Nat
  beta : Nat
  div : Nat
  det : Nat
  m : Nat
  first : Int
  last : Int
  lin : Bool
  uwin : List (BitVec 8)
  regrid : Bool             -- an entry that sets a grid origin is applied here (R238)
deriving DecidableEq, Repr

/-- A frame (R237): its first output's sample count, the settings it started under and the filter grid it belongs to.
`origin` says that the detector origin lies at it (R246). -/
structure LFrame where
  n : Nat
  cfg : LnsCfg
  k : Nat
  full : Bool
  gridOrigin : Nat
  origin : Bool
  outs : List IqOut         -- its outputs, once it is complete
deriving DecidableEq, Repr

/-- A Lens engine beside its registers (R237 to R254). -/
structure Lns where
  cfgs : List LnsCfg        -- newest first
  grid : Option Nat         -- grid origin, sample count; none while no frames start
  seen : Nat                -- start of the settings of the last frame
  fOrigin : Option Nat      -- origin of the filter grid of the newest output
  nextFrame : Nat           -- sample count of the next frame start
  buf : List IqOut          -- outputs that frames in progress hold, oldest first
  open_ : List LFrame       -- frames in progress, oldest first
  ready : List LFrame       -- complete frames, oldest first
  group : Option Group
deriving DecidableEq, Repr

/-- A spectrum on its way to Glow (R253): exact P of each bin as numerators over one denominator. -/
structure Spectrum where
  n : Nat                   -- label as a sample count
  label : BitVec 64
  flags : BitVec 24
  first : Int               -- BIN_FIRST
  log2n : Nat
  grid : Nat                -- Lens grid origin
  num : List Nat
  den : Nat
  last : Nat                -- newest input sample
  due : Nat                 -- sample count at its release point
deriving DecidableEq, Repr

/-- Flags laid on a span of converter samples of one channel (R149): from a sample count, up to but not including
another, or still open. -/
structure Mark where
  first : Nat
  end_ : Option Nat
  flags : BitVec 24
deriving DecidableEq, Repr

/-- The transitions of one fast comparator that the lamp reports for one lamp block (R159). -/
structure Report where
  block : Nat               -- first sample of the lamp block, as a sample count
  rise : Option Nat
  fall : Option Nat
  multi : Bool
deriving DecidableEq, Repr

/-- One fast comparator (R155 to R160). -/
structure Cmp where
  live : Bool               -- the comparator's output
  kept : Bool               -- contribution at the start of a hold
  holdEnd : Nat             -- sample count at which the hold ends; 0: none
  reports : List Report     -- reports of the blocks not yet at the tower, newest first
  holds : List (Nat × Nat)  -- holds that those blocks may touch: from sample, to sample; newest first
  at_ : Nat                 -- sample at which the contribution last changed
  before : Bool             -- contribution one sample before
  beforeReports : List Report -- the reports as they stood then
  rises : Nat               -- rises counted at that sample
deriving DecidableEq, Repr

/-- One channel of the lamp die beside its registers (R143 to R160). -/
structure Lamp where
  marks : List Mark
  stepEnd : Nat             -- end of the front-end step window, sample count
  cmp0 : Cmp
  cmp1 : Cmp
  peakFrom : Nat            -- sample from which LMP_n_PEAK counts: its last clear (R164)
  ovrEnd : Nat              -- sample count up to which OVR marking runs (R152)
  ovrFrom : Nat             -- first marked sample not yet in LMP_n_OVR_SAMPLES
  lastFire : Nat            -- sample of the last firing (R153)
deriving DecidableEq, Repr

/-- A request of the tower to drive a TRIG_OUT pin (R284). -/
inductive PinReq where
  | pulse (start len : Nat)
  | rise (start : Nat)
  | fall (start : Nat)
deriving DecidableEq, Repr

/-- The TOWER signal of one TRIG_OUT pin at the lamp (R284). -/
structure TowerPin where
  reqs : List PinReq
  until_ : Option Nat       -- end of the merged pulse being driven
  level : Bool              -- armed level
  ops : List (Nat × BitVec 32) -- operands of the pin, each with the sample from which it is in force, newest first
deriving DecidableEq, Repr

/-- Settings of the sample-clock synthesiser (R186, R192). -/
structure ScSettings where
  rdiv : Nat
  nint : Nat
  num : Nat
  den : Nat
  exact : Bool
  m : Nat
deriving DecidableEq, Repr

/-- What the acquisition of the sample clock in progress follows (R191, R196, R200). -/
inductive Acquire where
  | none_ | start | apply | loss
deriving DecidableEq, Repr

/-- Clock synthesis beside its registers (R186 to R200). -/
structure Clk where
  rate : Nat                -- programmed rate in force, µHz (R196)
  set_ : ScSettings         -- settings in force at the lamp
  sent : Option (ScSettings × Nat) -- settings and rate on their way to the lamp
  reload : Option Nat       -- rate that the next lock brings into force: the settings have arrived (R196)
  held : Option (ScSettings × Nat) -- an APPLY held while REFIN is absent (R196), or a start that waits for step 3 (R191)
  acquire : Acquire
  absent : List Mark        -- when REFIN was absent (R23)
  goodRun : Nat             -- successive good REFIN windows, at most 4 (R188)
  holdTower : Bool          -- synthesisers in holdover (R189)
  holdMem : Bool
  holdPanel : Bool
  holdBackup : Bool         -- the backup clock runs free
  spreadTower : BitVec 32   -- spread settings in force (R197)
  spreadPanel : BitVec 32
  spreadMem : BitVec 32
deriving DecidableEq, Repr

/-- Error counters of one physical Tether lane since the last training (R215). -/
structure LaneErr where
  lane : Nat
  attr : Nat
  sync : Nat
  margin : Nat
deriving DecidableEq, Repr

/-- What a return packet carries (R207). -/
inductive RetKind where
  | entry (unit sel : Nat)          -- a timeline entry
  | register (addr : Nat)           -- a register write or read
  | switch_ (ret : Bool) (frame : Nat) -- a switch request with its F_sw (R210)
deriving DecidableEq, Repr

/-- A return packet not yet acknowledged (R211). -/
structure RetPkt where
  seq : Nat
  kind : RetKind
  sentAt : Option Nat       -- return frame of its first transmission, or of the one that its last resending began from
  due : Nat                 -- transmissions it is still waiting for
  got : Bool                -- the lamp has it
deriving DecidableEq, Repr

/-- The Tether beside its registers (R203 to R214). -/
structure Tth where
  rx : Nat                  -- sample count of the next lamp block at the tower
  fwdMap : Nat              -- forward lanes skipped by the map in force (R204)
  retMap : Nat
  fwdSwitch : Option Nat    -- forward frame of a switch in progress (R210)
  retSwitch : Option Nat
  attrs : List (Nat × Nat)  -- attributed failures: logical lane, frame number (R209)
  retAttrs : List (Nat × Nat)
  lowRun : List (Nat × Nat) -- successive frames below the margin, by logical lane (R209)
  retLow : List (Nat × Nat) -- the same of the return lanes (R211)
  tails : List (Nat × BitVec 58) -- flipped bits among the last 58 payload bits of a physical lane, by lane number; bit 0 newest (R205)
  frame : Nat               -- frame count of the next forward frame (R206)
  jump : Option SyncPoint   -- last label jump, repeated until acknowledged (R150)
  jumpSeen : Bool           -- the tower has it and owes the acknowledgement
  lanes : List LaneErr
  gapFrom : Option (BitVec 64) -- first GAP block of the present interruption (R210)
  retFrames : Nat
  retSeq : Nat              -- next return sequence number
  unacked : List RetPkt
  phase : Nat               -- training phase 1 to 3; 0: not training (R213)
  attempt : Nat
  savedFwd : Nat            -- marks at the start of the training
  savedRet : Nat
  savedSoft : Nat
  lost : Bool               -- the lamp has lost the return link (R165)
  asleep : Bool             -- a sleep packet suspended the test of R212 (R433)
deriving DecidableEq, Repr

/-- One channel of converter calibration beside its registers (R166 to R176). -/
structure Cal where
  nextGrid : Option Nat     -- sample count of the next grid point
  swapAt : Nat              -- sample of the last swap, where the windows start (R171)
  checkAt : Nat             -- start of the check window
  outcome : Nat             -- this step: 0 not checked, 1 not usable, 2 failed, 3 passed
  succ : Vector Nat 17      -- successive plausibility failures by slice (R175)
  oldBg : BitVec 32         -- BG of the relief slice before this step's values
  thaw : Nat                -- first sample after the last freeze (R176)
deriving DecidableEq, Repr

/-- The trim load (R179 to R181). -/
structure TrimLoad where
  factory : Option (BitVec 32 × List (BitVec 32)) -- header and 34 words, checked
  user : Option (Option (BitVec 32 × BitVec 32)) -- read; the valid USER words
  tries : Nat               -- user-trim reads failed
deriving DecidableEq, Repr

/-- A source event of the Sector unit (R258): its event tick as a sample count.  `prog` names the program whose local
condition it is; `bin` is the lowest violating bin and its reading (R275). -/
structure SecEvt where
  src : Nat
  prog : Option Nat
  n : Nat
  frac : Nat
  flags : BitVec 24
  bin : Option (Int × Int)
  last : Nat                -- newest input sample it was computed from (R15)
  ch : Option (Fin 2)       -- channel of the samples it was computed from
  from_ : Nat               -- oldest of them
deriving DecidableEq, Repr

/-- Progress of one local condition (R264). -/
structure Local where
  run : Nat                 -- samples of the level run so far
  first : Nat               -- first sample of the run
  flags : BitVec 24
  armed : Bool              -- edge: the trace lay beyond the hysteresis
  next : Nat                -- sample that continues the run or window
  grid : Nat                -- power: origin of the filter grid of the window
  win : List (Nat × Nat × BitVec 24) -- power: the last 2^w outputs, oldest first: label sample, I² + Q², flags
  above : Bool              -- power: the window before met the test
  from_ : Nat               -- start of the settings it follows
deriving DecidableEq, Repr

/-- Settings of a trigger program for labels from sample `n` on (R263, R267, R282). -/
structure ProgCfg where
  n : Nat
  en : Bool
  table : List (BitVec 8)
deriving DecidableEq, Repr

/-- One trigger program (R263 to R268). -/
structure Prog where
  cfgs : List ProgCfg       -- newest first
  seen : Nat                -- start of the settings that `step` and `entry` follow
  step : Nat
  entry : Nat               -- sample at which the step was entered
  buf : List SecEvt         -- reorder buffer, at most 16,384
  trunc : Bool              -- an event was dropped since its last trigger (R268)
  locals : Vector Local 8
deriving DecidableEq, Repr

/-- One mask condition (R260 to R262). -/
structure MaskSt where
  cfgs : List (Nat × BitVec 32 × List (BitVec 8)) -- from sample: MASK_CTRL and table; newest first
  seen : Nat                -- start of the settings of the last spectrum
  run : Nat                 -- spectra of the run so far
  first : Nat               -- sample of the first spectrum of the run
  flags : BitVec 24
  bin : Option (Int × Int)  -- lowest violating bin of the run's first spectrum and its reading
  prev : Option Bool        -- did the spectrum before meet the condition, if one was seen
  edge : Bool               -- the spectrum before the run was seen and did not meet it
  grid : Option Nat         -- Lens grid origin of the last spectrum, sample count
deriving DecidableEq, Repr

/-- A segment being captured (R279, R280). -/
structure Segment where
  trig : BitVec 64          -- trigger label
  fill : Nat                -- fill start of its slot
  first : Nat               -- first sample
  end_ : Nat                -- sample after the last
  slot : Nat
  index : Nat
  prelost : Bool
  spilled : Bool            -- its first spill has been reported (R280)
  last : Bool               -- the unit disarms at its end
  done : Bool               -- SEGMENT_END has come
deriving DecidableEq, Repr

/-- The Sector unit beside its registers. -/
structure Sec where
  waiting : List SecEvt     -- events on their way to the reorder buffers, oldest first
  masks : Vector MaskSt 16
  progs : Vector Prog 4
  examined : Nat            -- labels of samples before this one have been examined
  armAt : Nat               -- arm sample
  lastTrig : Option Nat     -- sample of the latest trigger
  trigSinceArm : Bool
  suppSince : Nat           -- candidates suppressed since the previous trigger
  slot : Nat                -- slot being filled
  fill : Option Nat         -- its fill start; none: no slot is open
  segs : List Segment
  xreqs : List (Nat × Nat)  -- XTRIG pulses: start sample, length
  xuntil : Option Nat       -- end of the XTRIG pulse being driven
  xignore : Nat             -- the XTRIG input is ignored before this sample (R285)
  xops : List (Nat × BitVec 32) -- XTRIG_CTRL operands, each with the sample from which it is in force, newest first
deriving DecidableEq, Repr

/-- Accumulator of one Gauge input (R406). -/
structure GgeAcc where
  sum : BitVec 48
  count : BitVec 32
  min : BitVec 12
  max : BitVec 12
  renorm : Bool
deriving DecidableEq, Repr

/-- A running conversion of the Gauge (R404, R408). -/
structure Conv where
  input : Fin 32
  urgent : Bool
  test : Bool               -- the test converter drove the input at its start
  stale : Bool              -- GGE_TEST_CTRL was written since: its test result counts nowhere (R408)
  keep : Bool               -- a scan conversion that no request aborts (R404)
deriving DecidableEq, Repr

/-- The Gauge beside its registers (R402 to R409). -/
structure Gge where
  acc : Vector GgeAcc 32
  cur : Option Conv
  aborted : Option (Fin 32)
  queue : List (Fin 32)     -- urgent requests, at most 4
  inRow : Nat               -- urgent conversions in succession
  last : Nat                -- scan input just converted, 32 before the first
  snap : Option (Fin 32 × Bool) -- pending latch and its CLEAR
  wake : Bool               -- an alarm with WAKE was raised in SLEEP (R407)
deriving DecidableEq, Repr

/-- The Logbook beside its registers (R410 to R416). -/
structure Log where
  live : List Host.Cell     -- live image by offset, 4 KiB
  staging : List Host.Cell  -- staging image
  slots : List (Nat × List Host.Cell) -- images in flash by slot; a slot not listed is erased or bad
  delta : List Nat          -- events counted during the power-up load (R411)
  pendCause : Nat           -- cause of a pending commit
  tries : Nat               -- failed writes of the running commit
  lastCommit : Option Nat   -- operating second of the last commit
  erase : List Nat          -- sectors still to be erased, in order
  winSeq : Option Nat       -- LOG_SEQ of the image being copied to the window
  win : List Host.Cell      -- window buffer
  smbAge : Nat
  smbOff : Nat
  smbBuf : List Host.Cell   -- SMBus window buffer
  cmd : List Host.Cell      -- command buffer
  clear : Option (List (BitVec 8) × List (BitVec 8)) -- the command being checked and the nonce it is checked against
  loading : Bool            -- the power-up load runs (R414)
  eraseAll : Bool           -- a clear names the history; its commit is still to be copied (R416)
  eraseNext : Bool          -- that commit is being written; the other slots are erased once it stands
  hottest : Option Nat      -- highest junction code of the running second (R411)
  hottestLast : Option Nat  -- that of the last complete second (R442)
  rfMax : Two (Option Nat)
  supply : Vector (Option Nat) 10 -- code of largest deviation by supply
deriving DecidableEq, Repr

/-- A calibration of an interpolator (R292): the sums of its two sets of four codes, which give g, z and u(c) exactly. -/
structure IvCal where
  c1 : Nat
  c2 : Nat
deriving DecidableEq, Repr

/-- One interpolator (R291 to R294). -/
structure Interp where
  id : Nat                  -- names the interpolator: its factory value
  cal : Option IvCal        -- last two-period calibration that passed
  passed : Bool             -- the last one passed
  fresh : Bool              -- it holds a new calibration for a role change
  table : Option (List Nat) -- code-density hits by code
  gain : Option Nat         -- 4 × (c2 − c1) of the last g accepted since power-on reset; none: the factory value
deriving DecidableEq, Repr

/-- One edge channel of the interval unit (R289). -/
structure IvCh where
  service : Interp
  relief : Interp
  cd : Bool                 -- converts with the code-density table
  cdOnly : Bool             -- CAL_CTRL.CD_ONLY as the channel uses it (R298)
  dead : Nat                -- stamp, in 1/1,024 tick, at which its dead time ends
  usedOpen : Bool           -- the open measurement has taken one of its edges
deriving DecidableEq, Repr

/-- A stop found in a measurement (R296). -/
structure IvStop where
  x : Nat                   -- interval, 1/1,024 tick
  src : Nat
deriving DecidableEq, Repr

/-- An open measurement (R296). -/
structure IvMeas where
  tick : BitVec 64          -- start stamp: label and fraction
  frac : Nat
  stamp : Nat               -- the start stamp in 1/1,024 sample
  stop : Nat                -- sample count of its stopping SCLK edge
  stops : List IvStop       -- in order found
  status : Nat              -- payload status bits
  edges : List Nat          -- samples of its edges
deriving DecidableEq, Repr

/-- A statistics set in progress (R299): by stop number, the count, Σx, Σx², minimum and maximum. -/
structure IvSet where
  tick : BitVec 64
  frac : Nat
  n : Nat                   -- sample of its first start
  last : Nat                -- sample of its last edge or event
  count : Nat
  sums : List (Nat × Nat × Nat × Nat × Nat)
  status : Nat
  edges : List Nat          -- samples of the edges of its measurements
deriving DecidableEq, Repr

/-- The interval unit beside its registers. -/
structure Ivu where
  chans : Vector IvCh 3
  meas : Option IvMeas
  lastStart : Option Nat    -- stopping SCLK edge of the previous start, sample count
  gates : List (Nat × Bool) -- SCLK edges, as sample counts, from which the gate is active or not, newest first (R297)
  gateUsed : Option Nat     -- ONE: the SCLK edge of the opening that last had its start
  set_ : Option IvSet
  waits : List (Nat × BitVec 64) -- entries that wait for the open measurement to end: selector and label of the element (R298)
  total : Nat               -- measurements since power-on reset (R300)
  refs : List Nat           -- the newest C2 stamps, 1/1,024 sample (R290)
deriving DecidableEq, Repr

/-- A persistence setting and its element, and the colour settings likewise, newest first (R314, R319). -/
structure GlwSet where
  persist : List (Nat × BitVec 32)
  colour : List (Nat × BitVec 32) -- SNAP_CTRL, for SHIFT and LOG
  lut : List (Nat × List (BitVec 8))
deriving DecidableEq, Repr

/-- A completed snapshot (R314, R321). -/
structure Snap where
  w : Nat
  c : Nat
  r : Nat
  b : Nat                   -- bins of its spectra
  lut : List (BitVec 8)     -- colour table in force for it
  shift : Nat
  log : Bool
  gen : Nat                 -- boundary at which it was formed
deriving DecidableEq, Repr

/-- A snapshot being stored (R315). -/
structure Forming where
  boundary : Nat
  start : Nat
  label : BitVec 64         -- label of the start
  spectra : Nat
  cells : List Nat          -- I_k, row by row
  geom : BitVec 32
  w : Nat
  b : Nat
  flags : BitVec 24
  zero : Bool               -- formed from zero
  gap : Bool
  record : Bool
  sat : Bool
  last : Nat
  allDirty : Bool           -- every tile is dirty (R321)
  spans : List (Nat × Nat)  -- samples of its spectra
deriving DecidableEq, Repr

/-- One Glow channel beside its registers (R306 to R321).  The counts of the integration in progress lie in the Glow
region of SRAM (R310). -/
structure Glw where
  acts : List (Nat × Nat × BitVec 32) -- GEOM, INTEG and SNAP_CTRL entries for spectra from a sample on: sample, selector, operand
  pint : Nat                -- P_int for the spectrum taken last (R311)
  ctl : BitVec 32           -- SNAP_CTRL for it (R313)
  geom : BitVec 32          -- geometry in force
  next : Option (BitVec 32) -- geometry waiting for a boundary
  running : Bool
  w : Nat
  b : Nat
  start : Nat               -- first sample of the integration
  label : BitVec 64
  spectra : Nat
  flags : BitVec 24         -- OR of the spectra of the integration
  sat : Bool
  last : Nat                -- newest input sample
  fromZero : Bool           -- the next snapshot is formed from zero
  clear : Bool              -- CLEAR waits for the next snapshot
  gap : Bool                -- the next snapshot carries GAP
  carry : BitVec 24         -- fault flags of the persistence chain
  chain : List (Nat × Nat)  -- samples of the spectra of the chain's snapshots, newest first
  spans : List (Nat × Nat)  -- samples of the spectra of the integration, newest first
  forming : List Forming    -- oldest first
  snap : Option Snap
  prev : Option Snap        -- geometry of S_(k−1) for the dirty map
  allDirty : Bool
  density : List (Nat × Nat × Nat) -- density conditions fired in this integration: program, start of its settings, condition
deriving DecidableEq, Repr

/-- A sample or IQ output on its way to acquisition memory: sample count, flags, code or IQ word; `brk` says that a sync
tick or a filter restart lies just before it (R336). -/
structure CapElem where
  n : Nat
  flags : BitVec 24
  v : BitVec 32
  brk : Bool
deriving DecidableEq, Repr

/-- A raw lamp block or an IQ group for the capture FIFO (R339). -/
structure CapUnit where
  ch : Fin 2
  iq : Bool
  k : Nat
  elems : List CapElem
deriving DecidableEq, Repr

/-- Slots of an armed capture (R277, R338). -/
structure SegCfg where
  bs : Nat                  -- slot size
  cap : Nat                 -- capacity in ticks
  spill : Bool
deriving DecidableEq, Repr

/-- Capture settings of a channel from a sample on (R336, R337). -/
structure CapCfg where
  n : Nat
  cap : BitVec 32
  ring : BitVec 32
  seg : Option SegCfg
deriving DecidableEq, Repr

/-- A chunk of a ring (R334), being written or held. -/
structure Chunk where
  pos : Nat                 -- its place in the ring or slot
  slot : Nat                -- slot of segment mode; 0 in continuous mode
  tag : Nat                 -- tag index
  addr : Nat
  room : Nat                -- elements it can hold
  pass : Nat
  seg : Bool
  iq : Bool
  k : Nat
  n : Nat                   -- first sample
  label : BitVec 64
  count : Nat
  flags : BitVec 24
  last : Nat                -- newest sample
  early : Bool              -- closed early
  gone : Nat                -- elements from its start that the chunk now in its place has overwritten (R338)
deriving DecidableEq, Repr

/-- The capture writer of one channel. -/
structure CapCh where
  group : List CapElem      -- IQ outputs of the group being gathered
  cfgs : List CapCfg        -- settings, newest first
  epoch : Nat               -- start of the settings being written
  chunk : Option Chunk
  codes : List (BitVec 32)  -- elements of the open chunk not yet in whole bytes
  bytes : List (BitVec 8)   -- bytes of the open chunk not yet in a whole transaction
  put : Nat                 -- bytes of the open chunk written
  next : Nat                -- place of the next chunk
  slot : Nat                -- slot being written
  pass : Nat
  gap : Bool                -- a loss precedes the next sample
  gapAt : List Nat          -- samples before which the FIFO lost data
  full : Bool               -- stopped by ONCE
  held : List Chunk         -- chunks in memory, oldest first
  batch : Option (Nat × List (BitVec 8)) -- tag transaction in hand: its number among the batches of 16, its 256 bytes (R334)
  breaks : List Nat         -- samples before which the open chunk closes: ARM, DISARM, entries of unit 9 (R336)
  spill : List CapElem      -- spill data being gathered
  cutEnd : Nat              -- end of the last segment handed to the streams
deriving DecidableEq, Repr

/-- What keeps acquisition memory from its traffic (R341, R342, R345). -/
inductive AmcRun where
  | none_ | initial | retrain | enter | sleep | exit
deriving DecidableEq, Repr

/-- A BAR5 access that waits for acquisition memory (R347). -/
structure Bar5 where
  addr : Nat
  len : Nat
  data : Option (List (BitVec 8))
deriving DecidableEq, Repr

/-- The acquisition memory controller beside its registers (R326 to R347). -/
structure Amc where
  run : AmcRun
  newRate : Option Nat      -- rate that an initial training brings in by R342
  temps : List Int          -- DIMM temperatures at the last training, by channel; empty until the first reading
  wantFrom : Option Nat     -- a temperature retrain waits since this sample
  replays : List (Nat × Nat) -- channel, sample of a replay
  slots : List (Nat × List Nat) -- channel and the slots of its running frame by owner, in the order of R330
  incoming : List CapUnit   -- on their way to the capture FIFO
  fifo : List CapUnit       -- oldest first
  waiting : List Bar5
deriving DecidableEq, Repr

/-- A panel view or commit set in force and pending, and the push in progress (R394 to R396). -/
structure Pnl where
  linkRate : BitVec 32      -- PNL_LINK in force
  pend : Option Bool        -- a commit waits; its HOST
  owed : Two (List Nat)     -- owed tiles, ascending
  push : Bool               -- a push runs
  pos : Nat                 -- next place of the push: 512 for each view passed, plus the tile
  hostRect : Option (Nat × Nat × Nat × Nat × Nat × Nat) -- host region still to be sent in this push: x, y, width, height, address, stride
  hostRow : Nat             -- next row of it
  dcs : Option (List (BitVec 8)) -- packet that waits for a tile boundary
  stopping : Option Nat     -- stop at the next tile boundary, with LINK then this
  lastFrame : Option Nat    -- sample of the last frame start
deriving DecidableEq, Repr

/-- The security fields of OTP (R446, R448). -/
structure Otp where
  bits : BitVec 4           -- life-cycle transition bits
  pend : Nat                -- pending transition: target state plus 1
  vendor : BitVec 256
  owner : Two (BitVec 256)
  revoked : BitVec 2
  seed : BitVec 256
  svn : Nat                 -- security version counter, 0 to 64
  factory : List (BitVec 8) -- factory trim set: header, 34 words, CRC-32C (R179)
deriving DecidableEq, Repr

/-- An image load in progress (R88, R459). -/
structure LcsLoad where
  host : Bool               -- SRC
deriving DecidableEq, Repr

/-- An attestation report being built (R461). -/
structure LcsAtt where
  nonce : List (BitVec 8)
  meas : List (BitVec 8)    -- M0 to M3 as they stood at GO
deriving DecidableEq, Repr

/-- The life-cycle engine beside its registers (R446 to R461). -/
structure Lcs where
  otp : Otp
  cmdBuf : List Host.Cell   -- command buffer, 8 KiB
  report : List Host.Cell   -- report buffer, 4 KiB
  load : Option LcsLoad
  hostWait : Bool           -- step 6 waits for a host push (R459)
  att : Option LcsAtt
  extends_ : List (List (BitVec 8)) -- extends waiting for a report to end (R460)
  imageKey : Option Nat     -- signing key of the loaded image
  resumed : Bool            -- LCS_RESUMED waits until EVT runs (R452)
deriving DecidableEq, Repr

/-- TAP instructions (R462). -/
inductive Tap where
  | bypass | idcode | samplePreload | extest | extestPulse | extestTrain | clamp | highz | intscan | repair
deriving DecidableEq, Repr

/-- A fuse burn (R468). -/
inductive Burn where
  | sram | tether | both
deriving DecidableEq, Repr

/-- Self-test beside its registers (R462 to R471). -/
structure Bst where
  todo : List Nat           -- tests of the run not yet finished
  failed : Bool             -- a test of the run reported FAIL or INCOMPLETE
  burn : Option Burn
  tap : Tap
  blocks : List Nat         -- blocks whose next reset the run induces (R421, R465)
  softTether : Nat          -- soft forward and return lane marks not fused: bits 0 to 33, 40 to 42
deriving DecidableEq, Repr

/-- The per-block reset machine of one block (R427). -/
inductive Blk where
  | idle | quiesce | reset | waitClk | held
deriving DecidableEq, Repr

/-- A power transition in progress (R430, R431). -/
structure Trans where
  target : Nat              -- 0 ACTIVE, 1 WATCH, 2 STANDBY, 3 SLEEP
  from_ : Nat
  at_ : Option (BitVec 64)  -- PWR_TICK with AT = 1
deriving DecidableEq, Repr

/-- Reset and power control beside its registers (R421 to R436). -/
structure Rst where
  blocks : Vector Blk 13
  steps : List Nat          -- release steps done since the last reset (R425)
  heldReqs : List Nat       -- block requests held until ACTIVE or WATCH (R428)
  gapNext : List Nat        -- blocks whose next output carries GAP (R428)
  trans : Option Trans
  paused : Option Nat       -- sample S at which acquisition stopped
  d3hot : Bool
  pme : Bool                -- PME_Status
  pmeEn : Bool              -- PME_En as the host set it at D3hot
  lmpFrom : Option Nat      -- sample from which the LMP block has been in reset (R428)
  upFrom : Vector Nat 13    -- first sample a block has taken since its last per-block reset (R428)
  resumed : Nat             -- sample Q at which acquisition last resumed (R432)
  sleepTick : Option (BitVec 64) -- SEC_TICK_NOW as SLEEP holds it (R429)
  dieHeld : Bool            -- the tower die is in reset from PERST_N to release step 5 (R426, R476)
  toActive : Bool           -- PERST_N met the part below WATCH: its release ends in a transition to ACTIVE (R431)
deriving DecidableEq, Repr

/-- Time right after power-on reset (R35). -/
def Time.zero : Time :=
  { tick := 0, samples := 0, syncs := [], metAt := none, waiting := [],
    outPulse := false, latch := [], staged := [], anchorPrev := none, kcyc := ⟨0, 0, true⟩, tcyc := ⟨0, 0, true⟩, tRun := 0 }

/-- A stream before its admission. -/
def Stream.zero : Stream :=
  { hist := [], share := 0, used := 0, pooled := 0, bucket := 0, bucketAt := 0, prod := 0, prodAt := none, prodSent := 0, notified := 0,
    dropsSince := 0, wrapSeq := false, formed := [], gather := ⟨[], []⟩, tagGap := ⟨false, false⟩, log := [], written := 0,
    partly := 0, recs := [] }

/-- An idle DMA channel. -/
def Dma.zero : Dma := { queue := [], active := none, moved := 0, stopAsked := false, bad := false }

/-- An unused queue pair. -/
def Nvq.zero : Nvq := { cmds := [], tail := 0, head := 0, phase := true, nextCid := 0 }

/-- An unbound queue. -/
def BQueue.zero : BQueue := { bound := false, wrap := 0, dropsBefore := 0, entries := [] }

/-- A core before its first start: every register 0 (R58), `cst` with `CORE` alone (R59). -/
def Core.zero (n : Nat) : Core :=
  { g := Vector.replicate 16 0, ap := Vector.replicate 8 0, inc := Vector.replicate 8 0,
    rs := Vector.replicate 8 0, rz := Vector.replicate 8 0, cst := BitVec.ofNat 32 (n * 256), pc := 0, epc := 0,
    loops := [], shadow := [], v := Vector.replicate 32 0, acc := Vector.replicate 4 0, flagAcc := 0,
    queues := Vector.replicate 4 BQueue.zero, posts := [], stall := none, hangFrom := 0, waitFrom := 0, startAt := 0, entryPc := 0, restartPc := 0,
    trapPc := 0 }

/-- The Keeper's own state at reset. -/
def Keeper.zero : Keeper := { storeBuf := [], mbox := false, cause := 0, codeHash := 0, wdtFrom := 0 }

/-- The timeline write side at reset. -/
def Timeline.zero : Timeline :=
  { held := none, queues := Vector.replicate 15 [], windows := [], loads := [], nextLoad := 0, lo := [] }

/-- A comparator at reset. -/
def Cmp.zero : Cmp :=
  { live := false, kept := false, holdEnd := 0, reports := [], holds := [], at_ := 0, before := false, beforeReports := [], rises := 0 }

/-- A channel of the lamp die at reset (R158). -/
def Lamp.zero : Lamp :=
  { marks := [], stepEnd := 0, cmp0 := Cmp.zero, cmp1 := Cmp.zero, peakFrom := 0, ovrEnd := 0, ovrFrom := 0,
    lastFire := 0 }

/-- Clock synthesis at reset: the programmed rate is the reset value of `CLK_SC_RATE`. -/
def Clk.zero : Clk :=
  { rate := 32000000000000000, set_ := ⟨1, 160, 0, 0, false, 64⟩, sent := none, reload := none, held := none, acquire := .none_,
    absent := [⟨0, none, 0x10000⟩], goodRun := 0, holdTower := false, holdMem := false, holdPanel := false, holdBackup := false, spreadTower := 0,
    spreadPanel := 0, spreadMem := 0 }

/-- The Tether at reset. -/
def Tth.zero : Tth :=
  { rx := 0, fwdMap := 0, retMap := 0, fwdSwitch := none, retSwitch := none, attrs := [], retAttrs := [], lowRun := [], retLow := [],
    tails := [], frame := 0, jump := none, jumpSeen := false,
    lanes := [], gapFrom := none, retFrames := 0, retSeq := 0, unacked := [], phase := 0, attempt := 0, savedFwd := 0,
    savedRet := 0, savedSoft := 0, lost := false, asleep := false }

/-- A channel of calibration at reset. -/
def Cal.zero : Cal := { nextGrid := none, swapAt := 0, checkAt := 0, outcome := 0, succ := Vector.replicate 17 0, oldBg := 0, thaw := 0 }

/-- A local condition afresh. -/
def Local.zero : Local :=
  { run := 0, first := 0, flags := 0, armed := false, next := 0, grid := 0, win := [], above := false, from_ := 0 }

/-- The default program table (R267): local conditions off, one step that advances on sources 0 to 31. -/
def defaultProg : List (BitVec 8) :=
  List.replicate 256 0 ++ List.replicate 4 0xFF ++ List.replicate 26 0 ++ [1, 0]

/-- Settings at reset: the default table. -/
def ProgCfg.zero (en : Bool) : ProgCfg := { n := 0, en := en, table := defaultProg }

/-- A program at reset (R267). -/
def Prog.zero (en : Bool) : Prog :=
  { cfgs := [ProgCfg.zero en], seen := 0, step := 0, entry := 0, buf := [], trunc := false,
    locals := Vector.replicate 8 Local.zero }

/-- A mask condition at reset. -/
def MaskSt.zero : MaskSt :=
  { cfgs := [(0, 0, [])], seen := 0, run := 0, first := 0, flags := 0, bin := none, prev := none, edge := false, grid := none }

/-- The Sector unit at reset. -/
def Sec.zero : Sec :=
  { waiting := [], masks := Vector.replicate 16 MaskSt.zero, progs := (Vector.replicate 4 (Prog.zero false)).set 0 (Prog.zero true), examined := 0,
    armAt := 0, lastTrig := none, trigSinceArm := false, suppSince := 0, slot := 0, fill := none, segs := [],
    xreqs := [], xuntil := none, xignore := 0, xops := [(0, 0x100)] }

/-- An empty accumulator (R406). -/
def GgeAcc.zero : GgeAcc := { sum := 0, count := 0, min := 0xFFF, max := 0, renorm := false }

/-- The Gauge at reset. -/
def Gge.zero : Gge :=
  { acc := Vector.replicate 32 GgeAcc.zero, cur := none, aborted := none, queue := [], inRow := 0, last := 32, snap := none,
    wake := false }

/-- The Logbook at power-on reset. -/
def Log.zero : Log :=
  { live := [], staging := [], slots := [], delta := List.replicate 8 0, pendCause := 0, tries := 0, lastCommit := none,
    erase := [], winSeq := none, win := [], smbAge := 0, smbOff := 0, smbBuf := [], cmd := [], clear := none, loading := false,
    eraseAll := false, eraseNext := false,
    hottest := none, hottestLast := none, rfMax := ⟨none, none⟩, supply := Vector.replicate 10 none }

/-- OTP of a part as it ships: PROVISIONED, every other field unburned (log entry 15). -/
def Otp.zero : Otp :=
  { bits := 1, pend := 0, vendor := 0, owner := ⟨0, 0⟩, revoked := 0, seed := 0, svn := 0, factory := [] }

/-- The life-cycle engine at reset. -/
def Lcs.zero : Lcs :=
  { otp := Otp.zero, cmdBuf := [], report := [], load := none, hostWait := false, att := none, extends_ := [],
    imageKey := none, resumed := false }

/-- Self-test at reset. -/
def Bst.zero : Bst := { todo := [], failed := false, burn := none, tap := .idcode, blocks := [], softTether := 0 }

/-- Reset and power control at power-on reset. -/
def Rst.zero : Rst :=
  { blocks := Vector.replicate 13 .idle, steps := [], heldReqs := [], gapNext := [], trans := none, paused := none,
    d3hot := false, pme := false, pmeEn := false, lmpFrom := none, upFrom := Vector.replicate 13 0, resumed := 0,
    sleepTick := none, dieHeld := false, toActive := false }

/-- A filter chain at reset (R226): no grid before its first input element. -/
def Flt.zero : Flt :=
  { grids := [], outCtrl := [(0, 0)], rank := [(0, 0)], thrHigh := [(0, 0xFFFFFFFF)], thrLow := [(0, 0)], rankSeen := 0,
    high := false, pos := 0, listed := 0, excessSaid := false, list := [], listEnd := 0, unlisted := 0,
    log := [(0, false, 0, 0)] }

/-- Lens settings at reset (R255). -/
def LnsCfg.zero : LnsCfg :=
  { n := 0, en := false, log2n := 10, win := 1, beta := 2304, div := 1, det := 0, m := 1, first := -512, last := 511,
    lin := false, uwin := [], regrid := false }

/-- A Lens engine at reset (R252). -/
def Lns.zero : Lns :=
  { cfgs := [LnsCfg.zero], grid := none, seen := 0, fOrigin := none, nextFrame := 0, buf := [], open_ := [], ready := [],
    group := none }

/-- An interpolator with no calibration. -/
def Interp.zero (id : Nat) : Interp := { id := id, cal := none, passed := false, fresh := false, table := none, gain := none }

/-- An edge channel at reset. -/
def IvCh.zero (n : Nat) : IvCh :=
  { service := Interp.zero (2 * n), relief := Interp.zero (2 * n + 1), cd := false, cdOnly := false, dead := 0, usedOpen := false }

/-- The interval unit at reset. -/
def Ivu.zero : Ivu :=
  { chans := Vector.ofFn fun i => IvCh.zero i.val, meas := none, lastStart := none, gates := [], gateUsed := none,
    set_ := none, waits := [], total := 0, refs := [] }

/-- The grey ramp (R319). -/
def greyLut : List (BitVec 8) :=
  (List.range 1024).flatMap fun i => [BitVec.ofNat 8 (i / 4), BitVec.ofNat 8 (i / 4), BitVec.ofNat 8 (i / 4), 0]

/-- Glow settings at reset; an empty `lut` stands for the grey ramp. -/
def GlwSet.zero : GlwSet := { persist := [(0, 0)], colour := [(0, 0)], lut := [] }

/-- A Glow channel at reset (R322). -/
def Glw.zero : Glw :=
  { acts := [], pint := 0x100000, ctl := 0, chain := [], spans := [], geom := 0x20210, next := none, running := false, w := 0, b := 0, start := 0, label := 0, spectra := 0, flags := 0,
    sat := false, last := 0, fromZero := true, clear := false, gap := false, carry := 0, forming := [], snap := none,
    prev := none, allDirty := true, density := [] }

/-- A channel of the capture writer at reset. -/
def CapCh.zero : CapCh :=
  { group := [], cfgs := [⟨0, 0, 0, none⟩], epoch := 0, chunk := none, codes := [], bytes := [], put := 0, next := 0,
    slot := 0, pass := 0, gap := false, gapAt := [], full := false, held := [], batch := none, breaks := [], spill := [], cutEnd := 0 }

/-- The acquisition memory controller at reset. -/
def Amc.zero : Amc :=
  { run := .none_, newRate := none, temps := [], wantFrom := none, replays := [], slots := [], incoming := [], fifo := [], waiting := [] }

/-- The panel engine at reset. -/
def Pnl.zero : Pnl :=
  { linkRate := 0x2FA, pend := none, owed := ⟨[], []⟩, push := false, pos := 0, hostRect := none, hostRow := 0,
    dcs := none, stopping := none, lastFrame := none }

/-- An output that its unit holds until its release delay has passed (R40). -/
inductive HeldOut where
  | trace (ch : Fin 2) (k n last x : Nat) (flags : BitVec 24) (rankFrom : Nat)
                                     -- a trace value for the threshold detector: label sample, newest input, value (R228)
  | turn (ch : Fin 2) (k : Nat)      -- the trace restarts behind the values of a grid with this k (R224)
  | interval (item : DispItem) (r : Record) (edges : List Nat) -- an interval record with the samples of its edges (R301)
  | edge (c : Fin 3) (src stop stamp : Nat) (cd : Bool) -- a stamped edge for the measurement (R296)
  | edgeLost (c : Fin 3) (stamp : Nat) -- an edge lost in the dead time of its channel (R289)
  | gateEnd (e : Nat)                -- the gate is inactive at SCLK edge e (R296)
deriving DecidableEq, Repr

/-- A held output: its output stream (0, 1 filter A, B; 2 interval unit; 3 the edges of the interval unit on their way to the
measurement), the sample count at which it is released (R41), and what orders outputs released together. -/
structure Held where
  stream : Nat
  due : Nat
  key : Nat
  what : HeldOut
deriving DecidableEq, Repr

/-- Why the machine stops with a fault.  No rule of the spec stops this block: its faults are states it goes on from. -/
inductive Fault where
  /-- Raised by no meaning: kept so that the type is not empty.  Safe. -/
  | stopped
deriving DecidableEq, Repr

/-- Why a command has no meaning. -/
inductive Refusal where
  /-- Raised by an arm of `exec` whose command has no meaning in the model yet.  Safe: nothing is claimed. -/
  | notModelled (mnemonic : String)
deriving DecidableEq, Repr

/-- The state of the block. -/
structure State where
  regs : List (Nat × BitVec 32) -- BAR0 registers that differ from their reset value, by rising address
  sram : List Host.Cell         -- on-chip SRAM by BAR2 offset (R24); unlisted bytes read 0
  amem : List Host.Cell         -- acquisition memory by byte address (R327); unlisted bytes read 0
  time : Time
  good : Good
  evt : Evt
  pins : Pins
  streams : Vector Stream 64
  dma : Vector Dma 32
  nvq : Vector Nvq 16
  cores : Vector Core 17
  keeper : Keeper
  tl : Timeline
  disp : Disp
  lamp : Two Lamp
  tower : Two TowerPin
  clk : Clk
  tth : Tth
  cal : Two Cal
  trims : TrimLoad
  flt : Two Flt
  lns : Two Lns
  specs : Two (List Spectrum)    -- spectra on their way to Glow
  sec : Sec
  ivu : Ivu
  held : List Held               -- outputs waiting for their release, by release (R40)
  glwSet : GlwSet
  glw : Two Glw
  cap : Two CapCh
  amc : Amc
  pnl : Pnl
  gge : Gge
  log : Log
  lcs : Lcs
  bst : Bst
  rst : Rst
  free : Nat                    -- the model's own: free values drawn so far
  out : List Out                -- the model's own: what left the block, newest first
  pending : List Instr          -- commands waiting, first in first out
deriving DecidableEq, Repr

/-- The machine at power-on reset. -/
def State.reset : State :=
  { regs := [], sram := [], amem := [], time := Time.zero,
    good := ⟨false, false, false, false, false, false, false⟩,
    evt := { msixEnable := false, funcMask := false, lastMsg := [], gpioPulse := 0, lastRaise := [] },
    pins := { resetN := false, perstN := false, pwrWarnN := true, por := true, faultN := false,
              trigOut := ⟨false, false⟩, xtrigLow := false, xtrigHeld := false, syncOut := false, sclkIn := false,
              lockA := .low },
    streams := Vector.replicate 64 Stream.zero, dma := Vector.replicate 32 Dma.zero,
    nvq := Vector.replicate 16 Nvq.zero, cores := Vector.ofFn fun i => Core.zero i.val, keeper := Keeper.zero,
    tl := Timeline.zero, disp := ⟨[], []⟩,
    lamp := ⟨Lamp.zero, Lamp.zero⟩, tower := ⟨⟨[], none, false, [(0, 0x100)]⟩, ⟨[], none, false, [(0, 0x100)]⟩⟩,
    clk := Clk.zero, tth := Tth.zero, cal := ⟨Cal.zero, Cal.zero⟩, trims := ⟨none, none, 0⟩,
    flt := ⟨Flt.zero, Flt.zero⟩, lns := ⟨Lns.zero, Lns.zero⟩, specs := ⟨[], []⟩, sec := Sec.zero, ivu := Ivu.zero,
    held := [], glwSet := GlwSet.zero, glw := ⟨Glw.zero, Glw.zero⟩, cap := ⟨CapCh.zero, CapCh.zero⟩, amc := Amc.zero, pnl := Pnl.zero,
    gge := Gge.zero, log := Log.zero,
    lcs := Lcs.zero, bst := Bst.zero, rst := Rst.zero, free := 0, out := [], pending := [] }

end Sys2Proof.Machine
end

