-- ==== Sys2Proof/Machine/Ops.lean ====
section
/-! DEFINITION. The named operations every meaning is built from: bytes of memory, registers and their fields, counters,
time, events (R481 to R485), records and markers. -/

namespace Sys2Proof.Machine
open Sys2Proof

/-- The result type of a meaning. -/
abbrev Out3 := Host.Outcome State Fault Refusal

/-! ### Memory: canonical lists of cells (log entry 5: an unlisted byte reads 0) -/

/-- Addresses strictly rising above `a`, no byte 0 listed. -/
def Mem.wfFrom : Nat → List Host.Cell → Bool
  | _, [] => true
  | a, (b, v) :: m => decide (a ≤ b) && (v != 0) && Mem.wfFrom (b + 1) m

/-- The canonical form of a memory. -/
def Mem.wf (m : List Host.Cell) : Bool := Mem.wfFrom 0 m

/-- The byte at `a`. -/
def Mem.read (m : List Host.Cell) (a : Nat) : Byte :=
  match m with
  | [] => 0
  | (b, v) :: m => if b = a then v else Mem.read m a

/-- `m` with byte `v` at `a`, in canonical form. -/
def Mem.write (m : List Host.Cell) (a : Nat) (v : Byte) : List Host.Cell :=
  match m with
  | [] => if v = 0 then [] else [(a, v)]
  | (b, w) :: m =>
    if a < b then (if v = 0 then (b, w) :: m else (a, v) :: (b, w) :: m)
    else if a = b then (if v = 0 then m else (a, v) :: m)
    else (b, w) :: Mem.write m a v

/-- `n` bytes from `a` on. -/
def Mem.readN (m : List Host.Cell) (a : Nat) : Nat → List Byte
  | 0 => []
  | n + 1 => Mem.read m a :: Mem.readN m (a + 1) n

/-- `m` with the bytes `bs` from `a` on. -/
def Mem.writeN (m : List Host.Cell) (a : Nat) : List Byte → List Host.Cell
  | [] => m
  | b :: bs => Mem.writeN (Mem.write m a b) (a + 1) bs

/-- The little-endian value of `n` bytes from `a` on. -/
def Mem.readLE (m : List Host.Cell) (a n : Nat) : Nat := ofBytes (Mem.readN m a n)

/-! ### Registers -/

/-- Look `a` up in a list of registers. -/
def Regs.find (r : List (Nat × Word)) (a : Nat) : Option Word :=
  match r with
  | [] => none
  | (b, v) :: r => if b = a then some v else Regs.find r a

/-- Remove the entry at `a`. -/
def Regs.erase (r : List (Nat × Word)) (a : Nat) : List (Nat × Word) := r.filter fun p => p.1 != a

/-- Put an entry at `a`, by rising address. -/
def Regs.put (r : List (Nat × Word)) (a : Nat) (v : Word) : List (Nat × Word) :=
  match r with
  | [] => [(a, v)]
  | (b, w) :: r => if a < b then (a, v) :: (b, w) :: r else if a = b then (a, v) :: r else (b, w) :: Regs.put r a v

/-- Addresses strictly rising from `a` on, no entry equal to its reset value. -/
def Regs.wfFrom : Nat → List (Nat × Word) → Bool
  | _, [] => true
  | a, (b, v) :: r => decide (a ≤ b) && (v != resetVal b) && Regs.wfFrom (b + 1) r

/-- The canonical form of the register list. -/
def Regs.wf (r : List (Nat × Word)) : Bool := Regs.wfFrom 0 r

/-- The value of the register at `a`. -/
def State.reg (s : State) (a : Nat) : Word := (Regs.find s.regs a).getD (resetVal a)

/-- `s` with the register at `a` holding `v`. -/
def State.setReg (s : State) (a : Nat) (v : Word) : State :=
  { s with regs := if v = resetVal a then Regs.erase s.regs a else Regs.put s.regs a v }

/-- The value of a field. -/
def State.f (s : State) (x : Fld) : Nat := bitsOf (s.reg x.addr).toNat x.lo x.width

/-- `s` with a field set. -/
def State.setF (s : State) (x : Fld) (v : Nat) : State :=
  s.setReg x.addr (BitVec.ofNat 32 (setBits (s.reg x.addr).toNat x.lo x.width v))

/-- Is a one-bit field 1? -/
def State.on (s : State) (x : Fld) : Bool := s.f x = 1

/-- `s` with a one-bit field set to a truth value. -/
def State.setB (s : State) (x : Fld) (b : Bool) : State := s.setF x (bit b)

/-- Increment a counter field that wraps. -/
def State.incWrap (s : State) (x : Fld) (n : Nat := 1) : State := s.setF x (s.f x + n)

/-- Increment a counter field that saturates at all ones. -/
def State.incSat (s : State) (x : Fld) (n : Nat := 1) : State := s.setF x (min (s.f x + n) (2 ^ x.width - 1))

/-- The 64-bit value of the register pair whose low word is at `a` (R7). -/
def State.pair (s : State) (a : Nat) : Nat := (s.reg a).toNat + (s.reg (a + 4)).toNat * 2 ^ 32

/-- `s` with a register pair set. -/
def State.setPair (s : State) (a : Nat) (v : Nat) : State :=
  (s.setReg a (BitVec.ofNat 32 v)).setReg (a + 4) (BitVec.ofNat 32 (v / 2 ^ 32))

/-- Increment a 64-bit counter pair that wraps. -/
def State.incPair (s : State) (a : Nat) (n : Nat := 1) : State := s.setPair a (s.pair a + n)

/-- Return every register from `lo` up to, not including, `hi` to its reset value. -/
def State.resetRange (s : State) (lo hi : Nat) : State :=
  { s with regs := s.regs.filter fun p => !(decide (lo ≤ p.1) && decide (p.1 < hi)) }

/-! ### Free values and what leaves the block -/

/-- A free value `w` bits wide, and the state that has drawn it. -/
def State.draw (s : State) (w : Nat) : BitVec w × State := (Config.freeValue w s.free, { s with free := s.free + 1 })

/-- `s` after something left the block. -/
def State.emit (s : State) (o : Out) : State := { s with out := o :: s.out }

/-! ### Time -/

/-- Sample periods per microsecond at the programmed sample rate in force (R45, R196). -/
def State.ticksPerUs (s : State) : Nat := s.clk.rate / 10 ^ 12

/-- The tick counter. -/
def State.now (s : State) : Long := s.time.tick

/-- The label of sample `n` under the synchronising resets of a list, newest first; `later` is the label it would carry
after them all. -/
def labelBy (n : Nat) (later : Long) : List SyncPoint → Long
  | [] => later
  | p :: ps =>
    if p.sample ≤ n then p.label + BitVec.ofNat 64 (n - p.sample)
    else labelBy n (p.natural - BitVec.ofNat 64 (p.sample - n)) ps

/-- The label of the sample with count `n` (R50); one to come is labelled as the counter will reach it. -/
def State.labelOf (s : State) (n : Nat) : Long :=
  labelBy n (s.time.tick + BitVec.ofNat 64 n - BitVec.ofNat 64 s.time.samples) s.time.syncs

/-- The sample count of label `t` under the resets of a list, newest first; a label that a jump passes over gives its sync
tick (R52). -/
def sampleBy (t later : Nat) : List SyncPoint → Nat
  | [] => later
  | p :: ps =>
    if p.label.toNat ≤ t then p.sample + (t - p.label.toNat)
    else if p.natural.toNat ≤ t then p.sample
    else sampleBy t ((p.sample + t) - p.natural.toNat) ps

/-- The sample count of the sample labelled `t`; a label in a jump gives its sync tick. -/
def State.sampleOf (s : State) (t : Long) : Nat :=
  sampleBy t.toNat ((s.time.samples + t.toNat) - s.time.tick.toNat) s.time.syncs

/-- Does a synchronising reset have its sync tick at sample `n`? -/
def State.syncAt (s : State) (n : Nat) : Bool := s.time.syncs.any fun p => p.sample = n

/-- `SEC_TICK_NOW` (R37): the tick of the first sample of the newest block at the tower deskew output, plus 384.  A
block is there 384 sample periods after its last sample. -/
def State.tickNow (s : State) : Long :=
  match s.rst.sleepTick with
  | some t => t
  | none => if s.time.samples < 448 then 0 else s.labelOf ((s.time.samples - 447) / 64 * 64) + 384

/-! ### Pins -/

/-- Recompute `FAULT_N` (R441): low in power-on reset, in Fog-signal mode, with ACLK lost, or while EVT holds it. -/
def State.updFault (s : State) : State :=
  let low := s.pins.por || s.f F.PWR_STATUS_STATE = 4 || !s.on F.CLK_STATUS_ACLK_OK || s.on F.EVT_FAULT_ACTIVE
  if s.pins.faultN = !low then s
  else { s with pins := { s.pins with faultN := !low } }.emit (.pin "FAULT_N" (!low))

/-! ### Events -/

/-- Indices the spec names as defined (R480): no other source is ever raised. -/
def evtDefined (i : Nat) : Bool :=
  i ≤ 5 || (8 ≤ i && i ≤ 20) || (24 ≤ i && i ≤ 36) || (40 ≤ i && i ≤ 53) || (64 ≤ i && i ≤ 77) || (80 ≤ i && i ≤ 97) ||
  (104 ≤ i && i ≤ 109) || (116 ≤ i && i ≤ 140) || (156 ≤ i && i ≤ 164) || (168 ≤ i && i ≤ 231) ||
  (240 ≤ i && i ≤ 293) || (296 ≤ i && i ≤ 306) || (308 ≤ i && i ≤ 313)

/-- EVT is in reset: power-on reset, `RESET_N` or `PERST_N` asserted (R486). -/
def State.evtReset (s : State) : Bool := s.pins.por || !s.pins.resetN || !s.pins.perstN

/-- Bit `i` of the pending words. -/
def evtPend (i : Nat) : Fld := ⟨(F.EVT_PEND_w_PEND (i / 32)).addr, i % 32, 1⟩

/-- Bit `i` of the saturation words. -/
def evtSat (i : Nat) : Fld := ⟨(F.EVT_SAT_w_SAT (i / 32)).addr, i % 32, 1⟩

/-- Bit `v` of the MSI-X pending bit array. -/
def pbaBit (v : Nat) : Fld := ⟨(F.MSIX_PBA_w_PBA (v / 32)).addr, v % 32, 1⟩

/-- Value listed for `k`. -/
def lookupNat (l : List (Nat × Nat)) (k : Nat) : Option Nat :=
  match l with
  | [] => none
  | (a, v) :: l => if a = k then some v else lookupNat l k

/-- `l` with `v` listed for `k`. -/
def putNat (l : List (Nat × Nat)) (k v : Nat) : List (Nat × Nat) :=
  (k, v) :: l.filter (fun p => p.1 != k)

/-- Send the message of vector `v`, or hold it under the masks (R483). -/
def State.msixSend (s : State) (v : Nat) : State :=
  if !s.evt.msixEnable then s
  else if s.evt.funcMask || s.on (F.MSIX_v_CTRL_MASK v) then s.setB (pbaBit v) true
  else
    let s := s.setB (pbaBit v) false
    { s with evt := { s.evt with lastMsg := putNat s.evt.lastMsg v s.time.samples } }.emit (.msix v)

/-- Is vector `v` inside its minimum gap (R483)? -/
def State.inGap (s : State) (v : Nat) : Bool :=
  match lookupNat s.evt.lastMsg v with
  | none => false
  | some t => s.time.samples < t + s.f (F.EVT_VEC_v_MIN_GAP v) * s.ticksPerUs

/-- Vector `v` is triggered (R483): its message is deferred inside the minimum gap, else sent or held. -/
def State.trigger (s : State) (v : Nat) : State :=
  if !s.evt.msixEnable then s
  else if s.on (F.EVT_VEC_v_DEFERRED v) then s
  else if s.inGap v then s.setB (F.EVT_VEC_v_DEFERRED v) true
  else s.msixSend v

/-- Recompute `EVT_FAULT.ACTIVE` (R484): any source with `FAULT_EN` pending. -/
def State.updEvtFault (s : State) : State :=
  let act := (List.range 314).any fun i => s.on (evtPend i) && s.on (F.EVT_ROUTE_i_FAULT_EN i)
  (s.setB F.EVT_FAULT_ACTIVE act).updFault

/-- The mode of GPIO pin `n` under EVT (R485). -/
def gpioMode (n : Nat) : Fld := ⟨F.EVT_GPIO_MODE_MODE0.addr, 2 * n, 2⟩

/-- Count an occurrence of source `i` (R481 step 1): the count saturates, and the occurrence that brings it to FFFFh sets
the saturation bit.  The truth value says that this was that occurrence. -/
def State.evtCount (s : State) (i : Nat) : State × Bool :=
  let c := s.f (F.EVT_CNT_i_COUNT i)
  if c = 0xFFFF then (s, false)
  else
    let s := s.setF (F.EVT_CNT_i_COUNT i) (c + 1)
    if c + 1 = 0xFFFF then (s.setB (evtSat i) true, true) else (s, false)

/-- Set the pending bit of source `i` and act on its routing (R481 steps 2 and 3, R483 to R485). -/
def State.evtRoute (s : State) (i : Nat) : State :=
  let was := s.on (evtPend i)
  let s := s.setB (evtPend i) true
  let s := if !was && s.on (F.EVT_ROUTE_i_MSIX_EN i) then s.trigger (s.f (F.EVT_ROUTE_i_VECTOR i)) else s
  let s := if s.on (F.EVT_ROUTE_i_FAULT_EN i) then (s.setB F.EVT_FAULT_ACTIVE true).updFault else s
  let n := s.f (F.EVT_ROUTE_i_GPIO i)
  if s.on (F.EVT_ROUTE_i_GPIO_EN i) && s.f (gpioMode n) = 2 then
    { s with evt := { s.evt with gpioPulse := s.evt.gpioPulse ||| BitVec.ofNat 16 (2 ^ n) } }
  else s

/-- One occurrence of source `i` without the saturation event. -/
def State.raise1 (s : State) (i : Nat) : State := (s.evtCount i).1.evtRoute i

/-- One occurrence of event source `i` reaches EVT (R481).  `DEV_CNT_SAT` (5) follows a first saturation; when its own
counter saturates, it is raised once more, now uncounted. -/
def State.raise (s : State) (i : Nat) : State :=
  if s.evtReset || !evtDefined i then s
  else
    let p := s.evtCount i
    let s := p.1.evtRoute i
    if p.2 then
      let q := s.evtCount 5
      let s := q.1.evtRoute 5
      if q.2 then s.evtRoute 5 else s
    else s

/-- May a source limited to one occurrence per `us` microseconds be raised? -/
def State.mayRaise (s : State) (i us : Nat) : Bool :=
  match lookupNat s.evt.lastRaise i with
  | none => true
  | some t => t + us * s.ticksPerUs ≤ s.time.samples

/-- An occurrence the source's block limits to one per `us` microseconds. -/
def State.raiseLimited (s : State) (i us : Nat) : State :=
  if s.mayRaise i us then { s with evt := { s.evt with lastRaise := putNat s.evt.lastRaise i s.time.samples } }.raise i else s

/-- Set a one-bit field whose change from 0 to 1 raises event `i`. -/
def State.setBRaise (s : State) (x : Fld) (i : Nat) : State :=
  if s.on x then s else (s.setB x true).raise i

/-! ### Records -/

namespace Flag
/-- `FLAGS` bits of R364. -/
def ovr : BitVec 24 := 1#24 <<< 0
def settle : BitVec 24 := 1#24 <<< 1
def trunc : BitVec 24 := 1#24 <<< 2
def calswap : BitVec 24 := 1#24 <<< 3
def clklost : BitVec 24 := 1#24 <<< 4
def gap : BitVec 24 := 1#24 <<< 5
def sat : BitVec 24 := 1#24 <<< 6
def forced : BitVec 24 := 1#24 <<< 7
def prelost : BitVec 24 := 1#24 <<< 8
def frozen : BitVec 24 := 1#24 <<< 9
def spill : BitVec 24 := 1#24 <<< 10
def trimPending : BitVec 24 := 1#24 <<< 11
def suspect : BitVec 24 := 1#24 <<< 12
def memerr : BitVec 24 := 1#24 <<< 13
def backstep : BitVec 24 := 1#24 <<< 14
def wrap : BitVec 24 := 1#24 <<< 15
def refAbsent : BitVec 24 := 1#24 <<< 16
def lateAffected : BitVec 24 := 1#24 <<< 17
end Flag

/-- The fault flags of R26. -/
def faultFlags : BitVec 24 :=
  Flag.clklost ||| Flag.gap ||| Flag.memerr ||| Flag.suspect ||| Flag.refAbsent ||| Flag.lateAffected |||
  Flag.trimPending ||| Flag.trunc ||| Flag.prelost

/-- Is flag `m` set in `f`? -/
def hasFlag (f m : BitVec 24) : Bool := (f &&& m) != 0

/-- The samples of channel `ch` from `a` up to, not including, `b`, with every flag. -/
def coverOf (ch a b : Nat) : Cover := { ch := ch, first := a, end_ := b, mask := BitVec.allOnes 24 }

/-- `m` when `b`, else no flag. -/
def flagIf (b : Bool) (m : BitVec 24) : BitVec 24 := if b then m else 0

/-- `GAP` on the first output of a unit after a per-block reset (R428): 0, 1 FLT by channel, 2, 3 LNS, 4 SEC, 5 IVU. -/
def State.gapFlag (s : State) (b : Nat) : BitVec 24 := flagIf (s.rst.gapNext.contains b) Flag.gap

/-- That output has been made. -/
def State.gapDone (s : State) (b : Nat) : State :=
  { s with rst := { s.rst with gapNext := s.rst.gapNext.filter (· != b) } }

/-- A record with the fields every producer gives; the stream engine fills the rest (R371). -/
def mkRecord (typ source : Nat) (flags : BitVec 24) (tick : Long) (param : Nat) (payload : List Byte) (due : Nat) :
    Record :=
  { typ := typ, source := source, flags := flags, seq := 0, stream := 0, tick := tick, frac := 0, anchor := 0,
    trigTick := 0, param := BitVec.ofNat 64 param, drop := 0, payload := payload, pieces := [], cover := [], staged := false, due := due }

/-- The state of stream `k`: 0 FREE, 1 ADMITTED, 2 ENABLED, 3 STOPPED (R366). -/
def State.strState (s : State) (k : Nat) : Nat := s.f (F.STR_s_STATUS_STATE k)

/-- The `STREAM_EN` operand for records with this tick, by the entries applied (R130, R366, R367). -/
def opAt (hist : List (Long × Word)) (tick : Long) : Word :=
  match hist with
  | [] => 0
  | (t, op) :: r => if t.toNat ≤ tick.toNat then op else opAt r tick

/-- Does stream `k` take a record of source bit `b` with this tick (R366, R367)? -/
def State.takes (s : State) (k : Fin 64) (b : Nat) (tick : Long) : Bool :=
  let op := opAt (s.streams[k]).hist tick
  op.getLsbD 0 && op.getLsbD b

/-- Change stream `k`'s own state. -/
def State.modStream (s : State) (k : Fin 64) (g : Stream → Stream) : State :=
  { s with streams := s.streams.set k (g s.streams[k]) }

/-- Count a dropped record of stream `k` (R375). -/
def State.countDrop (s : State) (k : Fin 64) (n : Nat := 1) : State :=
  let s := s.setPair (A.STR_s_DROPS_LO k) (min (s.pair (A.STR_s_DROPS_LO k) + n) (2 ^ 64 - 1))
  (s.modStream k fun t => { t with dropsSince := min (t.dropsSince + n) (2 ^ 64 - 1) }).raiseLimited 243 1000

/-- Stream `k` selects a record (R371): it gets the next `SEQ`; a stopped stream drops it (R366). -/
def State.take (s : State) (r : Record) (k : Fin 64) : State :=
  let q := s.pair (A.STR_s_SEQ_LO k)
  let sus := flagIf (s.on F.STR_ANCHOR_STATUS_SUSPECT) Flag.suspect
  let s := s.setPair (A.STR_s_SEQ_LO k) ((q + 1) % 2 ^ 48)
  if s.strState k = 3 then s.countDrop k
  else s.modStream k fun t =>
    { t with formed := t.formed ++ [{ r with seq := q, stream := k, flags := r.flags ||| sus }],
             wrapSeq := t.wrapSeq || decide (q + 1 = 2 ^ 48) }

/-- Offer a record of source bit `b` to the streams of a list. -/
def State.offerTo (s : State) (b : Nat) (r : Record) : List (Fin 64) → State
  | [] => s
  | k :: ks => (if s.takes k b r.tick then s.take r k else s).offerTo b r ks

/-- Offer a record of source bit `b` to every stream (R367). -/
def State.offer (s : State) (b : Nat) (r : Record) : State := s.offerTo b r (List.finRange 64)

/-- Put a record into every enabled stream of a list (anchors and markers, R367). -/
def State.toEnabled (s : State) (r : Record) : List (Fin 64) → State
  | [] => s
  | k :: ks => (if s.strState k = 2 then s.take r k else s).toEnabled r ks

/-- A status marker (TYPE 09h) into every enabled stream (R363, R367). -/
def State.marker (s : State) (source : Nat) (tick : Long) (param : Nat) (flags : BitVec 24 := 0) : State :=
  s.toEnabled (mkRecord 9 source flags tick param [] (s.sampleOf tick + 64000)) (List.finRange 64)

/-! ### Sector events and marks on samples -/

/-- Does block `b` take input: its reset machine is idle (R427, R428)? -/
def State.blockRuns (s : State) (b : Fin 13) : Bool := s.rst.blocks[b] == .idle

/-- Do the front ends and the converter slices stand still (R429)?  After the stop of acquisition, and in Fog-signal mode. -/
def State.slicesOff (s : State) : Bool := s.rst.paused.isSome || decide (s.f F.PWR_STATUS_STATE = 4)

/-- Do the pipeline units run (R429)?  In ACTIVE and WATCH, and from Q on where a transition there is still to end (R432); not
while `PERST_N` holds the tower die in reset (R426). -/
def State.pipeRuns (s : State) : Bool :=
  !s.rst.dieHeld &&
  (decide (s.f F.PWR_STATUS_STATE ≤ 1) || (decide (s.f F.PWR_STATUS_STATE ≤ 3) && s.rst.paused.isNone && s.rst.trans.isSome))

/-- An event of Sector source `src` at sample `n` starts on its way to the reorder buffers (R258, R268). -/
def State.secEvent (s : State) (src n frac : Nat) (flags : BitVec 24) (prog : Option Nat := none)
    (bin : Option (Int × Int) := none) (last : Nat := n) (ch : Option (Fin 2) := none)
    (from_ : Nat := n) : State :=
  if !s.blockRuns 5 then s
  else { s with sec := { s.sec with
      waiting := s.sec.waiting ++
        [{ src := src, prog := prog, n := n, frac := frac, flags := flags, bin := bin, last := last, ch := ch,
           from_ := from_ }] } }

/-- Change channel `ch` of the lamp. -/
def State.modLamp (s : State) (ch : Fin 2) (g : Lamp → Lamp) : State :=
  { s with lamp := s.lamp.set ch (g (s.lamp.get ch)) }

/-- Does a mark touch the samples from `a` up to, not including, `b`? -/
def Mark.touches (m : Mark) (a b : Nat) : Bool :=
  decide (m.first < b) && (match m.end_ with
    | none => true
    | some e => decide (a < e))

/-- Flags of the marks that touch the samples from `a` up to, not including, `b` (R149). -/
def marksOn (l : List Mark) (a b : Nat) : BitVec 24 :=
  l.foldl (fun f m => if m.touches a b then f ||| m.flags else f) 0

/-- Does the window touch the labels from `a` to `b`? -/
def Window.touches (w : Window) (a b : Long) : Bool :=
  decide (w.from_.toNat ≤ b.toNat) && (match w.end_ with
    | none => true
    | some e => decide (a.toNat < e.toNat))

/-- `LATE_AFFECTED` for outputs of unit `u` labelled from `a` to `b` (R134). -/
def State.lateIn (s : State) (u : Nat) (a b : Long) : BitVec 24 :=
  flagIf (s.tl.windows.any fun w => decide (w.unit = u) && w.touches a b) Flag.lateAffected

/-- `LATE_AFFECTED` for an output of unit `u` labelled `t` (R134). -/
def State.lateFlag (s : State) (u : Nat) (t : Long) : BitVec 24 := s.lateIn u t t

/-- Flags of the samples of channel `ch` from `a` up to, not including, `b`: those of every lamp block that holds one of
them (R149); `LATE_AFFECTED` under a window of the channel's lamp unit or of calibration (R134). -/
def State.sampleFlags (s : State) (ch : Fin 2) (a b : Nat) : BitVec 24 :=
  let x := s.labelOf a
  let y := s.labelOf (b - 1)
  marksOn (s.lamp.get ch).marks (a / 64 * 64) ((b + 63) / 64 * 64) ||| s.lateIn ch.val x y ||| s.lateIn 11 x y

/-- Lay flags on the samples of channel `ch` from `a` on, up to `e` when it is given. -/
def State.addMark (s : State) (ch : Fin 2) (a : Nat) (e : Option Nat) (f : BitVec 24) : State :=
  s.modLamp ch fun l => { l with marks := { first := a, end_ := e, flags := f } :: l.marks }

/-- End the open marks with flags `f` at `e`. -/
def State.endMark (s : State) (ch : Fin 2) (e : Nat) (f : BitVec 24) : State :=
  s.modLamp ch fun l => { l with marks := l.marks.map fun m =>
    if m.flags = f && m.end_.isNone then { m with end_ := some e } else m }

/-- A mark without the samples from `a` up to, not including, `b`. -/
def Mark.without (m : Mark) (a b : Nat) : List Mark :=
  if !m.touches a b then [m]
  else
    (if m.first < a then [{ m with end_ := some a }] else []) ++
    (match m.end_ with
     | none => [{ m with first := b }]
     | some e => if b < e then [{ m with first := b }] else [])

/-- Samples that the tower inserts for lost ones carry `GAP` and no other flag (R208). -/
def State.gapMark (s : State) (ch : Fin 2) (a b : Nat) : State :=
  s.modLamp ch fun l =>
    { l with marks := { first := a, end_ := some b, flags := Flag.gap } :: l.marks.flatMap fun m => m.without a b }

/-! ### Restart of a filter chain (R224, R225): shared by synchronising resets and the entries of units 2 and 3 -/

/-- Address of the mirror of selector `sel` of filter chain `ch` (R234). -/
def fltMirror (ch : Fin 2) (sel : Nat) : Nat := 0x640000 + ch.val * 0x40000 + 4 * sel

/-- Change a filter chain. -/
def State.modFlt (s : State) (ch : Fin 2) (g : Flt → Flt) : State := { s with flt := s.flt.set ch (g (s.flt.get ch)) }

/-- The NCO frequency word stored. -/
def State.ncoStored (s : State) (ch : Fin 2) : Nat := s.pair (fltMirror ch 0)

/-- Full span stored (R220). -/
def State.fltFull (s : State) (ch : Fin 2) : Bool := (s.reg (fltMirror ch 4)).getLsbD 0

/-- Decimation exponent in force for new inputs: 1 under full span (R220, R221). -/
def State.fltK (s : State) (ch : Fin 2) : Nat :=
  if s.fltFull ch then 1 else bitsOf (s.reg (fltMirror ch 3)).toNat 0 5

/-- The NCO frequency that acts (R220, R231). -/
def State.ncoActs (s : State) (ch : Fin 2) : Nat := if s.fltFull ch then 2 ^ 46 else s.ncoStored ch

/-- The grid a restart at sample `r` starts: cleared state, accumulator 0 (R218, R224). -/
def State.newGrid (s : State) (ch : Fin 2) (r : Nat) : FGrid :=
  let full := s.fltFull ch
  { origin := r, end_ := none, k := s.fltK ch, full := full, nco := [(r, 0, s.ncoActs ch)],
    phase := [(r, if full then 0 else bitsOf (s.reg (fltMirror ch 2)).toNat 0 16)], steps := [], next := r, made := 0,
    outs := [] }

/-- An old grid: settings that act from `r` on are not its own (R224).  A phase step there still marks the outputs whose
support holds it (R219). -/
def FGrid.cut (g : FGrid) (r : Nat) : FGrid :=
  { g with end_ := some r, nco := g.nco.filter fun x => x.1 < r, phase := g.phase.filter fun x => x.1 < r }

/-- Log the values that an IQ record shows from sample `n` on, when one changed (R368). -/
def State.fltLog (s : State) (ch : Fin 2) (n : Nat) : State :=
  let v := (s.fltFull ch, bitsOf (s.reg (fltMirror ch 8)).toNat 0 4, s.ncoActs ch)
  let l := (s.flt.get ch).log
  let same := match l with
    | x :: _ => decide (x.2 = v)
    | [] => false
  if same then s
  else s.modFlt ch fun f => { f with log := ((n, v) :: l.filter fun x => x.1 != n).take 4096 }

/-- Put the last grid of a list at its end, and a new one after it; one that starts at the same element is replaced. -/
def restartGrids (new : FGrid) : List FGrid → List FGrid
  | [] => [new]
  | [g] =>
    let steps := g.steps.filter fun t => decide (new.origin ≤ t)
    if g.origin = new.origin then [{ new with steps := steps }] else [g.cut new.origin, { new with steps := steps }]
  | g :: gs => g :: restartGrids new gs

/-- `SETTLE` outputs of the grid's start are still to come (R224). -/
def FGrid.settling (g : FGrid) : Bool :=
  g.k != 0 && decide (g.made < 40) && (match g.end_ with
    | none => true
    | some e => decide (g.next < e))

/-- Show whether `SETTLE` outputs of a restart are still being produced, in the newest grid or an older one (R235). -/
def State.fltSettling (s : State) (ch : Fin 2) : State :=
  s.setB (F.FLT_n_STATUS_SETTLING ch) ((s.flt.get ch).grids.any FGrid.settling)

/-- A restart of chain `ch` at sample `r`, under the settings stored (R224).  A second one at the same element makes no
other (R225). -/
def State.fltRestart (s : State) (ch : Fin 2) (r : Nat) : State :=
  let new := s.newGrid ch r
  let again := match (s.flt.get ch).grids.getLast? with
    | some g => decide (g.origin = r)
    | none => false
  let s := (s.modFlt ch fun f => { f with grids := restartGrids new f.grids }).fltLog ch r
  let s := (s.setF (F.FLT_n_STATUS_K_EFF ch) new.k).setB (F.FLT_n_STATUS_FULL ch) new.full
  let s := (s.fltSettling ch).setPair (A.FLT_n_RESTART_LO ch) (s.labelOf r).toNat
  if again then s else (s.incSat (F.FLT_n_RESTARTS_COUNT ch)).raise (94 + 12 * ch.val)

/-- The restart of a chain that a synchronising reset makes at its sync tick `r`; a chain without input yet has none. -/
def State.fltSync (s : State) (ch : Fin 2) (r : Nat) : State :=
  if (s.flt.get ch).grids.isEmpty then s else s.fltRestart ch r

/-! ### Time moving on -/

/-- A bit of `SEC_RANGE_STATUS` [6:0] is set; the change from 0 raises `RANGE_STATUS` (R55). -/
def State.rangeBit (s : State) (b : Nat) : State := s.setBRaise ⟨A.SEC_RANGE_STATUS, b, 1⟩ 139

/-- The resets of a list made at one sync tick (R50, R53): the value is `SEC_RANGE_LOAD` when a pulse is among them,
else that of the latest `RESYNC`. -/
def State.syncValue (s : State) (w : List PendingSync) : Long :=
  if w.any (·.pulse) then BitVec.ofNat 64 (s.pair A.SEC_RANGE_LOAD_LO)
  else match w.getLast? with
    | some x => x.value
    | none => 0

/-- The phase that a C2 stamp gives for the REFIN edge at `edge` (R54, R290): the stamp is the interval unit's own measure of the
edge, within one SCLK period of it.  None where no edge was stamped. -/
def State.refPhase (s : State) (edge : Nat) : Option Nat :=
  (s.ivu.refs.find? fun r => decide (r < edge + 16 * 1024) && decide (edge < r + 16 * 1024)).map fun r => (1024 - r % 1024) % 1024

/-- The phase register after the sync of a pulse (R54, R50). -/
def State.syncPhase (s : State) (w : List PendingSync) : State :=
  match w.find? (·.pulse) with
  | none => s
  | some x =>
    let s := if s.on F.SEC_RANGE_CTRL_MODE then s else s.setB F.SEC_RANGE_CTRL_ARM false
    match x.edge.bind s.refPhase with
    | some p => (s.setF F.SEC_RANGE_PHASE_PHASE p).setB F.SEC_RANGE_PHASE_VALID true
    | none => s.setB F.SEC_RANGE_PHASE_VALID false

/-- The source 35 events of the pulses of a list, at sample `n` (R258): `FRAC` is the phase measured, else what
`SEC_RANGE_PHASE` shows (log entry 120). -/
def State.pulseEvents (s : State) (n : Nat) : List PendingSync → State
  | [] => s
  | x :: xs =>
    (if x.pulse then s.secEvent 35 n ((x.edge.bind s.refPhase).getD (s.f F.SEC_RANGE_PHASE_PHASE)) 0 else s).pulseEvents n xs

/-- The synchronising reset that the resets `w` make at the present sample (R50): refused when its value lies below the
natural count; else the sample is labelled V, the registers show it and the marker of R52 (SOURCE 91h) is emitted. -/
def State.syncNow (s : State) (w : List PendingSync) : State :=
  let v := s.syncValue w
  let nat := s.time.tick
  let s := { s with time := { s.time with metAt := some s.time.samples } }
  let s := if 1 < w.length then s.rangeBit 3 else s
  if v.toNat < nat.toNat then ((s.rangeBit 1).raise 140).pulseEvents s.time.samples w
  else
    let s := { s with time := { s.time with
      tick := v, syncs := { sample := s.time.samples, natural := nat, label := v } :: s.time.syncs } }
    let s := ((s.syncPhase w).pulseEvents s.time.samples w).setPair A.SEC_RANGE_NAT_LO nat.toNat
    let s := { s with tth := { s.tth with jump := s.time.syncs.head?, jumpSeen := false } }
    let s := (s.incSat F.SEC_RANGE_STATUS_SYNCS).rangeBit 0
    let s := if s.on F.CLK_STATUS_SC_LOCKED then s.setB F.STR_ANCHOR_STATUS_SUSPECT false else s
    let s := (s.fltSync 0 s.time.samples).fltSync 1 s.time.samples
    s.marker 0x91 v nat.toNat

/-- Does the lamp block of sample `n` hold a sync tick already (R50)? -/
def State.blockSynced (s : State) (n : Nat) : Bool := s.time.syncs.any fun p => p.sample / 64 = n / 64

/-- The `RESYNC` entries of the lamp-side store whose tick is `t` or earlier, as resets at sample `n`, in queue order: each
has the load value that the entries before it leave (R50, R125, R131). -/
def resyncAhead (n t : Nat) : (lo v : Nat) → List Entry → List PendingSync
  | _, _, [] => []
  | lo, v, e :: q =>
    if e.imm || e.phase != .stored || decide (t < e.target.toNat) then resyncAhead n t lo v q
    else match e.sel with
      | 0 => resyncAhead n t e.opnd.toNat v q
      | 1 => resyncAhead n t lo (lo + e.opnd.toNat * 2 ^ 32) q
      | 2 => { pulse := false, value := BitVec.ofNat 64 v, at_ := n, edge := none } :: resyncAhead n t lo v q
      | _ => resyncAhead n t lo v q

/-- The `RESYNC` entries that meet on the present sample (R50, R53). -/
def State.resyncsHere (s : State) : List PendingSync :=
  let lo := match s.tl.lo.find? (·.1 = 14 * 2 ^ 20) with
    | some p => p.2.toNat
    | none => 0
  resyncAhead s.time.samples s.time.tick.toNat lo (s.pair A.SEC_IO_RESYNC_V_LO) s.tl.queues[(14 : Fin 15)]

/-- Make or defer the resets due at the present sample (R50): at most one in one lamp block.  Entries of the same tick
join the reset. -/
def State.syncDue (s : State) : State :=
  let n := s.time.samples
  let due := s.time.waiting.filter fun x => x.at_ = n
  if due.isEmpty then s
  else
    let rest := s.time.waiting.filter fun x => x.at_ != n
    if s.blockSynced n then
      let late := due.map fun (x : PendingSync) => { x with at_ := (n / 64 + 1) * 64, edge := none }
      ({ s with time := { s.time with waiting := rest ++ late } }).rangeBit 5
    else ({ s with time := { s.time with waiting := rest } }).syncNow (due ++ s.resyncsHere)

end Sys2Proof.Machine
end

