-- ==== Sys2Proof/Machine/TlOps.lean ====
section
/-! DEFINITION. The timeline queues as the units see them: selectors (R126), markers (R132), affected windows (R134),
and the application of a queue's next entry (R129 to R136). -/

namespace Sys2Proof.Machine
open Sys2Proof

/-- Scalar selectors of unit `u` (R126). -/
def scalarSel (u sel : Nat) : Bool :=
  match u with
  | 0 | 1 => sel ≤ 4
  | 2 | 3 => sel ≤ 8
  | 4 | 5 => sel ≤ 9
  | 6 => sel ≤ 0x13 || (0x20 ≤ sel && sel ≤ 0x28) || sel = 0x30 || sel = 0x31
  | 7 => sel ≤ 4
  | 8 => sel ≤ 4
  | 9 => sel ≤ 3
  | 10 => sel ≤ 0x3F || sel = 0x100
  | 11 => sel ≤ 2
  | 12 => sel ≤ 1
  | 13 => sel ≤ 0x7F
  | 14 => sel ≤ 6
  | _ => false

/-- Bytes of the table that selector `sel` of unit `u` names; 0 where it names none (R126). -/
def tableSize (u sel : Nat) : Nat :=
  match u with
  | 4 | 5 => if sel = 0x10000 then 131072 else 0
  | 6 => if 0x10000 ≤ sel && sel ≤ 0x1000F then 16384 else if 0x10010 ≤ sel && sel ≤ 0x10013 then 4096 else 0
  | 7 => if sel = 0x10000 then 4096 else 0
  | _ => 0

/-- Is `sel` the `_LO` half of a 64-bit parameter of unit `u` (R125)? -/
def isLoSel (u sel : Nat) : Bool :=
  match u with
  | 2 | 3 => sel = 0
  | 6 => sel = 0x20 || sel = 0x22 || sel = 0x24 || sel = 0x26
  | 14 => sel = 0
  | _ => false

/-- The pair key of a selector: both halves of a 64-bit parameter share the `_HI` selector (R134). -/
def pairSel (u sel : Nat) : Nat := if isLoSel u sel then sel + 1 else sel

/-- Units whose entries travel to the lamp die and are counted until it reports them: 0, 1 and 11 with every entry,
unit 14 with all but `XTRIG_CTRL` (R129, R284). -/
def lampSide (u sel : Nat) : Bool := u = 0 || u = 1 || u = 11 || (u = 14 && sel ≤ 5)

/-- Bit `u` of `KPR_TL_AFFECT`. -/
def affectBit (u : Nat) : Fld := ⟨A.KPR_TL_AFFECT, u, 1⟩

/-- Recompute the bit of unit `u` in `KPR_TL_AFFECT`. -/
def State.updAffect (s : State) (u : Nat) : State :=
  s.setB (affectBit u) (s.tl.windows.any fun w => w.unit = u && w.end_.isNone)

/-- Open an affected window (R134). -/
def State.openWindow (s : State) (u sel : Nat) (t : Long) : State :=
  ({ s with tl := { s.tl with windows := ⟨u, pairSel u sel, t, none⟩ :: s.tl.windows } }).updAffect u

/-- Close the windows of a pair at the element labelled `t` (R134). -/
def State.closeWindow (s : State) (u sel : Nat) (t : Long) : State :=
  ({ s with tl := { s.tl with windows := s.tl.windows.map fun (w : Window) =>
      if w.unit = u && w.sel = pairSel u sel && w.end_.isNone then { w with end_ := some t } else w } }).updAffect u

/-- The status marker of R132: code 1 LATE, 2 IMM applied, 3 refused. -/
def State.tlMarker (s : State) (u sel code : Nat) (t : Long) : State :=
  s.marker (0x80 + u) t (sel + u * 2 ^ 20 + code * 2 ^ 32)

/-- Entries of a queue that its registers count (R142). -/
def counted (q : List Entry) : Nat := (q.filter fun e => !e.kept).length

/-- `KPR_TLQ_u_LEVEL` shows the entries of the queue. -/
def State.updLevel (s : State) (u : Fin 15) : State := s.setF (F.KPR_TLQ_u_LEVEL_LEVEL u) (counted s.tl.queues[u])

/-- `LMP_PENDING` shows the entries in the lamp-side stores of units 0 and 1 (R164). -/
def State.updPending (s : State) : State :=
  let count (u : Fin 15) : Nat := ((s.tl.queues[u]).filter fun e => e.phase == .stored).length
  (s.setF F.LMP_PENDING_PEND_A (count 0)).setF F.LMP_PENDING_PEND_B (count 1)

/-- The tower sends a return packet with the next sequence number, in `times` successive return frames; until the lamp
acknowledges it, it may be sent again (R207, R210, R211). -/
def State.sendRet (s : State) (kind : RetKind) (times : Nat := 1) : State :=
  { s with tth := { s.tth with
      unacked := s.tth.unacked ++ [{ seq := s.tth.retSeq, kind := kind, sentAt := none, due := times, got := false }],
      retSeq := (s.tth.retSeq + 1) % 65536 } }

/-- Replace the queue of unit `u`. -/
def State.setQueue (s : State) (u : Fin 15) (q : List Entry) : State :=
  (({ s with tl := { s.tl with queues := s.tl.queues.set u q } }).updLevel u).updPending

/-- What R128 does with a LATE entry: count, target, event, window and marker. -/
def State.markLate (s : State) (u sel : Nat) (t : Long) : State :=
  let s := (s.incSat (F.KPR_TLQ_u_ERRS_LATE u)).setF (F.KPR_TLQ_u_LATE_T_LO_LATE_T u) t.toNat
  ((s.raise 183).openWindow u sel t).tlMarker u sel 1 t

/-- The load an entry waits for. -/
def State.loadOf (s : State) (e : Entry) : Option TlLoad :=
  match e.table with
  | none => none
  | some i => s.tl.loads.find? (·.id = i)

/-- Has the copy of the entry's load finished?  True of a scalar entry. -/
def State.loaded (s : State) (e : Entry) : Bool :=
  match e.table with
  | none => true
  | some _ => match s.loadOf e with
    | some l => l.done
    | none => false

/-- Remove the load of an entry: its shadow is applied or discarded. -/
def State.dropLoad (s : State) (e : Entry) : State :=
  match e.table with
  | none => s
  | some i => { s with tl := { s.tl with loads := s.tl.loads.filter fun l => l.id != i } }

/-- Entries that hold nothing behind them: those on their way to the lamp, those it has already dealt with, and IMM loads
still copying (R133, R162). -/
def State.passedOver (s : State) (e : Entry) : Bool :=
  e.phase == .transit || e.phase == .reported || (e.imm && !s.loaded e)

/-- Split a queue at its next entry. -/
def splitNext (skip : Entry → Bool) : List Entry → Option (List Entry × Entry × List Entry)
  | [] => none
  | e :: q =>
    if skip e then
      match splitNext skip q with
      | none => none
      | some (a, x, b) => some (e :: a, x, b)
    else some ([], e, q)

/-- Do two entries of a unit's queue act at different stages of the unit, so that neither holds the other back?  In unit 6 the
masks and programs act on data as it comes, and the other selectors on labels as they are decided (R130, R282). -/
def apart (u : Nat) (x y : Nat) : Bool :=
  let data (sel : Nat) : Bool := decide (sel < 0x14) || decide (0x10000 ≤ sel)
  decide (u = 6) && (data x != data y)

/-- The next entry of unit `u` for the stage at which entries with selector `sel` act. -/
def State.nextEntry (s : State) (u : Fin 15) (sel : Nat) : Option (List Entry × Entry × List Entry) :=
  splitNext (fun e => s.passedOver e || apart u e.sel sel) (s.tl.queues[u])

/-- An entry leaves its queue when applied, refused or found late: `DONE` counts it at once for a tower unit, and when
the lamp reports it for a lamp-side entry (R129). -/
def State.finishEntry (s : State) (u : Fin 15) (a : List Entry) (e : Entry) (b : List Entry) : State :=
  if lampSide u e.sel then s.setQueue u (a ++ { e with phase := .reported } :: b)
  else (s.setQueue u (a ++ b)).incWrap (F.KPR_TLQ_u_DONE_DONE u)

/-- Entries whose element is the sample of the target itself (R130): of the units whose input is every sample, and those of unit
6 that act on labels as they are decided. -/
def everySample (u sel : Nat) : Bool :=
  u ≤ 3 || u = 9 || u = 11 || u = 14 || (u = 6 && decide (0x20 ≤ sel) && decide (sel ≤ 0x31))


/-- The newest sample at the input of a tower unit when the converter has come to sample `n` (R40): the lamp and the Tether
take 384 ticks; 0 before the first. -/
def towerInput (n : Nat) : Nat := n - 384

/-- The block of `RST_BLOCK_REQ` that applies the entries of unit `u` (R427, R443). -/
def blockOfUnit (u sel : Nat) : Fin 13 :=
  match u with
  | 0 | 1 => 0
  | 2 | 3 => 3
  | 4 | 5 => 4
  | 6 => 5
  | 7 => 7
  | 8 => 6
  | 9 => 9
  | 10 => 10
  | 11 => 1
  | 12 => 12
  | 13 => 8
  | _ => if sel ≤ 5 then 0 else 5

/-- The first sample of unit `u` since the last reset of its block (R428) and, away from the lamp, since acquisition last
resumed (R432): an entry whose element passed before it is applied there. -/
def State.unitFrom (s : State) (u sel : Nat) : Nat :=
  max s.rst.upFrom[blockOfUnit u sel] (if lampSide u sel then 0 else s.rst.resumed)

/-- The label from which an entry of unit `u` acts (R43, R52, R130, R428): its target, or the sync tick whose jump passes over the
target, or the first element after a reset or a pause; the safe point `at_` of an IMM entry.  No element lies between the
target and the element at which the unit applies it. -/
def State.entryAt (s : State) (u : Nat) (at_ : Long) (e : Entry) : Long :=
  if e.imm then at_ else s.labelOf (max (s.sampleOf e.target) (s.unitFrom u e.sel))

/-- The sample of the safe point of an IMM entry, for the units that have it at a fixed place (R130): the first sample of the
next 64-sample block of the unit's input, or the next tick.  Elsewhere the command names it: the next frame start, record
boundary, spectrum, conversion, decision or entry (log entry 7). -/
def safePoint (u : Nat) (e : Entry) : Option Nat :=
  match u with
  | 0 | 1 => some ((e.from_ / 64 + 1) * 64)
  | 2 | 3 => some (if e.from_ < 384 then 0 else (towerInput e.from_ / 64 + 1) * 64)
  | 14 => some (if lampSide u e.sel then e.from_ + 1 else if e.from_ < 384 then 0 else towerInput e.from_ + 1)
  | _ => none

/-- Is the entry ready at the element labelled `at_`, the converter having come there?  An on-time entry: the element is the
first labelled with its target or later (R130).  An IMM entry: it is the unit's next safe point (R133).  On the lamp side
the entry is in the store (R162). -/
def State.entryReady (s : State) (u : Nat) (at_ : Long) (e : Entry) : Bool :=
  (if e.imm then
      match safePoint u e with
      | some m => decide (s.sampleOf at_ = max m (s.unitFrom u e.sel))
      | none => decide (towerInput e.from_ ≤ s.sampleOf at_)
    else if everySample u e.sel then decide (at_ = s.entryAt u at_ e)
    else decide (e.target.toNat ≤ at_.toNat)) &&
  (!lampSide u e.sel || e.phase == .stored)

/-- Was the load of a `RESYNC` made at the present sample refused (R50)? -/
def State.resyncRefused (s : State) (u : Nat) (e : Entry) : Bool :=
  decide (u = 14) && decide (e.sel = 2) && decide (s.time.metAt = some s.time.samples) && !s.syncAt s.time.samples

/-- The marks of an applied entry: an IMM entry records itself, opens a window and gives marker 02h (R132 to R134), but an
IMM `RESYNC` whose load is refused gives neither (R50); an on-time entry closes its pair's window, for a 64-bit parameter at
the `_HI` half. -/
def State.markApplied (s : State) (u : Nat) (e : Entry) (at_ : Long) : State :=
  if e.imm then
    let s := (s.setF F.KPR_TL_IMM_UNIT_UNIT u).setF F.KPR_TL_IMM_UNIT_SEL e.sel
    let s := s.setPair A.KPR_TL_IMM_TICK_LO at_.toNat
    if s.resyncRefused u e then s else (s.openWindow u e.sel at_).tlMarker u e.sel 2 at_
  else if isLoSel u e.sel then s else s.closeWindow u e.sel at_

/-- The marks of a refused entry common to the units (R131, R132). -/
def State.markRefused (s : State) (u : Nat) (e : Entry) (at_ : Long) : State :=
  (s.incSat (F.KPR_TLQ_u_ERRS_REFUSED u)).tlMarker u e.sel 3 (if e.imm then at_ else e.target)

/-- Has acquisition stopped before sample `n` (R432)? -/
def State.pastStop (s : State) (n : Nat) : Bool :=
  match s.rst.paused with
  | some a => decide (a ≤ n)
  | none => false

/-- No element labelled `at_` comes to unit `u`: its block is in reset (R428), its clocks are stopped (R409, R429), or
acquisition has stopped before it (R432).  Lamp-side entries are applied in every power state (R433, R437). -/
def State.unitStopped (s : State) (u sel : Nat) (at_ : Long) : Bool :=
  (match s.rst.blocks[blockOfUnit u sel] with
   | .reset | .waitClk | .held => true
   | _ => false) ||
  (!lampSide u sel && (if u = 12 then decide (3 ≤ s.f F.PWR_STATUS_STATE) else !s.pipeRuns || s.pastStop (s.sampleOf at_)))

/-- Does the element labelled `at_`, at which the converter stands, take entry `e` of unit `u`?  `sel` says which selectors the
command speaks of. -/
def State.takesEntry (s : State) (u : Fin 15) (sel : Nat → Bool) (at_ : Long) (e : Entry) : Bool :=
  sel e.sel && s.entryReady u at_ e && !s.unitStopped u e.sel at_

/-- Entry `e` of unit `u`, between `a` and `b` in its queue, is taken by its element; its marks show the label `mark`.  `eff` is
the unit's effect, or the reason code of its refusal; `refuse` records a refusal in the unit's own registers.  A load whose
copy has not finished is LATE here (R136); a load longer than its table is refused with reason 1h (R135, log entry 8). -/
def State.applyHere (s : State) (u : Fin 15) (a : List Entry) (e : Entry) (b : List Entry) (mark : Long)
    (eff : Entry → List Byte → State → Except Nat State) (refuse : Entry → Nat → State → State) : State :=
  let s1 := s.finishEntry u a e b
  if !s.loaded e then (s1.dropLoad e).markLate u e.sel e.target
  else
    let tab := match s.loadOf e with
      | some l => l.shadow
      | none => []
    let s2 := s1.dropLoad e
    let r := if e.table.isSome && decide (tableSize u e.sel < tab.length) then .error 1 else eff e tab s2
    match r with
    | .ok s3 => s3.markApplied u e mark
    | .error c => (refuse e c s2).markRefused u e mark

/-- An entry is refused with the lowest reason whose condition holds (R131); else it has its effect. -/
def checked (l : List (Bool × Nat)) (s : State) : Except Nat State :=
  match (l.filter (·.1)).map (·.2) with
  | [] => .ok s
  | r :: rs => .error (rs.foldl min r)

/-- The staged `_LO` bits of a 64-bit parameter (R125); 0 when none were staged. -/
def State.stagedLo (s : State) (u sel : Nat) : Nat :=
  match s.tl.lo.find? (·.1 = u * 2 ^ 20 + sel) with
  | some p => p.2.toNat
  | none => 0

/-- Stage the `_LO` bits of a 64-bit parameter. -/
def State.stageLo (s : State) (u sel : Nat) (v : Word) : State :=
  { s with tl := { s.tl with
      lo := (u * 2 ^ 20 + sel, v) :: s.tl.lo.filter fun p => p.1 != u * 2 ^ 20 + sel } }

end Sys2Proof.Machine
end

