-- ==== Sys2Proof/Machine/Measure.lean ====
section
/-! DEFINITION. The measurements of the interval unit (R295 to R301): stamped edges taken in stamp order, statistics sets,
records on their way out, and the entries of unit 8.  Also the outputs that a unit holds until their release (R40). -/

namespace Sys2Proof.Machine
open Sys2Proof

/-! ### Held outputs (R40, R42) -/

/-- Where an output stands among the held ones: by release and key, behind those of the same. -/
def insertHeld (h : Held) : List Held → List Held
  | [] => [h]
  | x :: xs => if x.due < h.due || (x.due = h.due && decide (x.key ≤ h.key)) then x :: insertHeld h xs else h :: x :: xs

/-- Hold an output of output stream `stream` until sample count `due`, and never before an earlier one of that stream (R42). -/
def State.holdOut (s : State) (stream due : Nat) (o : HeldOut) : State :=
  let due := s.held.foldl (fun m h => if h.stream = stream then max m h.due else m) due
  { s with held := insertHeld { stream := stream, due := due, key := 0, what := o } s.held }

/-- The outputs that a unit in reset holds are lost (R428). -/
def State.dropHeldOut (s : State) (stream : Nat) : State := { s with held := s.held.filter fun h => h.stream != stream }

/-- An event of the interval unit at `stamp`, in 1/1,024 sample, is held until every edge stamped before it has its stopping SCLK
edge, two SCLK periods later (R290).  At one instant the gate comes first, then the edges by source number (R296). -/
def State.holdEdge (s : State) (stamp rank : Nat) (o : HeldOut) : State :=
  { s with held := insertHeld { stream := 3, due := stamp / 1024 + 32, key := stamp * 8 + rank, what := o } s.held }

/-! ### Whole-number helpers -/

/-- `num / den` rounded to nearest, ties toward +∞. -/
def roundUp (num : Int) (den : Nat) : Int := (2 * num + den) / (2 * den)

/-- Integer square root, bit by bit from bit `i − 1` down, of `n` above the root `r` found so far. -/
def isqrtFrom (n : Nat) : Nat → Nat → Nat
  | 0, r => r
  | i + 1, r => isqrtFrom n i (if (r + 2 ^ i) * (r + 2 ^ i) ≤ n then r + 2 ^ i else r)

/-- Integer square root. -/
def isqrt (n : Nat) : Nat := isqrtFrom n (Nat.log2 n / 2 + 1) 0

/-! ### Settings, and whether the unit runs -/

/-- Change the interval unit. -/
def State.modIvu (s : State) (g : Ivu → Ivu) : State := { s with ivu := g s.ivu }

/-- Change edge channel `c`. -/
def State.modIvCh (s : State) (c : Fin 3) (g : IvCh → IvCh) : State :=
  s.modIvu fun u => { u with chans := u.chans.set c (g u.chans[c]) }

/-- `NSTOP`, `MASK`, N and the start source in force. -/
def State.nstop (s : State) : Nat := bitsOf (s.reg A.IVU_STOP_MASK).toNat 16 5
def State.stopMask (s : State) : Nat := bitsOf (s.reg A.IVU_STOP_MASK).toNat 0 5
def State.statN (s : State) : Nat := bitsOf (s.reg A.IVU_STAT_N).toNat 0 25
def State.startSrc (s : State) : Nat := bitsOf (s.reg A.IVU_START_SRC).toNat 0 3
def State.ivuEn (s : State) : Bool := (s.reg A.IVU_START_SRC).getLsbD 3
def State.gateEn (s : State) : Bool := (s.reg A.IVU_GATE_CTRL).getLsbD 0

/-- Does the interval unit run: its block out of reset, its clocks on, no acquisition pause (R428, R429, R432)? -/
def State.ivuRuns (s : State) : Bool := s.pipeRuns && s.blockRuns 6 && s.rst.paused.isNone

/-! ### The gate (R297) -/

/-- The first SCLK edge at or after sample `n`. -/
def sclkUp (n : Nat) : Nat := (n + 15) / 16 * 16

/-- The gate at SCLK edge `e`: the edge at which it became as it is, and whether it is active. -/
def Ivu.gateAt (u : Ivu) (e : Nat) : Nat × Bool := (u.gates.find? fun x => decide (x.1 ≤ e)).getD (0, false)

/-- Is an edge with this stamp inside the gate: was it active at the SCLK edge that begins the cycle of the stamp? -/
def State.inGate (s : State) (stamp : Nat) : Bool := !s.gateEn || (s.ivu.gateAt (stamp / 1024 / 16 * 16)).2

/-- The gate input becomes active or inactive at sample `n`, as the first SCLK edge from there sees it.  An open measurement
that it bounds will end there (R296). -/
def State.gateSet (s : State) (n : Nat) (active : Bool) : State :=
  let e := sclkUp n
  let old := s.ivu.gates.filter fun x => decide (x.1 < e)
  let was := (old.head?.map (·.2)).getD false
  let s := s.modIvu fun u => { u with gates := if was = active then old else (e, active) :: old }
  if active then s else s.holdEdge (1024 * e) 0 (.gateEnd e)

/-! ### Records (R299 to R301) -/

/-- One stop of a single record, or zero where it was not found. -/
def stopBytes (l : List IvStop) (i : Nat) : List Byte :=
  match l[i]? with
  | some x => bytesOf 8 (x.x % 2 ^ 48 + x.src * 2 ^ 48)
  | none => bytesOf 8 0

/-- Mean in 1/2^20 tick (R299). -/
def ivMean (n sum : Nat) : Nat := (roundUp (1024 * sum) n).toNat

/-- Standard deviation in 1/2^20 tick, nearest (R299). -/
def ivSigma (n sum sq : Nat) : Nat :=
  if n ≤ 1 then 0
  else
    let a := 2 ^ 20 * (n * sq - sum * sum)
    let b := n * (n - 1)
    let r := isqrt (a / b)
    if (2 * r + 1) * (2 * r + 1) * b ≤ 4 * a then r + 1 else r

/-- One stop of a statistics record. -/
def statBytes (x : Nat × Nat × Nat × Nat × Nat) : List Byte :=
  let (n, sum, sq, mn, mx) := x
  bytesOf 4 n ++ bytesOf 4 0 ++
  (if n = 0 then bytesOf 32 0 else bytesOf 8 (ivMean n sum) ++ bytesOf 8 (ivSigma n sum sq) ++ bytesOf 8 mn ++ bytesOf 8 mx)

/-- An interval record and its queue entry, held until 1,024 ticks after the label `last` of the last edge or event (R41, R300,
R301), which the tower sees 384 ticks later.  Its fault flags are those of the edges when it leaves. -/
def State.ivuRecord (s : State) (stat : Bool) (tick : Long) (frac last count found status : Nat) (edges : List Nat)
    (body : List Byte) : State :=
  let payload := bytesOf 4 s.ivu.total ++ bytesOf 1 found ++ bytesOf 1 status ++ bytesOf 2 0 ++ body
  let param := count % 2 ^ 25 + (s.nstop - 1) * 2 ^ 25 + bit stat * 2 ^ 29 + s.startSrc * 2 ^ 30 + s.stopMask * 2 ^ 33
  let flags := s.gapFlag 5
  let s := s.gapDone 5
  let item : DispItem := { src := 10, key := none, kind := 5, source := 8, tick := tick, flags := flags, frac := frac,
                           param := BitVec.ofNat 64 param, payload := payload }
  s.holdOut 2 (last + 1024 + 384) (.interval item
    { mkRecord 5 8 flags tick param payload (last + 64000) with
      frac := frac, cover := edges.map fun n => ⟨0, n, n + 1, Flag.clklost⟩ } edges)

/-- The statistics set ends: one that is not empty gives its record, when N is 2 or more (R299). -/
def State.ivuSetEnd (s : State) (partial_ : Bool) : State :=
  match s.ivu.set_ with
  | none => s
  | some t =>
    let s := (s.modIvu fun u => { u with set_ := none }).setF F.IVU_SET_COUNT_COUNT 0
    let st := t.status ||| (if partial_ then 16 else 0)
    let s := s.ivuRecord true t.tick t.frac t.last t.count s.nstop st t.edges (t.sums.flatMap statBytes)
    if s.on F.IVU_EVT_CTRL_SET_EVT then s.raiseLimited 162 1 else s

/-- Add the stops of a measurement to the sums of a set. -/
def addStops : List (Nat × Nat × Nat × Nat × Nat) → List IvStop → List (Nat × Nat × Nat × Nat × Nat)
  | [], _ => []
  | y :: ys, [] => y :: ys
  | (n, sum, sq, mn, mx) :: ys, x :: xs =>
    (n + 1, sum + x.x, sq + x.x * x.x, if n = 0 then x.x else min mn x.x, max mx x.x) :: addStops ys xs

/-! ### Entries (R295, R298) -/

/-- Record a refusal of unit 8. -/
def ivuRefuse (e : Entry) (reason : Nat) (s : State) : State :=
  let s := (s.setF F.IVU_LAST_REFUSE_SEL e.sel).setF F.IVU_LAST_REFUSE_REASON reason
  (s.setB F.IVU_STATUS_REFUSED true).raise 156

/-- Is an operand outside the range of R295? -/
def ivuRange (sel n : Nat) : Bool :=
  match sel with
  | 0 => decide (4 < n % 8)
  | 1 => bitsOf n 16 5 = 0 || decide (16 < bitsOf n 16 5)
  | 3 => bitsOf n 0 25 = 0 || decide (2 ^ 24 < bitsOf n 0 25)
  | _ => false

/-- Is a reserved bit of an operand set (R295)? -/
def ivuReserved (sel n : Nat) : Bool :=
  match sel with
  | 0 => decide (16 ≤ n)
  | 1 => bitsOf n 5 11 != 0 || decide (2 ^ 21 ≤ n)
  | 2 => decide (8 ≤ n)
  | 3 => bitsOf n 25 6 != 0
  | _ => decide (2 ≤ n)

/-- The operand of selector `sel` in force after the entries that take effect at the element labelled `at_` (R298): that of the
last later entry with it that the element takes and that is not itself refused, or `v`. -/
def State.afterGroup (s : State) (sel : Nat) (at_ : Long) (v : BitVec 32) : BitVec 32 :=
  (s.tl.queues[(8 : Fin 15)]).foldl (fun v x =>
    if x.sel = sel && s.entryReady 8 at_ x && !ivuRange sel x.opnd.toNat && !ivuReserved sel x.opnd.toNat then x.opnd
    else v) v

/-- Effect of an entry of unit 8 at the element labelled `at_`; a new polarity turns the gate over. -/
def ivuEff (at_ : Long) (e : Entry) (_ : List Byte) (s : State) : Except Nat State :=
  let v := e.opnd
  let n := v.toNat
  let s1 := s.setReg (A.IVU_START_SRC + 4 * e.sel) v
  let start := s.afterGroup 0 at_ (s1.reg A.IVU_START_SRC)
  let mask := s.afterGroup 1 at_ (s1.reg A.IVU_STOP_MASK)
  let s2 := if e.sel = 0 || e.sel = 1 || e.sel = 3 then (s.ivuSetEnd true).setReg (A.IVU_START_SRC + 4 * e.sel) v else s1
  let flip := e.sel = 2 && v.getLsbD 1 != (s.reg A.IVU_GATE_CTRL).getLsbD 1
  let a := s.sampleOf at_
  checked [(ivuRange e.sel n, 1), (ivuReserved e.sel n, 2),
      ((e.sel = 0 || e.sel = 1) && start.getLsbD 3 && bitsOf mask.toNat 0 5 = 0, 3)]
    (if flip then s2.gateSet a (!(s.ivu.gateAt (sclkUp a)).2) else s2)

/-- The element labelled `at_`, at which the converter stands, takes the next entry of unit 8 if its selector is `sel`.  With
`late` it waited for a measurement to end, and `mark` is the label of that end; else the marks show where it acts. -/
def State.ivuApply (s : State) (sel : Nat) (at_ : Long) (late : Option Long := none) : State :=
  match s.nextEntry 8 sel with
  | none => s
  | some (a, e, b) =>
    if s.takesEntry 8 (fun x => x = sel) at_ e then s.applyHere 8 a e b (late.getD (s.entryAt 8 at_ e)) (ivuEff at_) ivuRefuse
    else s

/-! ### Measurements (R296) -/

/-- The open measurement ends at sample `last` with status bits `st` (R296, R299, R300); then the entries that waited for it
apply (R298). -/
def State.ivuEnd (s : State) (st last : Nat) : State :=
  match s.ivu.meas with
  | none => s
  | some m =>
    let status := m.status ||| st
    let waits := s.ivu.waits
    let s := s.modIvu fun u =>
      { u with meas := none, waits := [], total := u.total + 1, chans := u.chans.map fun (c : IvCh) => { c with usedOpen := false } }
    let s := (s.setB F.IVU_STATUS_OPEN false).incWrap F.IVU_MEAS_COUNT_COUNT
    let each := (s.reg A.IVU_STAT_N).getLsbD 31
    let s := if s.statN = 1 || each then
        s.ivuRecord false m.tick m.frac last 1 m.stops.length status m.edges ((List.range s.nstop).flatMap (stopBytes m.stops))
      else s
    let s :=
      if s.statN = 1 then s
      else
        let t : IvSet := s.ivu.set_.getD
          { tick := m.tick, frac := m.frac, n := m.stamp / 1024, last := last, count := 0,
            sums := List.replicate s.nstop (0, 0, 0, 0, 0), status := 0, edges := [] }
        let t := { t with count := t.count + 1, last := last, sums := addStops t.sums m.stops, status := t.status ||| status,
                          edges := t.edges ++ m.edges }
        let s := (s.modIvu fun u => { u with set_ := some t }).setF F.IVU_SET_COUNT_COUNT t.count
        if t.count = s.statN then s.ivuSetEnd false else s
    waits.foldl (fun (s : State) w => s.ivuApply w.1 w.2 (some (s.labelOf last))) s

/-- A stop of the open measurement. -/
def State.ivuStop (s : State) (c : Fin 3) (src stamp : Nat) (cd : Bool) (m : IvMeas) : State :=
  let m := { m with stops := m.stops ++ [{ x := stamp - m.stamp, src := src }], edges := m.edges ++ [stamp / 1024],
                    status := m.status ||| (if cd then 8 else 0) }
  let s := (s.modIvu fun u => { u with meas := some m }).modIvCh c fun k => { k with usedOpen := true }
  if m.stops.length = s.nstop then s.ivuEnd 0 (stamp / 1024) else s

/-- A start edge (R296, R297): less than 32 SCLK cycles after the previous start it is ignored. -/
def State.ivuStart (s : State) (c : Fin 3) (stop stamp : Nat) (cd : Bool) : State :=
  let near := match s.ivu.lastStart with
    | some p => decide (stop < p + 32 * 16)
    | none => false
  let opening := some (s.ivu.gateAt (stamp / 1024 / 16 * 16)).1
  let one := s.gateEn && (s.reg A.IVU_GATE_CTRL).getLsbD 2
  if near then (s.incSat F.IVU_SKIPPED_COUNT).raiseLimited 164 1000
  else if !s.inGate stamp || (one && s.ivu.gateUsed == opening) then s
  else
    let m : IvMeas := { tick := s.labelOf (stamp / 1024), frac := stamp % 1024, stamp := stamp, stop := stop, stops := [],
                        status := if cd then 8 else 0, edges := [stamp / 1024] }
    let s := s.modIvu fun u => { u with meas := some m, lastStart := some stop, gateUsed := opening }
    (s.modIvCh c fun k => { k with usedOpen := true }).setB F.IVU_STATUS_OPEN true

/-- A stamped edge in the measurement (R296).  At a coarse count of 2^32 no stop is found any more. -/
def State.ivuEdge (s : State) (c : Fin 3) (src stop stamp : Nat) (cd : Bool) : State :=
  match s.ivu.meas with
  | some m =>
    if s.inGate stamp && s.stopMask.testBit src && decide (m.stamp < stamp) && decide (stop < m.stop + 16 * 2 ^ 32) then
      s.ivuStop c src stamp cd m
    else s
  | none => if s.ivuEn && src = s.startSrc then s.ivuStart c stop stamp cd else s

/-- Edge source number (R290). -/
def edgeSource (c : Fin 3) (rising : Bool) : Nat := if c = 2 then 4 else 2 * c.val + bit (!rising)

/-- Does the measurement in force use a source of channel `c`? -/
def State.chanUsed (s : State) (c : Fin 3) : Bool :=
  [edgeSource c true, edgeSource c false].any fun x => s.stopMask.testBit x || x = s.startSrc

/-- What a lost edge is to the open measurement (R300). -/
def State.ivuLost (s : State) (c : Fin 3) (stamp : Nat) : State :=
  if s.chanUsed c then
    s.modIvu fun u => { u with meas := u.meas.map fun (m : IvMeas) =>
      if m.stamp < stamp then { m with status := m.status ||| 4 } else m }
  else s

/-- The gate is inactive at SCLK edge `e` (R296): a measurement it bounds ends with `GATE_END`. -/
def State.ivuGateEnd (s : State) (e : Nat) : State :=
  match s.ivu.meas with
  | some m => if s.gateEn && !(s.ivu.gateAt e).2 && decide (m.stamp < 1024 * e) then s.ivuEnd 2 e else s
  | none => s

/-- The measurements take what was held for them. -/
def State.ivuTake (s : State) : HeldOut → State
  | .edge c src stop stamp cd => s.ivuEdge c src stop stamp cd
  | .edgeLost c stamp => s.ivuLost c stamp
  | .gateEnd e => s.ivuGateEnd e
  | _ => s

/-- The measurements take what is held for them and stamped before `stamp`; the fuel bounds it. -/
def State.ivuFlushBy (s : State) (stamp : Nat) : Nat → State
  | 0 => s
  | fuel + 1 =>
    match s.held.find? fun h => h.stream = 3 && decide (h.key < 8 * stamp) with
    | none => s
    | some h => (({ s with held := s.held.erase h }).ivuTake h.what).ivuFlushBy stamp fuel

/-- The measurements take every edge stamped before `stamp`. -/
def State.ivuFlush (s : State) (stamp : Nat) : State := s.ivuFlushBy stamp s.held.length

/-! ### Release (R301) -/

/-- Flags an edge gives its interval record (R301): those of its tick, REFIN absent there (R294), and `LATE_AFFECTED`. -/
def State.edgeFlags (s : State) (n : Nat) : BitVec 24 :=
  (s.sampleFlags 0 n (n + 1) &&& (Flag.clklost ||| Flag.suspect)) |||
  flagIf (s.clk.absent.any fun m => m.touches n (n + 1)) Flag.refAbsent ||| s.lateFlag 8 (s.labelOf n)

/-- An interval record and its queue entry leave the unit (R70, R301), with the flags of their edges. -/
def State.ivuPresent (s : State) (item : DispItem) (r : Record) (edges : List Nat) : State :=
  let flags := edges.foldl (fun f n => f ||| s.edgeFlags n) 0
  let s := { s with disp := { s.disp with waiting := s.disp.waiting ++ [{ item with flags := item.flags ||| flags }] } }
  s.offer 8 { r with flags := r.flags ||| flags }

end Sys2Proof.Machine
end

