-- ==== Sys2Proof/Machine/Release.lean ====
section
/-! DEFINITION. Outputs that a unit holds until their release delay has passed (R40 to R42): trace values with the threshold
detector that examines them (R228 to R230), and interval records (R301). -/

namespace Sys2Proof.Machine
open Sys2Proof

/-- Value in force at sample `n` of a setting kept with its history. -/
def histAt (h : List (Nat × BitVec 32)) (n : Nat) : Nat × BitVec 32 := (h.find? fun x => decide (x.1 ≤ n)).getD (0, 0)

/-- A new value from sample `n` on. -/
def histPut (h : List (Nat × BitVec 32)) (n : Nat) (v : BitVec 32) : List (Nat × BitVec 32) :=
  (n, v) :: h.filter fun x => decide (x.1 < n)

/-! ### Threshold events (R228 to R230) -/

/-- A crossing as 16 payload bytes (R230). -/
def Crossing.bytes (c : Crossing) : List Byte :=
  bytesOf 8 c.label.toNat ++ bytesOf 4 c.value.toNat ++
  bytesOf 4 ((if c.rise then 1 else 2) + c.flags.toNat * 256)

/-- Close the list of crossings: a threshold event list and a queue entry (R229, R230). -/
def State.thrClose (s : State) (ch : Fin 2) (k : Nat) : State :=
  let f := s.flt.get ch
  match f.list with
  | [] => s
  | c :: _ =>
    let payload := f.list.flatMap Crossing.bytes
    let flags := f.list.foldl (fun a x => a ||| x.flags) 0
    let param := f.list.length + f.unlisted * 2 ^ 16 + k * 2 ^ 48
    let item : DispItem := { src := 3 + ch.val, key := none, kind := 7, source := ch.val, tick := c.label, flags := flags,
                             frac := 0, param := BitVec.ofNat 64 param, payload := payload }
    let s := s.modFlt ch fun f => { f with list := [], unlisted := 0 }
    let s := { s with disp := { s.disp with waiting := s.disp.waiting ++ [item] } }
    s.offer (11 + ch.val)
      { mkRecord 7 ch.val flags c.label param payload (f.listEnd + 64000) with
        due := max (f.listEnd + 64000) s.time.samples, cover := [coverOf ch.val c.n (f.listEnd + 1)] }

/-- List a crossing, or count it past the limit of its event window (R229). -/
def State.thrList (s : State) (ch : Fin 2) (k : Nat) (c : Crossing) : State :=
  let f := s.flt.get ch
  if f.listed < 64 then
    let s := s.modFlt ch fun f => { f with list := f.list ++ [c], listed := f.listed + 1 }
    let s := s.incSat (F.FLT_n_THR_LISTED_COUNT ch)
    let s := if s.on (F.FLT_n_EVT_CTRL_THR_EVT ch) then
        s.raiseLimited ((if c.rise then 95 else 96) + 12 * ch.val) 1 else s
    if (s.flt.get ch).list.length = 64 then s.thrClose ch k else s
  else
    let s := s.modFlt ch fun f => { f with unlisted := min (f.unlisted + 1) (2 ^ 32 - 1), excessSaid := true }
    let s := (s.incSat (F.FLT_n_THR_EXCESS_COUNT ch)).setB (F.FLT_n_STATUS_EXCESS_SEEN ch) true
    if f.excessSaid then s else s.raise (97 + 12 * ch.val)

/-- The crossing that trace value `x` makes in state `high`, if any: a rise or a fall (R228). -/
def crossing (high : Bool) (x hi lo : Nat) : Option Bool :=
  if !high && decide (hi ≤ x) then some true
  else if high && decide (x < lo) then some false
  else none

/-- The detector examines the trace value of label sample `n` (R228, R229); `last` is its newest input. -/
def State.examine (s : State) (ch : Fin 2) (k n last x : Nat) (flags : BitVec 24) (rankFrom : Nat) : State :=
  let s := s.modFlt ch fun f =>
    if f.rankSeen = rankFrom then f else { f with high := false, rankSeen := rankFrom }
  let s := s.modFlt ch fun f =>
    { f with listed := if f.pos % 4096 = 0 then 0 else f.listed, excessSaid := f.pos % 4096 != 0 && f.excessSaid,
             pos := f.pos + 1, listEnd := last }
  let s := match (s.flt.get ch).list with
    | c :: _ => if c.n + 2 ^ 20 ≤ n then s.thrClose ch k else s
    | [] => s
  let f := s.flt.get ch
  let ctl := (histAt f.outCtrl n).2
  let s := s.setF (F.FLT_n_TRACE_VALUE ch) x
  match crossing f.high x (histAt f.thrHigh n).2.toNat (histAt f.thrLow n).2.toNat with
  | none => s.setB (F.FLT_n_STATUS_THR_STATE ch) f.high
  | some rise =>
    let s := (s.modFlt ch fun f => { f with high := rise }).setB (F.FLT_n_STATUS_THR_STATE ch) rise
    let s := s.secEvent (24 + 2 * ch.val + bit (!rise)) n 0 flags none none last (some ch)
    if ctl.getLsbD 4 && ctl.getLsbD (if rise then 5 else 6) then
      s.thrList ch k { label := s.labelOf n, n := n, value := BitVec.ofNat 32 x, rise := rise, flags := flags }
    else s

/-! ### Release -/

/-- A restart of the trace once the old grid's values are examined: the list closes, and only then the hysteresis state is low
(R224, R229). -/
def State.thrTurn (s : State) (ch : Fin 2) (k : Nat) : State :=
  let s := s.thrClose ch k
  let s := s.modFlt ch fun f => { f with high := false, pos := 0, listed := 0, excessSaid := false }
  s.setB (F.FLT_n_STATUS_THR_STATE ch) false

/-- What a held output does at its release. -/
def State.present (s : State) : HeldOut → State
  | .trace ch k n last x flags rankFrom => s.examine ch k n last x flags rankFrom
  | .turn ch k => s.thrTurn ch k
  | .interval item r edges => s.ivuPresent item r edges
  | h => s.ivuTake h

end Sys2Proof.Machine
end

