-- ==== Sys2Proof/Machine/Advance.lean ====
section
/-! DEFINITION. Time moving on: the converter's samples, the tick counter (R34, R35, R56), the cycle counters (R80, R89), the
synchronising resets due on the way (R50) and the outputs released on the way (R40). -/

namespace Sys2Proof.Machine
open Sys2Proof

/-- The sample of the earliest synchronising reset of a list within `n` more samples after `from_`. -/
def firstSync (from_ n : Nat) : List PendingSync → Option Nat
  | [] => none
  | x :: xs =>
    match firstSync from_ n xs with
    | none => if from_ < x.at_ && x.at_ ≤ from_ + n then some x.at_ else none
    | some m => if from_ < x.at_ && x.at_ < m then some x.at_ else some m

/-- Frequency of TCLK in MHz (R20, R191, R429): the tower synthesiser's or the backup's; 0 while it is gated. -/
def State.tclkMHz (s : State) : Nat :=
  if !s.good.tclk || decide (3 ≤ s.f F.PWR_STATUS_STATE) then 0 else if s.on F.CLK_STATUS_ON_BACKUP then 400 else 1500

/-- Frequency of KCLK in MHz; 0 while it is gated, or frozen with the Keeper's state (R429, R437). -/
def State.kclkMHz (s : State) : Nat :=
  if !s.good.kclk || decide (3 ≤ s.f F.PWR_STATUS_STATE) then 0 else if s.on F.CLK_STATUS_ON_BACKUP then 200 else 750

/-- A cycle counter after `n` sample periods at `mhz`. -/
def Cyc.pass (c : Cyc) (mhz n : Nat) : Cyc := { c with run := c.run + mhz * n }

/-- The time state after `n` more samples (R34, R35) at these clock frequencies: the cycle counters run on (R80, R89). -/
def Time.pass (t : Time) (k c n : Nat) : Time :=
  { t with tick := t.tick + BitVec.ofNat 64 n, samples := t.samples + n, kcyc := t.kcyc.pass k n,
           tcyc := t.tcyc.pass c n, tRun := t.tRun + c * n }

/-- Count `n` more samples (R34, R35); a tick counter that wraps to 0 gives a status marker (SOURCE 93h) with `WRAP`
(R56). -/
def State.count (s : State) (n : Nat) : State :=
  let t := { s with time := s.time.pass s.kclkMHz s.tclkMHz n }
  if s.time.tick.toNat + n < 2 ^ 64 then t else t.marker 0x93 0 0 Flag.wrap

/-- Count `n` more samples and release the held outputs that come due on the way (R40); the list of them is the fuel.  Units that
a power state gates or Fog-signal mode freezes release none (R429). -/
def State.runBy (s : State) (n : Nat) : Nat → State
  | 0 => s.count n
  | fuel + 1 =>
    match s.held with
    | [] => s.count n
    | h :: hs =>
      if h.due ≤ s.time.samples + n && s.pipeRuns then
        let d := h.due - s.time.samples
        (({ s.count d with held := hs }).present h.what).runBy (n - d) fuel
      else s.count n

/-- Count `n` more samples, with what is released on the way. -/
def State.run (s : State) (n : Nat) : State := s.runBy n s.held.length

/-- Move the converter on by `n` samples, making the synchronising resets due on the way; `fuel` bounds how many. -/
def State.advanceBy (s : State) (n : Nat) : Nat → State
  | 0 => s.run n
  | fuel + 1 =>
    match firstSync s.time.samples n s.time.waiting with
    | none => s.run n
    | some m =>
      let d := m - s.time.samples
      ((s.run d).syncDue).advanceBy (n - d) fuel

/-- Move the converter on by `n` samples.  A deferred reset is met a second time, so twice the waiting ones bound the
stops. -/
def State.advance (s : State) (n : Nat) : State := s.advanceBy n (2 * s.time.waiting.length)

/-- Move the converter on to sample count `m`, unless it is there. -/
def State.advanceSamples (s : State) (m : Nat) : State :=
  if s.time.samples < m then s.advance (m - s.time.samples) else s

/-- Move the converter on until the counter has come to `t`, or to the sync tick whose jump passes over `t`; a count
already passed changes nothing (log entry 6). -/
def State.advanceToBy (s : State) (t : Nat) : Nat → State
  | 0 => if s.time.tick.toNat < t then s.run (t - s.time.tick.toNat) else s
  | fuel + 1 =>
    if s.time.tick.toNat < t then
      match firstSync s.time.samples (t - s.time.tick.toNat) s.time.waiting with
      | none => s.run (t - s.time.tick.toNat)
      | some m => (((s.run (m - s.time.samples)).syncDue).advanceToBy t fuel)
    else s

/-- Move the converter on to the sample labelled `t` (log entry 6). -/
def State.advanceTo (s : State) (t : Long) : State := s.advanceToBy t.toNat (2 * s.time.waiting.length)

end Sys2Proof.Machine
end

