-- ==== Sys2Proof/Machine/Apply.lean ====
section
/-! DEFINITION. The command that says that a unit's next entry reaches its element (R129 to R136). -/

namespace Sys2Proof.Machine
open Sys2Proof

/-- The next entry of unit `u` reaches its element, labelled `at_`.  `sel` says which selectors this command speaks of.  If the
next entry has another selector, or `at_` is not its element, nothing changes (log entry 7).  `stage` is a selector of the
stage of the unit that the command speaks of. -/
def State.applyNext (s : State) (u : Fin 15) (sel : Nat → Bool) (at_ : Long)
    (eff : Entry → List Byte → State → Except Nat State) (refuse : Entry → Nat → State → State) (stage : Nat := 0) : State :=
  let s0 := s.advanceTo at_
  match s0.nextEntry u stage with
  | none => s
  | some (a, e, b) => if s0.takesEntry u sel at_ e then s0.applyHere u a e b (s0.entryAt u at_ e) eff refuse else s

end Sys2Proof.Machine
end

