-- ==== Sys2Proof/Machine/CoreOps.lean ====
section
/-! DEFINITION. What every core instruction is built from: the registers of a core (R58, R59), circular addressing
(R67), transfers of control and hardware loops (R101 to R103), Beacon faults (R81), Keeper traps and restarts (R83,
R85, R104), and starting and halting cores (R82, R90). -/

namespace Sys2Proof.Machine
open Sys2Proof

/-- Number of the Keeper among the cores. -/
def keeperNo : Fin 17 := 16

/-- Is core `c` the Keeper? -/
def isKeeper (c : Fin 17) : Bool := c.val = 16

/-- The state field of Beacon core `n` in `BCN_STATE`: 0 halted, 1 running, 2 faulted, 3 restarting (R90). -/
def bcnState (n : Nat) : Fld := ⟨F.BCN_STATE_STATE0.addr, 2 * n, 2⟩

/-- The run state of core `c`. -/
def State.coreState (s : State) (c : Fin 17) : Nat :=
  if isKeeper c then s.f F.KPR_STATUS_STATE else s.f (bcnState c)

/-- Change core `c`. -/
def State.modCore (s : State) (c : Fin 17) (g : Core → Core) : State :=
  { s with cores := s.cores.set c (g s.cores[c]) }

/-- Change the Keeper's own state. -/
def State.modKeeper (s : State) (g : Keeper → Keeper) : State := { s with keeper := g s.keeper }

/-- Is core `c` clocked (R429): a Beacon core in ACTIVE and WATCH, the Keeper also in STANDBY? -/
def State.coreClocked (s : State) (c : Fin 17) : Bool := decide (s.f F.PWR_STATUS_STATE ≤ if isKeeper c then 2 else 1)

/-- Does core `c` execute instructions: running, clocked and not held in one? -/
def State.coreRuns (s : State) (c : Fin 17) : Bool :=
  s.coreState c = 1 && s.coreClocked c && (s.cores[c]).stall.isNone

/-! ### Registers of a core -/

/-- General register `i`; g0 reads zero (R58). -/
def Core.readG (k : Core) (i : Fin 16) : Word := if i = 0 then 0 else k.g[i]

/-- Write general register `i`; a write to g0 is discarded (R58). -/
def Core.writeG (k : Core) (i : Fin 16) (v : Word) : Core := if i = 0 then k else { k with g := k.g.set i v }

/-- `cst` with its sticky bits set: OV when `o`, SV when `v` (R59, R69). -/
def Core.sticky (k : Core) (o v : Bool) : Core :=
  { k with cst := k.cst ||| (if o then 1 else 0) ||| (if v then 2 else 0) }

/-- `cst.LB`. -/
def Core.setLB (k : Core) (b : Bool) : Core :=
  { k with cst := (k.cst &&& ~~~(4#32)) ||| (if b then 4 else 0) }

/-- `cst.TRAP`. -/
def Core.trapOn (k : Core) : Bool := k.cst.getLsbD 3

/-- Set `cst.TRAP`. -/
def Core.setTrap (k : Core) (b : Bool) : Core :=
  { k with cst := (k.cst &&& ~~~(8#32)) ||| (if b then 8 else 0) }

/-- Registers as at every start (R58), `cst` with `CAUSE` and `CORE` (R59), at PC `pc`.  Queues, posts and `FLAGACC`
are not registers and stay. -/
def Core.fresh (k : Core) (c : Nat) (cause : Nat) (pc : Word) : Core :=
  { Core.zero c with
    cst := BitVec.ofNat 32 (c * 256 + cause % 16 * 16), pc := pc, flagAcc := k.flagAcc, queues := k.queues,
    posts := k.posts, entryPc := k.entryPc, restartPc := k.restartPc, trapPc := k.trapPc }

/-- Pointer update of R67: `x` plus `d`, folded into the ring when its size is not zero, in 32-bit arithmetic. -/
def ringStep (x d rs rz : Word) : Word :=
  if rz = 0 then x + d else rs + (x - rs + d) % rz

/-- Post-modify pointer `x` by `d` (R67). -/
def Core.postMod (k : Core) (x : Fin 8) (d : Word) : Core :=
  { k with ap := k.ap.set x (ringStep k.ap[x] d k.rs[x] k.rz[x]) }

/-! ### Faults and traps -/

/-- May core `c` fetch at `pc` (R101)? -/
def fetchOk (c : Fin 17) (pc : Word) : Bool :=
  pc.toNat % 4 = 0 && pc.toNat < (if isKeeper c then 0x80000 else 0x200000)

/-- Why an instruction faults, with the address it records. -/
inductive CoreFault where
  | illegal | fetch | daddr | align | caddr | wprot | brk | hang | tl (err : Nat)
deriving DecidableEq, Repr

/-- `BCN_n_FAULT.CODE` (R81). -/
def CoreFault.beacon : CoreFault → Nat
  | .illegal => 1 | .fetch => 2 | .daddr => 3 | .align => 4 | .caddr => 5 | .brk => 6 | .hang => 7
  | .wprot => 3 | .tl _ => 1

/-- `KPR_TRAP.CODE` (R83). -/
def CoreFault.keeper : CoreFault → Nat
  | .illegal => 1 | .fetch => 2 | .daddr => 2 | .align => 3 | .wprot => 4 | .brk => 6 | .tl _ => 8
  | .caddr => 2 | .hang => 6

/-- A Beacon core stops at the faulting instruction (R81). -/
def State.beaconFault (s : State) (n : Fin 17) (w : CoreFault) (addr : Word) : State :=
  let s := (s.setF (bcnState n) 2).setF (F.BCN_n_FAULT_CODE n) w.beacon
  let s := s.setReg (A.BCN_n_FAULT_ADDR n) addr
  let s := s.setReg (A.BCN_n_PC n) (s.cores[n]).pc
  let s := s.modCore n fun k => { k with stall := none }
  s.raise (184 + 2 * n.val)

/-- Drain the oldest store of the Keeper's store buffer into Keeper memory (R66). -/
def State.drainOne (s : State) : State :=
  match s.keeper.storeBuf with
  | [] => s
  | (a, v) :: q =>
    { s with sram := Mem.writeN s.sram (0x2200000 + a) (bytesOf 4 v.toNat),
             keeper := { s.keeper with storeBuf := q } }

/-- Drain a list of stores. -/
def drainInto (m : List Host.Cell) : List (Nat × Word) → List Host.Cell
  | [] => m
  | (a, v) :: q => drainInto (Mem.writeN m (0x2200000 + a) (bytesOf 4 v.toNat)) q

/-- Drain the whole store buffer (R66, R85 step 2). -/
def State.drainAll (s : State) : State :=
  { s with sram := drainInto s.sram s.keeper.storeBuf, keeper := { s.keeper with storeBuf := [] } }

/-- Discard the held target (R120). -/
def State.dropHeld (s : State) : State :=
  (({ s with tl := { s.tl with held := none } }).setB F.KPR_TL_STATUS_HELD false).setPair A.KPR_TL_HELD_LO 0

/-- Reload the watchdog count (R84). -/
def State.wdtReload (s : State) : State :=
  (s.setF F.KPR_WDT_LEFT_LEFT (s.f F.KPR_WDT_CTRL_PERIOD)).modKeeper fun k => { k with wdtFrom := s.time.samples }

/-- The watchdog counts: enabled, and neither SLEEP nor Fog-signal mode pauses it (R433, R437). -/
def State.wdtRuns (s : State) : Bool := s.on F.KPR_WDT_CTRL_EN && decide (s.f F.PWR_STATUS_STATE < 3)

/-- `KPR_WDT_LEFT` at present. -/
def State.wdtLeft (s : State) : Nat :=
  if s.wdtRuns then s.f F.KPR_WDT_LEFT_LEFT - (s.time.samples - s.keeper.wdtFrom) / s.ticksPerUs else s.f F.KPR_WDT_LEFT_LEFT

/-- Fold the time passed into the count, before its pause or at the end of one. -/
def State.wdtFold (s : State) : State :=
  (s.setF F.KPR_WDT_LEFT_LEFT s.wdtLeft).modKeeper fun k => { k with wdtFrom := s.time.samples }

/-- A restart request of the Keeper (R85 steps 1 and 2): ignored while no image is loaded or a restart runs. -/
def State.keeperRestart (s : State) (cause : Nat) : State :=
  if s.f F.KPR_STATUS_STATE = 0 || s.f F.KPR_STATUS_STATE = 3 then s
  else
    let s := (s.setF F.KPR_STATUS_STATE 3).modCore keeperNo fun k => { k with stall := none }
    let s := ((s.setB F.KPR_TL_STATUS_STALLED false).dropHeld).drainAll
    let s := if s.on F.KPR_WDT_CTRL_EN then s.wdtReload else s
    s.modKeeper fun k => { k with cause := cause }

/-- A Keeper trap (R83, R104): record and raise; with the handler already running it is a double fault and restarts the
Keeper with cause 4h; else save the PC and the loop stack and run the handler.  A trap vector that cannot be fetched traps
at once in its turn (R101). -/
def State.keeperTrap (s : State) (w : CoreFault) (addr : Word) : State :=
  let s := (s.setF F.KPR_TRAP_CODE w.keeper).setReg A.KPR_TRAP_ADDR addr
  let s := match w with
    | .tl e => s.setF F.KPR_TL_STATUS_ERR e
    | _ => s
  let s := s.raise 176
  if (s.cores[keeperNo]).trapOn then s.keeperRestart 4
  else
    let s := s.modCore keeperNo fun k =>
      ({ k with epc := k.pc, shadow := k.loops, loops := [], pc := k.trapPc }).setTrap true
    let t := (s.cores[keeperNo]).trapPc
    if fetchOk keeperNo t then s
    else (((s.setF F.KPR_TRAP_CODE 2).setReg A.KPR_TRAP_ADDR t).raise 176).keeperRestart 4

/-- A fault of core `c` (R81, R83). -/
def State.coreFault (s : State) (c : Fin 17) (w : CoreFault) (addr : Word) : State :=
  if isKeeper c then s.keeperTrap w addr else s.beaconFault c w addr

/-- The PC of core `c`. -/
def State.pcOf (s : State) (c : Fin 17) : Word := (s.cores[c]).pc

/-- The instruction raises ILLEGAL (R94); the address recorded is its own (log entry 9). -/
def State.illegal (s : State) (c : Fin 17) : State := s.coreFault c .illegal (s.pcOf c)

/-! ### Control -/

/-- Put the PC of core `c` at `t`; a target it may not fetch faults there (R101). -/
def State.gotoPc (s : State) (c : Fin 17) (t : Word) : State :=
  let s := s.modCore c fun k => { k with pc := t }
  if fetchOk c t then s else s.coreFault c .fetch t

/-- A Beacon core halts at an instruction boundary when its `BCN_HALT` bit waits (R90). -/
def haltBit (n : Nat) : Fld := ⟨A.BCN_HALT, n, 1⟩

/-- Halt core `c` now. -/
def State.haltCore (s : State) (c : Fin 17) : State :=
  if isKeeper c then (s.setF F.KPR_STATUS_STATE 2).setReg A.KPR_PC (s.pcOf c)
  else ((s.setF (bcnState c) 0).setB (haltBit c) false).setReg (A.BCN_n_PC c) (s.pcOf c)

/-- An instruction completed: a waiting halt takes effect (R90). -/
def State.boundary (s : State) (c : Fin 17) : State :=
  if !isKeeper c && s.on (haltBit c) && s.coreState c = 1 then s.haltCore c else s

/-- The instruction at the PC is the last of the innermost loop's body: execution goes on where the back edge says (R102). -/
def State.atLoopEnd (s : State) (c : Fin 17) : Bool :=
  match (s.cores[c]).loops with
  | [] => false
  | l :: _ => l.last = s.pcOf c

/-- The instruction completed without transferring control: on to the next one, `n` bytes on.  After the last instruction of
a loop body the next fetch is the back edge's. -/
def State.fallThrough (s : State) (c : Fin 17) (n : Nat := 4) : State :=
  let t := s.pcOf c + BitVec.ofNat 32 n
  (if s.atLoopEnd c then s.modCore c fun k => { k with pc := t } else s.gotoPc c t).boundary c

/-- Bytes of the instruction at `a` (R92, log entry 117): two words for a word of class 11b in Keeper memory, else one. -/
def State.instrBytes (s : State) (c : Fin 17) (a : Word) : Nat :=
  if isKeeper c && decide (a.toNat < 0x80000) && decide (0xC0 ≤ (Mem.read s.sram (0x2200000 + a.toNat + 3)).toNat) then 8 else 4

/-- Address of the instruction `n` instructions after the loop instruction at the PC, which is one word (R92, R102). -/
def State.loopLast (s : State) (c : Fin 17) : Nat → Word
  | 0 => s.pcOf c
  | n + 1 =>
    let a := s.loopLast c n
    a + BitVec.ofNat 32 (if n = 0 then 4 else s.instrBytes c a)

/-- Does the body of a loop, whose last instruction has `size` bytes, contain `t`? -/
def Loop.has (l : Loop) (size : Nat) (t : Word) : Bool :=
  decide (l.first.toNat ≤ t.toNat) && decide (t.toNat < l.last.toNat + size)

/-- The levels as an emptying of the loop buffer leaves them (R103). -/
def dirty (ls : List Loop) : List Loop := ls.map fun l => { l with clean := false }

/-- The levels left after a transfer to `t`: those whose body contains it (R103).  Popping empties the loop buffer.  `size`
gives the bytes of the instruction at an address. -/
def loopsAfter (size : Word → Nat) (ls : List Loop) (t : Word) : List Loop :=
  let r := ls.filter fun l => l.has (size l.last) t
  if r.length = ls.length then ls else dirty r

/-- A taken transfer to `t` (R101, R103). -/
def State.transfer (s : State) (c : Fin 17) (t : Word) : State :=
  let size := s.instrBytes c
  let s := s.modCore c fun k =>
    let ls := loopsAfter size k.loops t
    { (if ls.length = k.loops.length then k else k.setLB false) with loops := ls }
  (s.gotoPc c t).boundary c

/-- The instruction at `last` completed without a transfer (R102): the count of a loop that ends there decrements; the
loop goes on at its start, or its level is popped and the enclosing loop is tested in the same way.  Gives the levels,
where execution goes on when a loop does, and the new `cst.LB` when it changes: the loop buffer supplies a body of at
most 64 instructions whose last iteration filled it (R63, R103). -/
def backEdge (beacon : Bool) (last : Word) (popped : Bool) : List Loop → List Loop × Option Word × Option Bool
  | [] => ([], none, if popped then some false else none)
  | l :: ls =>
    if l.last = last then
      if l.count.toNat ≤ 1 then backEdge beacon last true ls
      else
        ({ l with count := l.count - 1, clean := true } :: (if popped then dirty ls else ls), some l.first,
          some (beacon && l.clean && !popped && decide (l.last.toNat - l.first.toNat ≤ 252)))
    else (if popped then dirty (l :: ls) else l :: ls, none, if popped then some false else none)

/-- Run the back edge of the loops that end at `last`, falling through to the instruction after it when none goes on. -/
def State.loopEnd (s : State) (c : Fin 17) (last : Word) : State :=
  let r := backEdge (!isKeeper c) last false (s.cores[c]).loops
  let s := s.modCore c fun k =>
    { (match r.2.2 with
       | some b => k.setLB b
       | none => k) with loops := r.1 }
  match r.2.1 with
  | some t => s.gotoPc c t
  | none => s.gotoPc c (last + BitVec.ofNat 32 (s.instrBytes c last))

/-! ### Starting cores -/

/-- Beacon core `n` starts at `pc` with `cst.CAUSE` = `cause` (R58, R59, R90); a vector that it may not fetch faults there
(R81). -/
def State.startBeacon (s : State) (n : Fin 17) (cause : Nat) (pc : Word) : State :=
  let s := ((s.modCore n fun k => { k.fresh n cause pc with hangFrom := s.time.tRun }).setF (bcnState n) 1).setB (haltBit n) false
  if fetchOk n pc then s else s.beaconFault n .fetch pc

/-- A restarting core starts at its restart vector (R82). -/
def State.startRestarted (s : State) (n : Fin 17) : State :=
  if !isKeeper n && s.coreState n = 3 then s.startBeacon n 1 (s.cores[n]).restartPc else s

/-- A restarting core starts once its 60 ns are over (R82). -/
def State.settleCore (s : State) (n : Fin 17) : State :=
  if (s.cores[n]).startAt ≤ s.time.samples then s.startRestarted n else s

/-- Run `f` on core `c` if it executes instructions; a halted, faulted or held core executes none, and the cores stand still
where their clock is gated (R429).  A restarting core that comes to an instruction has started. -/
def State.onCore (s : State) (c : Fin 17) (f : State → State) : State :=
  let s := s.startRestarted c
  if s.coreRuns c then f s else s

/-- Restart of a faulted Beacon core, the 10 µs row of R82: registers cleared, every bound queue emptied into its drop
count, `FLAGACC` := `GAP`, `RESTARTS` counted; the core is restarting until it starts at its restart vector 60 ns on.  The
discarded entries do not count in `DROPS_BEFORE` of the next entry written (DESIGN CHOICE, log entry 123). -/
def State.restartBeacon (s : State) (n : Fin 17) : State :=
  let emptyQ (s : State) (q : Fin 4) : State :=
    let bq := (s.cores[n]).queues[q]
    if !bq.bound then s
    else
      let left := bq.entries.length
      let s := s.setF (F.BCN_n_Qq_STATUS_RD n q) (s.f (F.BCN_n_Qq_STATUS_WR n q))
      let s := s.incSat (F.BCN_n_Qq_DROPS_DROPS n q) left
      s.modCore n fun k => { k with queues := k.queues.set q { bq with entries := [] } }
  let s := emptyQ (emptyQ (emptyQ (emptyQ s 0) 1) 2) 3
  let at_ := s.time.samples + s.ticksPerUs * 60 / 1000
  let s := s.modCore n fun k => { { k.fresh n 1 k.restartPc with flagAcc := Flag.gap } with startAt := at_ }
  (s.incSat (F.BCN_n_RESTARTS_COUNT n)).setF (bcnState n) 3

end Sys2Proof.Machine
end

