-- ==== Sys2Proof/Machine/Flags.lean ====
section
/-! DEFINITION. Overflow and saturation of integer results (R69): every result is computed exactly as an integer and then
fitted to its destination, clamped with S = 1 (sets SV) or wrapped with S = 0 (sets OV). -/

namespace Sys2Proof.Machine
open Sys2Proof

/-- Largest value of a signed lane of `w` bits. -/
def smax (w : Nat) : Int := 2 ^ (w - 1) - 1

/-- Smallest value of a signed lane of `w` bits. -/
def smin (w : Nat) : Int := -(2 ^ (w - 1))

/-- Does `x` fit a signed lane of `w` bits? -/
def fits (w : Nat) (x : Int) : Bool := decide (smin w ≤ x) && decide (x ≤ smax w)

/-- `x` clamped to a signed lane of `w` bits. -/
def clampS (w : Nat) (x : Int) : Int := if x < smin w then smin w else if smax w < x then smax w else x

/-- A result fitted to `w` bits: with S = 1 clamped, with S = 0 its low bits (R69). -/
def fitS (sat : Bool) (w : Nat) (x : Int) : BitVec w :=
  if sat then BitVec.ofInt w (clampS w x) else BitVec.ofInt w x

/-- The sticky bits a list of lane results sets: OV when any wraps, SV when any clamps (R69). -/
def Core.stickyFit (k : Core) (sat : Bool) (w : Nat) (xs : List Int) : Core :=
  let bad := xs.any fun x => !fits w x
  k.sticky (bad && !sat) (bad && sat)

end Sys2Proof.Machine
end

