-- ==== Sys2Proof/Machine/Operands.lean ====
section
/-! DEFINITION. Operand forms of the core instructions: scalar-numbered registers (R100), immediates (R98, R99), and the
lanes of vectors and accumulators (R95, R96). -/

namespace Sys2Proof.Machine
open Sys2Proof

/-- Sign extension to 32 bits. -/
def sx {w : Nat} (x : BitVec w) : Word := x.signExtend 32

/-- Zero extension to 32 bits. -/
def zx {w : Nat} (x : BitVec w) : Word := x.setWidth 32

/-- A branch offset in words, as bytes. -/
def wordOff {w : Nat} (x : BitVec w) : Word := sx x <<< 2

/-- Is a scalar register number defined on core `c` (R100)? -/
def srnOk (c : Fin 17) (n : BitVec 6) : Bool := n.toNat ≤ 48 || (n.toNat = 49 && isKeeper c)

/-- Read a register by its scalar register number (R100). -/
def Core.readSrn (k : Core) (n : BitVec 6) : Word :=
  let i := n.toNat
  let x : Fin 8 := ⟨i % 8, Nat.mod_lt _ (by decide)⟩
  if i < 16 then k.readG ⟨i % 16, Nat.mod_lt _ (by decide)⟩
  else if i < 24 then k.ap[x]
  else if i < 32 then k.inc[x]
  else if i < 40 then k.rs[x]
  else if i < 48 then k.rz[x]
  else if i = 48 then k.cst
  else k.epc

/-- Write a register by its scalar register number (R100): a write to `cst` clears the sticky bits it writes 1 to. -/
def Core.writeSrn (k : Core) (n : BitVec 6) (v : Word) : Core :=
  let i := n.toNat
  let x : Fin 8 := ⟨i % 8, Nat.mod_lt _ (by decide)⟩
  if i < 16 then k.writeG ⟨i % 16, Nat.mod_lt _ (by decide)⟩ v
  else if i < 24 then { k with ap := k.ap.set x v }
  else if i < 32 then { k with inc := k.inc.set x v }
  else if i < 40 then { k with rs := k.rs.set x v }
  else if i < 48 then { k with rz := k.rz.set x v }
  else if i = 48 then { k with cst := k.cst &&& ~~~(v &&& 3) }
  else { k with epc := v }

/-- Lane `j` of width `w` of a vector (R96). -/
def lane (w : Nat) {n : Nat} (v : BitVec n) (j : Nat) : BitVec w := v.extractLsb' (w * j) w

/-- The lanes of width `w` of a 256-bit vector, lane 0 first. -/
def lanes (w : Nat) (v : BitVec 256) : List (BitVec w) := (List.range (256 / w)).map (lane w v)

/-- A vector `n` bits wide from its lanes of width `w`, lane 0 first. -/
def fromLanes (w n : Nat) : List (BitVec w) → BitVec n
  | [] => 0
  | x :: xs => (fromLanes w n xs <<< w) ||| x.setWidth n

/-- `v` with lane `j` of width `w` replaced. -/
def setLane (w : Nat) {n : Nat} (v : BitVec n) (j : Nat) (x : BitVec w) : BitVec n :=
  (v &&& ~~~((ones w).setWidth n <<< (w * j))) ||| (x.setWidth n <<< (w * j))

/-- The 16 lanes of an accumulator, as signed integers (R96). -/
def accLanes (a : BitVec 640) : List Int := (List.range 16).map fun i => (lane 40 a i).toInt

/-- Width of a lane of a format (R95): 16 bits for int16 and bf16, else 32. -/
def laneWidth (f : BitVec 3) : Nat := if f = 0 || f = 3 then 16 else 32

/-- Vector register `i` of a core. -/
def Core.vec (k : Core) (i : Fin 32) : BitVec 256 := k.v[i]

/-- Write vector register `i`. -/
def Core.setVec (k : Core) (i : Fin 32) (x : BitVec 256) : Core := { k with v := k.v.set i x }

/-- Write accumulator `i`. -/
def Core.setAcc (k : Core) (i : Fin 4) (x : BitVec 640) : Core := { k with acc := k.acc.set i x }

end Sys2Proof.Machine
end

