-- ==== Sys2Proof/Machine/Float.lean ====
section
/-! DEFINITION. Floating-point lanes (R97): bf16 and binary32 with round to nearest even, subnormals as zeros of the same
sign, one quiet NaN, and overflow to the largest finite value (S = 1) or infinity (S = 0). -/

namespace Sys2Proof.Machine
open Sys2Proof

/-- A floating-point value: `fin` is `m * 2 ^ e` with a sign. -/
inductive FVal where
  | nan
  | inf (neg : Bool)
  | fin (neg : Bool) (m : Nat) (e : Int)
deriving DecidableEq, Repr

/-- Significand bits, the hidden one included: 8 in a 16-bit lane (bf16), 24 in a 32-bit one (binary32). -/
def fprec (w : Nat) : Nat := w - 8

/-- The value of a lane; a subnormal is a zero of its sign (R97). -/
def fdecode (w : Nat) (x : BitVec w) : FVal :=
  let p := fprec w
  let v := x.toNat
  let neg := bitsOf v (w - 1) 1 = 1
  let e := bitsOf v (p - 1) 8
  let m := v % 2 ^ (p - 1)
  if e = 255 then (if m = 0 then .inf neg else .nan)
  else if e = 0 then .fin neg 0 0
  else .fin neg (2 ^ (p - 1) + m) ((e : Int) - 127 - ((p : Int) - 1))

/-- A lane from its sign, biased exponent and fraction. -/
def fpack (w : Nat) (neg : Bool) (e m : Nat) : BitVec w :=
  BitVec.ofNat w (bit neg * 2 ^ (w - 1) + e * 2 ^ (fprec w - 1) + m)

/-- The quiet NaN of R97. -/
def fnan (w : Nat) : BitVec w := fpack w false 255 (2 ^ (fprec w - 2))

/-- `m / 2 ^ n` rounded to nearest, ties to even. -/
def rne (m n : Nat) : Nat :=
  let q := m / 2 ^ n
  let r := m % 2 ^ n
  if n = 0 then m
  else if 2 ^ (n - 1) < r || (r = 2 ^ (n - 1) && q % 2 = 1) then q + 1 else q

/-- A finite value rounded to a lane of width `w`; the truth value says that its magnitude exceeded the format (R97).  A
result below the smallest normal number after rounding is a zero (log entry 10). -/
def fround (w : Nat) (sat : Bool) (neg : Bool) (m : Nat) (e : Int) : BitVec w × Bool :=
  if m = 0 then (fpack w neg 0 0, false)
  else
    let p := fprec w
    let len := Nat.log2 m + 1
    let sh := len - p
    let q0 := if len ≤ p then m * 2 ^ (p - len) else rne m sh
    let e0 : Int := if len ≤ p then e - ((p : Int) - len) else e + sh
    let q := if q0 = 2 ^ p then q0 / 2 else q0
    let e1 : Int := if q0 = 2 ^ p then e0 + 1 else e0
    let ex : Int := e1 + (p - 1) + 127
    if 255 ≤ ex then
      (if sat then fpack w neg 254 (2 ^ (p - 1) - 1) else fpack w neg 255 0, true)
    else if ex ≤ 0 then (fpack w neg 0 0, false)
    else (fpack w neg ex.toNat (q - 2 ^ (p - 1)), false)

/-- Encode a value (R97). -/
def fencode (w : Nat) (sat : Bool) : FVal → BitVec w × Bool
  | .nan => (fnan w, false)
  | .inf neg => (fpack w neg 255 0, false)
  | .fin neg m e => fround w sat neg m e

/-- The negated value. -/
def FVal.neg : FVal → FVal
  | .nan => .nan
  | .inf n => .inf (!n)
  | .fin n m e => .fin (!n) m e

/-- A signed significand at exponent `e0` below its own. -/
def scaled (neg : Bool) (m : Nat) (e e0 : Int) : Int :=
  let v : Int := (m * 2 ^ (e - e0).toNat : Nat)
  if neg then -v else v

/-- The exact sum; a zero sum of unlike signs is +0. -/
def FVal.add : FVal → FVal → FVal
  | .nan, _ => .nan
  | _, .nan => .nan
  | .inf a, .inf b => if a = b then .inf a else .nan
  | .inf a, _ => .inf a
  | _, .inf b => .inf b
  | .fin n1 m1 e1, .fin n2 m2 e2 =>
    let e := min e1 e2
    let x := scaled n1 m1 e1 e + scaled n2 m2 e2 e
    if x = 0 then .fin (n1 && n2) 0 0 else .fin (decide (x < 0)) x.natAbs e

/-- The exact product. -/
def FVal.mul : FVal → FVal → FVal
  | .nan, _ => .nan
  | _, .nan => .nan
  | .inf a, .inf b => .inf (a != b)
  | .inf a, .fin n m _ => if m = 0 then .nan else .inf (a != n)
  | .fin n m _, .inf b => if m = 0 then .nan else .inf (n != b)
  | .fin n1 m1 e1, .fin n2 m2 e2 => .fin (n1 != n2) (m1 * m2) (e1 + e2)

/-- Is `a` less than `b`?  Neither is NaN. -/
def FVal.lt : FVal → FVal → Bool
  | .inf true, .inf true => false
  | .inf true, _ => true
  | .inf false, _ => false
  | .fin _ _ _, .inf n => !n
  | .fin n1 m1 e1, .fin n2 m2 e2 =>
    let e := min e1 e2
    decide (scaled n1 m1 e1 e < scaled n2 m2 e2 e)
  | _, _ => false

/-- An integer as a value. -/
def FVal.ofInt (x : Int) : FVal := .fin (decide (x < 0)) x.natAbs 0

/-- A finite value rounded to the nearest integer, ties to even (R109). -/
def FVal.toInt (neg : Bool) (m : Nat) (e : Int) : Int :=
  let v : Int := if 0 ≤ e then (m * 2 ^ e.toNat : Nat) else (rne m (-e).toNat : Nat)
  if neg then -v else v

end Sys2Proof.Machine
end

