-- ==== Sys2Proof/Machine/Reading.lean ====
section
/-! DEFINITION. Exact readings of a power (R240, R254) and the numeric helpers that spectra, masks and Glow share. -/

namespace Sys2Proof.Machine
open Sys2Proof

/-- The square root of `n` rounded to nearest: it is never a tie. -/
def isqrtNear (n : Nat) : Nat := let r := isqrt n; if r * (r + 1) < n then r + 1 else r

/-- Is 2,560 × log10 (a / b) at least m − 1/2, where `a` and `b` are the 5,120th powers of numerator and denominator? -/
def dbAtLeast (a b : Nat) (m : Int) : Bool :=
  let x := 2 * m - 1
  if 0 ≤ x then decide (10 ^ x.toNat * b ≤ a) else decide (b ≤ a * 10 ^ (-x).toNat)

/-- Largest `m` from `lo` on, below `lo + 2 ^ i`, with `dbAtLeast`; `lo` is taken to have it. -/
def dbSearch (a b : Nat) : Nat → Int → Int
  | 0, lo => lo
  | i + 1, lo => dbSearch a b i (if dbAtLeast a b (lo + 2 ^ i) then lo + 2 ^ i else lo)

/-- LOG16 of `num / den` (R254): 256 × 10 log10 P, rounded to nearest with ties toward +∞, clamped at −32,768; 0 gives
−32,768. -/
def log16 (num den : Nat) : Int := if num = 0 then -32768 else dbSearch (num ^ 5120) (den ^ 5120) 16 (-32768)

/-- LIN32 of `num / den` (R254): binary32, nearest even. -/
def lin32 (num den : Nat) : BitVec 32 :=
  let s := 64 + Nat.log2 den
  let q := num * 2 ^ s / den
  (fround 32 false false (2 * q + bit (num * 2 ^ s % den != 0)) (-(s : Int) - 1)).1

/-- LIN32 of the square root of `num / den` (R254). -/
def lin32Sqrt (num den : Nat) : BitVec 32 :=
  let s := 64 + Nat.log2 den
  let v := num * 2 ^ (2 * s)
  let q := isqrt (v / den)
  (fround 32 false false (2 * q + bit (q * q * den != v)) (-(s : Int) - 1)).1

/-- Two's-complement bytes of a 16-bit value. -/
def bytes16 (v : Int) : List Byte := bytesOf 2 (v % 65536).toNat

end Sys2Proof.Machine
end

