-- ==== Sys2Proof/Machine/Fft.lean ====
section
/-! DEFINITION. Fixed tables and the transform of the Lens engines: the NCO table (R218), the window formulas (R241) and the
block floating-point transform (R244).  The tables of R505 are in a data file that is not part of the spec: where a rule gives
the exact value that a table entry rounds, the model computes it and leaves open by how much the last bit may differ (log
entry 3). -/

namespace Sys2Proof.Machine
open Sys2Proof

/-! ### Cosine in fixed point -/

/-- Fraction bits of the fixed-point numbers of this file. -/
def fixBits : Nat := 96

/-- π × 2^96, rounded. -/
def fixPi : Int := 248902613312231085230521944622

/-- The product of two fixed-point numbers. -/
def fixMul (a b : Int) : Int := a * b / 2 ^ fixBits

/-- Terms of the cosine series from number `j` on, `t` being the term before: `sq` is the square of the angle. -/
def cosTerms (sq : Int) : (fuel j : Nat) → (t : Int) → Int
  | 0, _, _ => 0
  | fuel + 1, j, t =>
    let u := -(fixMul t sq) / ((2 * j + 1) * (2 * j + 2) : Int)
    u + cosTerms sq fuel (j + 1) u

/-- cos (2π m / n) with 96 fraction bits, for m up to n / 2; the error is below 2^−80. -/
def fixCosHalf (m n : Nat) : Int :=
  let x := 2 * fixPi * m / n
  2 ^ fixBits + cosTerms (fixMul x x) 40 0 (2 ^ fixBits)

/-- cos (2π m / n) with 96 fraction bits. -/
def fixCos (m n : Nat) : Int := let r := m % n; fixCosHalf (min r (n - r)) n

/-- sin (2π m / n) with 96 fraction bits. -/
def fixSin (m n : Nat) : Int := fixCos (4 * m + 3 * n) (4 * n)

/-- A fixed-point number with `f` fraction bits, rounded to nearest. -/
def fixRound (v : Int) (f : Nat) : Int := roundUp (v * 2 ^ f) (2 ^ fixBits)

/-- Two's complement of 18 bits: a value beyond takes the nearest end. -/
def clamp18 (v : Int) : Int := max (-131072) (min 131071 v)

/-- A last-bit deviation of −1, 0 or 1. -/
def ulp (i : Fin 3) : Int := (i.val : Int) - 1

/-! ### The NCO table (R218) -/

/-- Cosine and sine of a phase index of 20 bits, with 17 fraction bits.  Phase 0 is exactly (1, 0), as R226 states of the
reset settings; the others are the 18-bit table of R505. -/
def ncoAt (i : Nat) : Int × Int :=
  if i = 0 then (131072, 0)
  else (clamp18 (fixRound (fixCos i (2 ^ 20)) 17 + ulp (Config.ncoUlp i).1),
        clamp18 (fixRound (fixSin i (2 ^ 20)) 17 + ulp (Config.ncoUlp i).2))

/-! ### Windows (R241) -/

/-- a0 to a4 of the cosine windows in units of 10^−8. -/
def windowTerms (win : Nat) : List Int :=
  match win with
  | 0 => [100000000]
  | 1 => [50000000, 50000000]
  | 2 => [35875000, 48829000, 14128000, 1168000]
  | _ => [21557895, 41663158, 27726316, 8357895, 694737]

/-- Σ (−1)^j a_j cos (2π j i / n) from term `j` on, in units of 10^−8. -/
def windowSeries (i n : Nat) : Nat → List Int → Int
  | _, [] => 0
  | j, a :: l => (if j % 2 = 0 then a else -a) * fixCos (j * i) n + windowSeries i n (j + 1) l

/-- Value `i` of a cosine window of size `n`: rounded to nearest, no value being a tie, in 18-bit two's complement with 17
fraction bits. -/
def cosWindow (win n i : Nat) : Int := clamp18 (roundUp (windowSeries i n 0 (windowTerms win) * 2 ^ 17) (10 ^ 8 * 2 ^ fixBits))

/-- Terms of I0(x) = Σ ((x/2)^j / j!)² from number `j + 1` on: `q` is (x/2)², `t` the term before. -/
def besselTerms (q : Int) : (fuel j : Nat) → (t : Int) → Int
  | 0, _, _ => 0
  | fuel + 1, j, t =>
    let u := fixMul t q / ((j + 1) * (j + 1) : Int)
    u + besselTerms q fuel (j + 1) u

/-- I0 of the number whose half, squared, is `q`. -/
def fixBessel (q : Int) : Int := 2 ^ fixBits + besselTerms q 120 0 (2 ^ fixBits)

/-- Value `i` of a Kaiser window of size `n` with β = `beta` / 256: (β/2)² (1 − (2i/n − 1)²) = β² i (n − i) / n².  Its
computation is in the data file of R505, which may differ in the last bit. -/
def kaiserWindow (n beta i : Nat) : Int :=
  let b : Int := beta * beta * 2 ^ fixBits
  let num := fixBessel (b * (i * (n - i) : Nat) / ((n * n * 65536 : Nat) : Int))
  let den := fixBessel (b / (4 * 65536))
  clamp18 (roundUp (num * 2 ^ 17) den.toNat + ulp (Config.kaiserUlp n beta i))

/-! ### The transform (R244) -/

/-- Fraction bits of the twiddle table: those of the data file, at least 16. -/
def twiddleFrac : Nat := 16 + Config.twiddleBits

/-- Entry `i` of the twiddle table for blocks of size `n`: exp(−j 2π i / n) with the fraction bits of the table. -/
def twiddle (n i : Nat) : Int × Int :=
  (fixRound (fixCos i n) twiddleFrac + ulp (Config.twiddleUlp n i).1,
   -fixRound (fixSin i n) twiddleFrac + ulp (Config.twiddleUlp n i).2)

/-- Complex sum, difference and product. -/
def cadd (a b : Int × Int) : Int × Int := (a.1 + b.1, a.2 + b.2)
def csub (a b : Int × Int) : Int × Int := (a.1 - b.1, a.2 - b.2)
def cxMul (a b : Int × Int) : Int × Int := (a.1 * b.1 - a.2 * b.2, a.1 * b.2 + a.2 * b.1)

/-- −j times a complex number. -/
def cturn (a : Int × Int) : Int × Int := (a.2, -a.1)

/-- Multiply the elements of a sub-block, from index `j` on, by the powers `r × j` of exp(−j 2π / len); the products have the
fraction bits of the table. -/
def twist (len r : Nat) : Nat → List (Int × Int) → List (Int × Int)
  | _, [] => []
  | j, x :: xs => cxMul x (twiddle len (r * j)) :: twist len r (j + 1) xs

/-- The exact outputs of a radix-4 decimation-in-frequency stage on one block, as its four sub-blocks one after another, with
the fraction bits of the table. -/
def radix4 (x : List (Int × Int)) : List (Int × Int) :=
  let q := x.length / 4
  let a := x.take q
  let b := (x.drop q).take q
  let c := (x.drop (2 * q)).take q
  let d := x.drop (3 * q)
  let ac := a.zipWith cadd c
  let bd := b.zipWith cadd d
  let am := a.zipWith csub c
  let bm := (b.zipWith csub d).map cturn
  let one (l : List (Int × Int)) : List (Int × Int) := l.map fun v => (v.1 * 2 ^ twiddleFrac, v.2 * 2 ^ twiddleFrac)
  one (ac.zipWith cadd bd) ++ twist x.length 1 0 (am.zipWith cadd bm) ++ twist x.length 2 0 (ac.zipWith csub bd) ++
  twist x.length 3 0 (am.zipWith csub bm)

/-- The exact outputs of a radix-2 stage on one block of two, with the fraction bits of the table. -/
def radix2 (x : List (Int × Int)) : List (Int × Int) :=
  let q := x.length / 2
  let one (l : List (Int × Int)) : List (Int × Int) := l.map fun v => (v.1 * 2 ^ twiddleFrac, v.2 * 2 ^ twiddleFrac)
  one ((x.take q).zipWith cadd (x.drop q)) ++ one ((x.take q).zipWith csub (x.drop q))

/-- Cut a list into blocks of `len`; `fuel` bounds how many. -/
def blocksOf (len : Nat) : Nat → List (Int × Int) → List (List (Int × Int))
  | 0, _ => []
  | fuel + 1, l => l.take len :: blocksOf len fuel (l.drop len)

/-- Every part shifted right by `s`, rounded to nearest with ties toward +∞. -/
def shiftParts (s : Nat) (l : List (Int × Int)) : List (Int × Int) :=
  l.map fun v => (roundUp v.1 (2 ^ s), roundUp v.2 (2 ^ s))

/-- The exact outputs of a stage on blocks of `len`. -/
def stageExact (two : Bool) (len : Nat) (l : List (Int × Int)) : List (Int × Int) :=
  (blocksOf len (l.length / len) l).flatMap (if two then radix2 else radix4)

/-- Does every part lie in −2^22 to 2^22 − 1? -/
def stageFits (l : List (Int × Int)) : Bool :=
  let ok (v : Int) : Bool := decide (-(2 ^ 22 * 2 ^ twiddleFrac) ≤ v) && decide (v ≤ (2 ^ 22 - 1) * 2 ^ twiddleFrac)
  l.all fun v => ok v.1 && ok v.2

/-- A stage with the smallest shift whose outputs fit, from `s` on, `more` greater ones being left: the last is taken in any
case.  Its outputs are rounded to nearest with ties toward +∞. -/
def stageShift (two : Bool) (len : Nat) (l : List (Int × Int)) (s : Nat) : Nat → List (Int × Int) × Nat
  | 0 => (shiftParts twiddleFrac (stageExact two len (shiftParts s l)), s)
  | more + 1 =>
    let x := stageExact two len (shiftParts s l)
    if stageFits x then (shiftParts twiddleFrac x, s) else stageShift two len l (s + 1) more

/-- The stages on blocks of 2^`log2`: radix-4 stages, and one radix-2 stage for an odd logarithm.  Gives the outputs in the order
of the stages and the sum of the shifts. -/
def stages (l : List (Int × Int)) (e : Nat) : Nat → List (Int × Int) × Nat
  | 0 => (l, e)
  | 1 =>
    let r := stageShift true 2 l 0 1
    (r.1, e + r.2)
  | log2 + 2 =>
    let r := stageShift false (2 ^ (log2 + 2)) l 0 2
    stages r.1 (e + r.2) log2

/-- Elements of four lists in turn. -/
def weave4 : List (Int × Int) → List (Int × Int) → List (Int × Int) → List (Int × Int) → List (Int × Int)
  | a :: as, b :: bs, c :: cs, d :: ds => a :: b :: c :: d :: weave4 as bs cs ds
  | _, _, _, _ => []

/-- The outputs of the stages in the order of their frequencies: sub-block r of a block holds those that are r modulo 4. -/
def unscramble : Nat → List (Int × Int) → List (Int × Int)
  | 0, l => l
  | 1, l => l
  | log2 + 2, l =>
    let q := l.length / 4
    weave4 (unscramble log2 (l.take q)) (unscramble log2 ((l.drop q).take q)) (unscramble log2 ((l.drop (2 * q)).take q))
      (unscramble log2 (l.drop (3 * q)))

/-- The transform of a windowed frame: the mantissas of X in bin order from −N/2, and the block exponent e. -/
def fft (log2n : Nat) (frame : List (Int × Int)) : List (Int × Int) × Nat :=
  let r := stages frame 0 log2n
  let x := unscramble log2n r.1
  (x.drop (2 ^ (log2n - 1)) ++ x.take (2 ^ (log2n - 1)), r.2)

end Sys2Proof.Machine
end

