-- ==== Sys2Proof/Machine/Tap.lean ====
section
/-! DEFINITION. The capture tap: what a raw lamp block does when the tower has it.  It goes to the capture FIFO (R339),
starts the filter chains with their first input element (R226) and runs the level and edge conditions (R264). -/

namespace Sys2Proof.Machine
open Sys2Proof

/-! ### Capture -/

/-- Change the capture writer of a channel. -/
def State.modCap (s : State) (ch : Fin 2) (g : CapCh → CapCh) : State := { s with cap := s.cap.set ch (g (s.cap.get ch)) }

/-- Change the acquisition memory controller. -/
def State.modAmc (s : State) (g : Amc → Amc) : State := { s with amc := g s.amc }

/-- Capture settings for sample `n` (R336, R337). -/
def CapCh.cfgAt (c : CapCh) (n : Nat) : CapCfg := (c.cfgs.find? fun x => decide (x.n ≤ n)).getD ⟨0, 0, 0, none⟩

/-- `MODE` (R332). -/
def CapCfg.mode (c : CapCfg) : Nat := bitsOf c.cap.toNat 0 2

/-- The samples of a raw lamp block from sample `n` on. -/
def State.rawElems (s : State) (flags : BitVec 24) : Nat → List (BitVec 12) → List CapElem
  | _, [] => []
  | n, v :: vs => { n := n, flags := flags, v := v.setWidth 32, brk := s.syncAt n } :: s.rawElems flags (n + 1) vs

/-- A raw lamp block of a channel that captures raw samples starts for the capture FIFO (R339). -/
def State.capRaw (s : State) (ch : Fin 2) (n : Nat) (codes : List (BitVec 12)) : State :=
  let es := if !s.blockRuns 9 then [] else (s.rawElems (s.sampleFlags ch n (n + 64)) n codes).filter fun e => ((s.cap.get ch).cfgAt e.n).mode = 1
  if es.isEmpty then s
  else s.modAmc fun a => { a with incoming := a.incoming ++ [{ ch := ch, iq := false, k := 0, elems := es }] }

/-! ### Local conditions on raw samples (R264) -/

/-- Change a trigger program. -/
def State.modProg (s : State) (p : Fin 4) (g : Prog → Prog) : State :=
  { s with sec := { s.sec with progs := s.sec.progs.set p (g s.sec.progs[p]) } }

/-- Change a local condition of a program. -/
def State.modLocal (s : State) (p : Fin 4) (i : Fin 8) (g : Local → Local) : State :=
  s.modProg p fun q => { q with locals := q.locals.set i (g q.locals[i]) }

/-- Settings in force at sample `n`. -/
def Prog.at_ (q : Prog) (n : Nat) : ProgCfg := (q.cfgs.find? fun c => decide (c.n ≤ n)).getD (ProgCfg.zero false)

/-- The newest settings. -/
def Prog.newest (q : Prog) : ProgCfg := q.cfgs.headD (ProgCfg.zero false)

/-- Settings in force at some sample from `a` up to, not including, `b`; newest first. -/
def Prog.over (q : Prog) (a b : Nat) : List ProgCfg :=
  let l := q.cfgs.filter fun c => decide (c.n < b)
  (l.takeWhile fun c => decide (a < c.n)) ++ (l.dropWhile fun c => decide (a < c.n)).take 1

/-- Field of `len` bytes at byte `off` of local-condition entry `i`. -/
def ProgCfg.cond (q : ProgCfg) (i off len : Nat) : Nat := ofBytes ((q.table.drop (32 * i + off)).take len)

/-- `TYPE`, `CH` and `POL` of a local condition. -/
def ProgCfg.ctype (q : ProgCfg) (i : Nat) : Nat := q.cond i 0 1
def ProgCfg.cch (q : ProgCfg) (i : Nat) : Nat := q.cond i 1 1 % 2
def ProgCfg.cpol (q : ProgCfg) (i : Nat) : Bool := (q.cond i 1 1).testBit 1

/-- Is local condition `i` a level or edge condition of channel `ch` in an enabled program? -/
def ProgCfg.raw (q : ProgCfg) (i : Nat) (ch : Fin 2) : Bool :=
  q.en && (q.ctype i = 1 || q.ctype i = 2) && q.cch i = ch.val

/-- A local condition under the settings from sample `n` on: afresh where they are other ones (R282). -/
def Local.follow (l : Local) (n : Nat) : Local := if l.from_ = n then l else { Local.zero with from_ := n }

/-- A level run after sample `n` (R264); the truth value says that it has just reached `w` samples.  `fresh`: the run
starts afresh at this sample. -/
def Local.level (l : Local) (n w : Nat) (fresh meets : Bool) : Local × Bool :=
  let run := if !meets then 0 else if fresh then 1 else l.run + 1
  ({ l with run := run, first := if run = 1 then n else l.first, next := n + 1 }, meets && decide (run = w))

/-- An edge condition after a sample (R264); the truth value says that the sample is the edge. -/
def Local.edge (l : Local) (v thr : Int) (hyst : Nat) (pol : Bool) : Local × Bool :=
  let beyond := if pol then decide (thr + hyst < v) else decide (v < thr - hyst)
  let reach := if pol then decide (v ≤ thr) else decide (thr ≤ v)
  if beyond then ({ l with armed := true }, false)
  else if l.armed && reach then ({ l with armed := false }, true)
  else (l, false)

/-- Level or edge condition `i` of program `p` takes the code of sample `n`. -/
def State.rawSample (s : State) (p : Fin 4) (i : Fin 8) (ch : Fin 2) (n : Nat) (v : Int) : State :=
  let q := (s.sec.progs[p]).at_ n
  if !q.raw i ch then s
  else
    let l := ((s.sec.progs[p]).locals[i]).follow q.n
    let thr := (BitVec.ofNat 16 (q.cond i 4 2)).toInt
    let arg := q.cond i 8 4
    let pol := q.cpol i
    let fresh := s.syncAt n || l.next != n || (s.flt.get ch).grids.any fun g => decide (g.origin = n)
    let (l', hit) := if q.ctype i = 1 then l.level n arg fresh (if pol then decide (v ≤ thr) else decide (thr ≤ v))
      else l.edge v thr arg pol
    let first := if q.ctype i = 1 then l'.first else n
    let s := s.modLocal p i fun _ => l'
    if hit then s.secEvent (16 + i.val) first 0 (s.sampleFlags ch first (n + 1)) (some p.val) none n (some ch) else s

/-- Run level or edge condition `i` of program `p` over codes from sample `n` on. -/
def State.rawCond (s : State) (p : Fin 4) (i : Fin 8) (ch : Fin 2) : Nat → List (BitVec 12) → State
  | _, [] => s
  | n, c :: cs => (s.rawSample p i ch n c.toInt).rawCond p i ch (n + 1) cs

/-- Every level and edge condition of the enabled programs on a block of channel `ch`. -/
def State.rawConds (s : State) (ch : Fin 2) (n : Nat) (codes : List (BitVec 12)) : State :=
  if !s.blockRuns 5 then s
  else (List.finRange 4).foldl (fun s p =>
    (List.finRange 8).foldl (fun s i =>
      if ((s.sec.progs[p]).over n (n + codes.length)).any fun q => q.raw i ch then s.rawCond p i ch n codes else s) s) s

/-! ### A lamp block -/

/-- The first input element of a chain is a restart (R226); a chain in reset takes none. -/
def State.fltStart (s : State) (ch : Fin 2) (n : Nat) : State :=
  if (s.flt.get ch).grids.isEmpty && s.blockRuns 3 then s.fltRestart ch n else s

/-- The tower has the lamp block of both channels whose first sample is `n`. -/
def State.rawBlock (s : State) (n : Nat) (a b : List (BitVec 12)) : State :=
  let s := (s.fltStart 0 n).fltStart 1 n
  let s := (s.capRaw 0 n a).capRaw 1 n b
  (s.rawConds 0 n a).rawConds 1 n b

end Sys2Proof.Machine
end

