-- ==== Sys2Proof/Machine/Mask.lean ====
section
/-! DEFINITION. Frequency masks (R260 to R262): how a spectrum meets a mask condition. -/

namespace Sys2Proof.Machine
open Sys2Proof

/-- Position and level of point `i` of a mask table (R261). -/
def maskPos (t : List Byte) (i : Nat) : Int := (BitVec.ofNat 16 (ofBytes ((t.drop (4 * i)).take 2))).toInt
def maskLevel (t : List Byte) (i : Nat) : Int := (BitVec.ofNat 16 (ofBytes ((t.drop (4 * i + 2)).take 2))).toInt

/-- Largest index below `n` whose position is at most `p`. -/
def maskIndex (t : List Byte) (p : Int) : Nat → Option Nat
  | 0 => none
  | i + 1 => if maskPos t i ≤ p then some i else maskIndex t p i

/-- The level of the line at position `p` (R261); none where the position is not tested. -/
def maskLine (t : List Byte) (npts : Nat) (p : Int) : Option Int :=
  match maskIndex t p npts with
  | none => none
  | some i =>
    if i + 1 = npts then (if maskPos t i < p then none else some (maskLevel t i))
    else
      let d := maskPos t (i + 1) - maskPos t i
      some (maskLevel t i + roundUp ((maskLevel t (i + 1) - maskLevel t i) * (p - maskPos t i)) d.toNat)

/-- Does bin `b` with reading `r` violate the mask? -/
def maskBin (t : List Byte) (ctrl : BitVec 32) (log2n : Nat) (b r : Int) : Bool :=
  match maskLine t (bitsOf ctrl.toNat 0 13) (b * 65536 / 2 ^ log2n) with
  | none => false
  | some l => if ctrl.getLsbD 28 then decide (l < r) else decide (r < l)

/-- Lowest violating bin of a spectrum and its reading (R262). -/
def maskViolation (t : List Byte) (ctrl : BitVec 32) (log2n den : Nat) : Int → List Nat → Option (Int × Int)
  | _, [] => none
  | b, v :: vs =>
    let r := log16 v den
    if maskBin t ctrl log2n b r then some (b, r) else maskViolation t ctrl log2n den (b + 1) vs

/-- Settings of a mask condition for a spectrum labelled at sample `n`. -/
def MaskSt.cfgAt (m : MaskSt) (n : Nat) : Nat × BitVec 32 × List Byte :=
  (m.cfgs.find? fun c => decide (c.1 ≤ n)).getD (0, 0, [])

/-- Clear the count and the record of the spectrum before the run (R262). -/
def MaskSt.clear (m : MaskSt) : MaskSt := { m with run := 0, flags := 0, bin := none, prev := none, edge := false }

/-- Change mask condition `c`. -/
def State.modMask (s : State) (c : Fin 16) (g : MaskSt → MaskSt) : State :=
  { s with sec := { s.sec with masks := s.sec.masks.set c (g s.sec.masks[c]) } }

/-- A mask condition after a spectrum that violates it at `v` or nowhere; the truth value says that its event occurs
(R262). -/
def MaskSt.see (m : MaskSt) (ctrl : BitVec 32) (sp : Spectrum) (v : Option (Int × Int)) : MaskSt × Bool :=
  let cond := bitsOf ctrl.toNat 13 3
  let meets := if cond = 1 || cond = 3 then v.isSome else v.isNone
  if !meets then ({ m with run := 0, prev := some false }, false)
  else
    let m := if m.run = 0 then
        { m with first := sp.n, flags := sp.flags, edge := m.prev = some false,
                 bin := if cond = 1 || cond = 3 then v else none }
      else { m with flags := m.flags ||| sp.flags }
    let m := { m with run := m.run + 1, prev := some true }
    (m, decide (m.run = bitsOf ctrl.toNat 16 11) && (cond < 2 || m.edge))

/-- Mask condition `c` sees a spectrum. -/
def State.maskSee (s : State) (c : Fin 16) (sp : Spectrum) : State :=
  let m := s.sec.masks[c]
  let (from_, ctrl, t) := m.cfgAt sp.n
  let m := if m.seen = from_ && m.grid = some sp.grid then m else m.clear
  let m := { m with seen := from_, grid := some sp.grid }
  if !ctrl.getLsbD 27 then s.modMask c fun _ => m.clear
  else
    let (m, hit) := m.see ctrl sp (maskViolation t ctrl sp.log2n sp.den sp.first sp.num)
    let s := s.modMask c fun _ => m
    if hit then s.secEvent c.val m.first 0 m.flags none m.bin sp.last (some (if c.val < 8 then 0 else 1)) else s

/-- The Sector's mask conditions of channel `ch` see a spectrum, unless the unit is in reset. -/
def State.masksSee (s : State) (ch : Fin 2) (sp : Spectrum) : State :=
  if !s.blockRuns 5 then s
  else (List.finRange 16).foldl (fun s c => if c.val / 8 = ch.val then s.maskSee c sp else s) s

/-! ### Entries -/

/-- Positions of the first `n` points decrease somewhere (R283, reason 7h). -/
def maskFalls (t : List Byte) : Nat → Bool
  | 0 => false
  | 1 => false
  | n + 2 => decide (maskPos t (n + 1) < maskPos t n) || maskFalls t (n + 1)

end Sys2Proof.Machine
end

