-- ==== Sys2Proof/Machine/Lens.lean ====
section
/-! DEFINITION. The Lens transform engines, units 4 and 5 (R237 to R257): frames and the frame grid, windows, spectra,
detectors, records, and their timeline entries. -/

namespace Sys2Proof.Machine
open Sys2Proof

/-- Change a Lens engine. -/
def State.modLns (s : State) (ch : Fin 2) (g : Lns → Lns) : State := { s with lns := s.lns.set ch (g (s.lns.get ch)) }

/-- Address of the mirror of selector `sel` (R255). -/
def lnsMirror (ch : Fin 2) (sel : Nat) : Nat := 0x740000 + ch.val * 0x40000 + 4 * sel

/-! ### Settings -/

/-- Settings for a frame at sample `n`. -/
def Lns.cfgAt (l : Lns) (n : Nat) : LnsCfg := (l.cfgs.find? fun c => decide (c.n ≤ n)).getD LnsCfg.zero

/-- The newest settings: those against which an entry of a group is checked (R131, R248). -/
def Lns.newest (l : Lns) : LnsCfg := l.cfgs.headD LnsCfg.zero

/-- N and the hop in outputs (R237). -/
def LnsCfg.size (c : LnsCfg) : Nat := 2 ^ c.log2n
def LnsCfg.hop (c : LnsCfg) : Nat := 2 ^ (c.log2n - c.div)

/-- Largest `HOP_DIV` for decimation `k` (R239). -/
def maxDiv (k : Nat) : Nat := if k = 0 then 1 else if k = 1 then 2 else if k = 2 then 3 else 4

/-- Reasons 3h and 4h of R248 that settings have under decimation `k`; 0 when valid (R251). -/
def LnsCfg.hopFault (c : LnsCfg) (k : Nat) : Nat :=
  if maxDiv k < c.div then 3 else if c.hop * 2 ^ k < 512 then 4 else 0

/-- Entry `n` of the user window, 15 fraction bits (R242). -/
def uwinAt (t : List Byte) (n : Nat) : Int := (BitVec.ofNat 16 (ofBytes ((t.drop (2 * n)).take 2))).toInt

/-- Sum of the first `n` entries of the user window. -/
def uwinSum (t : List Byte) : Nat → Int
  | 0 => 0
  | n + 1 => uwinSum t n + uwinAt t n

/-- Window value `i` as an integer with 17 fraction bits (R241, R244). -/
def LnsCfg.window (c : LnsCfg) (i : Nat) : Int :=
  if c.win = 5 then 4 * uwinAt c.uwin i
  else if c.win = 4 then kaiserWindow c.size c.beta i
  else cosWindow c.win c.size i

/-! ### The frame grid -/

/-- A detector group that is not complete is discarded (R246). -/
def State.dropGroup (s : State) (ch : Fin 2) : State :=
  match (s.lns.get ch).group with
  | none => s
  | some _ =>
    let s := s.modLns ch fun l => { l with group := none }
    ((s.incSat (F.LNS_n_PARTIAL_COUNT ch)).setB (F.LNS_n_STATUS_PARTIAL_SEEN ch) true).raiseLimited (122 + ch.val) 1000

/-- A group that can get no further frame, since none is in progress or complete, is discarded where a new origin is set or
the engine stops; frames that started earlier finish first (R246, R249). -/
def State.endGroup (s : State) (ch : Fin 2) : State :=
  let l := s.lns.get ch
  if l.open_.isEmpty && l.ready.isEmpty then s.dropGroup ch else s

/-- Suspend the engine for reason 3h or 4h (R251). -/
def State.lnsSuspend (s : State) (ch : Fin 2) (why : Nat) : State :=
  let s := (s.modLns ch fun l => { l with grid := none }).setB (F.LNS_n_STATUS_RUNNING ch) false
  let s := s.setF (F.LNS_n_STATUS_SUSP_REASON ch) why
  if s.on (F.LNS_n_STATUS_SUSPENDED ch) then s
  else (s.setB (F.LNS_n_STATUS_SUSPENDED ch) true).raise (118 + ch.val)

/-- Set the grid origin at sample `n` (R238), checked against the decimation in force (R251). -/
def State.lnsOrigin (s : State) (ch : Fin 2) (n k : Nat) : State :=
  let s := s.endGroup ch
  let c := (s.lns.get ch).cfgAt n
  if c.hopFault k != 0 then s.lnsSuspend ch (c.hopFault k)
  else
    let s := if s.on (F.LNS_n_STATUS_SUSPENDED ch) then
        ((s.setB (F.LNS_n_STATUS_SUSPENDED ch) false).setF (F.LNS_n_STATUS_SUSP_REASON ch) 0).raise (120 + ch.val)
      else s
    let s := (s.setB (F.LNS_n_STATUS_RUNNING ch) true).setPair (A.LNS_n_GRID_LO ch) (s.labelOf n).toNat
    s.modLns ch fun l => { l with grid := some n, nextFrame := n }

/-- The engine stops starting frames: disabled (R249, R251). -/
def State.lnsStop (s : State) (ch : Fin 2) : State :=
  let s := (s.endGroup ch).setB (F.LNS_n_STATUS_RUNNING ch) false
  let s := (s.setB (F.LNS_n_STATUS_SUSPENDED ch) false).setF (F.LNS_n_STATUS_SUSP_REASON ch) 0
  s.modLns ch fun l => { l with grid := none }

/-- Last output of a frame. -/
def LFrame.lastOut (f : LFrame) : Nat := f.n + (f.cfg.size - 1) * 2 ^ f.k

/-- A frame with its outputs out of those the engine holds. -/
def Lns.fill (l : Lns) (f : LFrame) : LFrame := { f with outs := l.buf.filter fun o => f.n ≤ o.n && o.n ≤ f.lastOut }

/-- Move the frames that output `n` completes to the complete ones, and forget outputs no frame in progress needs.  A frame
that is whole before one that started earlier waits for it (R42, R249). -/
def Lns.complete (l : Lns) (n : Nat) : Lns :=
  let rest := l.open_.dropWhile fun f => f.lastOut ≤ n
  { l with open_ := rest, ready := l.ready ++ (l.open_.takeWhile fun f => f.lastOut ≤ n).map l.fill,
           buf := match rest with
             | [] => []
             | f :: _ => l.buf.filter fun o => f.n ≤ o.n }

/-- Frames in progress are abandoned (R238); those whose outputs have all come are not among them. -/
def State.lnsAbandon (s : State) (ch : Fin 2) : State :=
  let l := s.lns.get ch
  let n := match l.buf.getLast? with
    | some o => o.n
    | none => 0
  let gone := (l.open_.filter fun f => n < f.lastOut).length
  (s.incSat (F.LNS_n_ABANDONED_COUNT ch) gone).modLns ch fun l =>
    { l with open_ := [], buf := [], ready := l.ready ++ (l.open_.filter fun f => f.lastOut ≤ n).map l.fill }

/-- Start the frame at output `n` (R237, R249).  The detector origin lies at a grid origin and at a frame at which an entry is
applied (R246). -/
def State.lnsFrame (s : State) (ch : Fin 2) (n : Nat) (g : FGrid) : State :=
  let c := (s.lns.get ch).cfgAt n
  s.modLns ch fun l =>
    { l with open_ := l.open_ ++
               [{ n := n, cfg := c, k := g.k, full := g.full, gridOrigin := l.grid.getD n,
                  origin := c.n != l.seen || l.grid = some n, outs := [] }],
             seen := c.n, nextFrame := n + c.hop * 2 ^ g.k }

/-- Is a grid origin due at the frame at output `n`: was an entry that sets one applied since the last frame (R238)? -/
def Lns.regrids (l : Lns) (n : Nat) : Bool := l.cfgs.any fun c => c.regrid && decide (l.seen < c.n) && decide (c.n ≤ n)

/-- Start frames, or the engine, at output `n` of filter grid `g` where the settings and the grid say so. -/
def State.lnsStart (s : State) (ch : Fin 2) (n : Nat) (g : FGrid) : State :=
  let c := (s.lns.get ch).cfgAt n
  let s := match (s.lns.get ch).grid with
    | none =>
      if c.en then s.lnsOrigin ch n g.k
      else if s.on (F.LNS_n_STATUS_SUSPENDED ch) then s.lnsStop ch
      else s
    | some _ =>
      if n != (s.lns.get ch).nextFrame then s
      else if !c.en then s.lnsStop ch
      else if (s.lns.get ch).regrids n then s.lnsOrigin ch n g.k
      else s
  let l := s.lns.get ch
  if l.grid.isSome && n = l.nextFrame then s.lnsFrame ch n g else s

/-- The engine takes an IQ output of filter grid `g` (R237, R238, R250); in reset it takes none. -/
def State.lnsTake (s : State) (ch : Fin 2) (o : IqOut) (g : FGrid) : State :=
  if !s.blockRuns 4 then s else
  let s := if (s.lns.get ch).fOrigin = some g.origin then s
    else
      let s := (s.lnsAbandon ch).modLns ch fun l => { l with fOrigin := some g.origin }
      if (s.lns.get ch).grid.isNone then s
      else if ((s.lns.get ch).cfgAt o.n).en then s.lnsOrigin ch o.n g.k
      else s.lnsStop ch
  let s := s.lnsStart ch o.n g
  if (s.lns.get ch).open_.isEmpty then s
  else s.modLns ch fun l => { l with buf := l.buf ++ [o] }.complete o.n

/-! ### A frame's spectrum -/

/-- Output `i` of a frame as it enters the transform (R244). -/
def entryPart (x w : Int) : Int := roundUp (x * w) 2048

/-- The windowed frame. -/
def LFrame.windowed (f : LFrame) : Nat → List IqOut → List (Int × Int)
  | _, [] => []
  | i, o :: os => (entryPart o.i (f.cfg.window i), entryPart o.q (f.cfg.window i)) :: f.windowed (i + 1) os

/-- Σw as an integer with 17 fraction bits. -/
def LnsCfg.windowSum (c : LnsCfg) : Nat → Int
  | 0 => 0
  | n + 1 => c.windowSum n + c.window n

/-- Bins from `first` to `last` of a list that begins at −N/2. -/
def binRange (log2n : Nat) (first last : Int) (l : List Nat) : List Nat :=
  (l.drop (first + 2 ^ (log2n - 1)).toNat).take (last - first + 1).toNat

/-- Exact P of the bins delivered (R240): numerators over one denominator.  With the parts of R244 the mantissas stand for
Σ w x 2^6 e^(…) / 2^e, so P is |X|² × 4^e / (64 × (ΣW)²). -/
def LFrame.power (f : LFrame) : List Nat × Nat × Nat :=
  let r := fft f.cfg.log2n (f.windowed 0 f.outs)
  let num := r.1.map fun x => (x.1 * x.1 + x.2 * x.2).toNat * 4 ^ r.2
  (binRange f.cfg.log2n f.cfg.first f.cfg.last num, 64 * (f.cfg.windowSum f.cfg.size).natAbs ^ 2, r.2)

/-- Ticks of the support of an output after its label (R222). -/
def supportTail (k : Nat) : Nat := if k = 0 then 0 else 40 * 2 ^ k - 2

/-- One bin in the record format (R254); `mean` counts the spectra of a mean. -/
def binBytes (lin rms : Bool) (den : Nat) (v : Nat) : List Byte :=
  if lin then bytesOf 4 (if rms then lin32Sqrt v den else lin32 v den).toNat else bytes16 (log16 v den)

/-- `PARAM` of a spectrum record (R254). -/
def specParam (f : LFrame) (det : Bool) (m e : Nat) : Nat :=
  f.cfg.log2n + f.cfg.div * 2 ^ 5 + f.cfg.win * 2 ^ 8 + (if det then f.cfg.det else 0) * 2 ^ 11 + bit f.cfg.lin * 2 ^ 14 +
  bit det * 2 ^ 15 + (if det then m - 1 else 0) * 2 ^ 16 + e * 2 ^ 32 + f.k * 2 ^ 37 + bit f.full * 2 ^ 42 +
  (BitVec.ofInt 17 f.cfg.first).toNat * 2 ^ 47

/-- Deliver a spectrum or a detector output to the bindings and records that take it (R253, R254). -/
def State.lnsDeliver (s : State) (ch : Fin 2) (f : LFrame) (det : Bool) (n : Nat) (flags : BitVec 24) (num : List Nat)
    (den m e last : Nat) : State :=
  let rms := det && f.cfg.det = 4
  let payload := num.flatMap (binBytes f.cfg.lin rms den)
  let t := s.labelOf n
  let param := specParam f det m e
  let item : DispItem :=
    { src := (if det then 7 else 5) + ch.val, key := none, kind := 3, source := ch.val, tick := t, flags := flags,
      frac := 0, param := BitVec.ofNat 64 param, payload := payload }
  let s := { s with disp := { s.disp with waiting := s.disp.waiting ++ [item] } }
  s.offer ((if det then 5 else 3) + ch.val)
    { mkRecord 3 ch.val flags t param payload (last + 64000) with cover := [coverOf ch.val n (last + 1)] }

/-- Combine the numerators of one more spectrum into a group (R245). -/
def groupCombine (mode : Nat) (acc num : List Nat) : List Nat :=
  match mode with
  | 0 => num
  | 1 => acc.zipWith max num
  | 2 => acc.zipWith min num
  | _ => acc.zipWith (· + ·) num

/-- The detector takes a spectrum (R245, R246). -/
def State.lnsDetect (s : State) (ch : Fin 2) (f : LFrame) (flags : BitVec 24) (num : List Nat) (den e last : Nat) : State :=
  let s := if f.origin then s.dropGroup ch else s
  let g : Group := match (s.lns.get ch).group with
    | none => { first := f.n, count := 1, flags := flags, exp := e, acc := num, den := den, last := last }
    | some g => { g with count := g.count + 1, flags := g.flags ||| flags, exp := max g.exp e,
                         acc := groupCombine f.cfg.det g.acc num, last := last }
  if g.count < f.cfg.m then s.modLns ch fun l => { l with group := some g }
  else
    let s := s.modLns ch fun l => { l with group := none }
    let den := if f.cfg.det = 3 || f.cfg.det = 4 then den * g.count else den
    s.lnsDeliver ch f true g.first g.flags g.acc den g.count g.exp last

/-- Flags of a frame: the OR of those of its outputs (R253). -/
def LFrame.flags (f : LFrame) : BitVec 24 := f.outs.foldl (fun a o => a ||| o.flags) 0

/-- The oldest complete frame becomes a spectrum (R240, R244, R253): it goes to the Sector, to Glow, to the bindings and
records that take spectra, and to the detector. -/
def State.lnsSpectrum (s : State) (ch : Fin 2) (f : LFrame) : State :=
  let (num, den, e) := f.power
  let flags := f.flags ||| s.lateFlag (4 + ch.val) (s.labelOf f.n) ||| s.gapFlag (2 + ch)
  let s := s.gapDone (2 + ch)
  let last := f.lastOut + supportTail f.k
  let sp : Spectrum := { n := f.n, label := s.labelOf f.n, flags := flags, first := f.cfg.first, log2n := f.cfg.log2n,
                         grid := f.gridOrigin, num := num, den := den, last := last, due := s.time.samples }
  let s := s.incPair (A.LNS_n_FRAMES_LO ch)
  let s := s.setF (F.LNS_n_MAX_EXP_E ch) (max (s.f (F.LNS_n_MAX_EXP_E ch)) e)
  let s := s.masksSee ch sp
  let s := { s with specs := s.specs.set ch (s.specs.get ch ++ [sp]) }
  let s := s.lnsDeliver ch f false f.n flags num den 1 e last
  let s := s.lnsDetect ch f flags num den e last
  if (s.lns.get ch).grid = some f.gridOrigin then s else s.endGroup ch

/-- The converter has come to the release of the spectrum of frame `f` (R41). -/
def State.lnsDue (s : State) (f : LFrame) : State :=
  let d := (if f.k = 0 then 32 else 32 + 40 * 2 ^ f.k) + f.cfg.size * 2 ^ f.k + 2 * f.cfg.size + 3072
  s.advanceSamples (f.n + d + 384)

/-- LENS_FRAME (R240).  With no frame complete nothing changes (log entry 7). -/
def execLensFrame (n : Fin 2) (s : State) : Out3 :=
  .next (if !s.pipeRuns then s else match (s.lns.get n).ready with
    | [] => s
    | f :: fs =>
      ((s.modLns n fun l => { l with ready := fs }).lnsDue f).lnsSpectrum n f)

/-- A write of `LNS_n_MAX_EXP.CLEAR` (R256). -/
def execMaxExpClear (n : Fin 2) (s : State) : Out3 := .next (s.setF (F.LNS_n_MAX_EXP_E n) 0)

/-! ### Entries -/

/-- Record a refusal of unit 4 or 5 (R248). -/
def lnsRefuse (ch : Fin 2) (e : Entry) (reason : Nat) (s : State) : State :=
  let s := s.setF (F.LNS_n_LAST_REFUSE_SEL ch) (if e.sel = 0x10000 then 15 else e.sel)
  ((s.setF (F.LNS_n_LAST_REFUSE_REASON ch) reason).setB (F.LNS_n_STATUS_REFUSED ch) true).raise (116 + ch.val)

/-- `LNS_n_UWIN_SUM` follows a user window, or a size, that comes into force with `WINDOW` = 5 (R242). -/
def State.updUwin (s : State) (ch : Fin 2) (c : LnsCfg) : State :=
  if c.win = 5 then s.setF (F.LNS_n_UWIN_SUM_SUM ch) (BitVec.ofInt 32 (uwinSum c.uwin c.size)).toNat else s

/-- New settings from sample `c.n` on; they join those of the same element. -/
def State.lnsPut (s : State) (ch : Fin 2) (c : LnsCfg) : State :=
  let s := s.modLns ch fun l =>
    { l with cfgs := { c with regrid := c.regrid || l.cfgs.any fun x => x.n = c.n && x.regrid } ::
               l.cfgs.filter fun x => x.n != c.n }
  let off := !c.en && (s.lns.get ch).grid.isNone && s.on (F.LNS_n_STATUS_SUSPENDED ch)
  let s := if off then s.lnsStop ch else s
  s.updUwin ch c

/-- Reason 5h: the bin range against N (R248). -/
def LnsCfg.badBins (c : LnsCfg) : Bool :=
  decide (c.first < -(2 ^ (c.log2n - 1) : Nat)) || decide ((2 ^ (c.log2n - 1) : Nat) ≤ c.last) || decide (c.last < c.first)

/-- Reason 6h: the user window's sum (R248). -/
def LnsCfg.badSum (c : LnsCfg) : Bool := c.win = 5 && decide (uwinSum c.uwin c.size ≤ 0)

/-- A 17-bit two's-complement bin number. -/
def binOf (v : Nat) : Int := (BitVec.ofNat 17 v).toInt

/-- The settings that an entry asks for: its value and the width of its field (R247). -/
def LnsCfg.with (c : LnsCfg) (sel : Nat) (opnd : BitVec 32) (tab : List Byte) : LnsCfg :=
  let v := opnd.toNat
  match sel with
  | 0 => { c with en := opnd.getLsbD 0 }
  | 1 => { c with log2n := v % 32 }
  | 2 => { c with win := v % 8 }
  | 3 => { c with beta := v % 65536 }
  | 4 => { c with div := v % 8 }
  | 5 => { c with det := v % 8 }
  | 6 => { c with m := v % 131072 }
  | 7 => { c with first := binOf v }
  | 8 => { c with last := binOf v }
  | 9 => { c with lin := opnd.getLsbD 0 }
  | _ => { c with uwin := tab }

/-- Width of the field of a selector (R247). -/
def lnsWidth (sel : Nat) : Nat :=
  match sel with
  | 0 => 1 | 1 => 5 | 2 => 3 | 3 => 16 | 4 => 3 | 5 => 3 | 6 => 17 | 7 => 17 | 8 => 17 | 9 => 1 | _ => 32

/-- Reason 1h of a selector (R247). -/
def lnsRange (c : LnsCfg) (sel : Nat) : Bool :=
  match sel with
  | 1 => decide (c.log2n < 8) || decide (16 < c.log2n)
  | 2 => decide (5 < c.win)
  | 3 => decide (10240 < c.beta)
  | 4 => decide (4 < c.div)
  | 5 => decide (4 < c.det)
  | 6 => decide (c.m < 1) || decide (65536 < c.m)
  | _ => false

/-- Does an entry set a new grid origin: a size, a hop, or `ENABLE` 1 while the engine is disabled (R238)? -/
def LnsCfg.regrids (c : LnsCfg) (sel : Nat) (opnd : BitVec 32) : Bool :=
  sel = 1 || sel = 4 || (sel = 0 && opnd.getLsbD 0 && !c.en)

/-- Decimation in force for the label of sample `n` (R221, R248): that of the filter grid it lies in. -/
def State.fltKAt (s : State) (ch : Fin 2) (n : Nat) : Nat :=
  match ((s.flt.get ch).grids.filter fun g => decide (g.origin ≤ n)).getLast? with
  | some g => g.k
  | none => s.fltK ch

/-- Effect of an entry of unit 4 or 5 whose element has the label `at_` (R248, R249). -/
def lnsEff (ch : Fin 2) (at_ : Long) (e : Entry) (tab : List Byte) (s : State) : Except Nat State :=
  let old := (s.lns.get ch).newest
  let c := { old.with e.sel e.opnd tab with
    n := max old.n (s.sampleOf (s.entryAt (4 + ch.val) at_ e)), regrid := old.regrids e.sel e.opnd }
  let scalar := e.table.isNone
  let bad := lnsRange c e.sel
  let k := s.fltKAt ch (s.sampleOf at_)
  checked [
      (scalar && bad, 1),
      (scalar && decide (2 ^ lnsWidth e.sel ≤ e.opnd.toNat), 2),
      (e.sel = 4 && !bad && decide (maxDiv k < c.div), 3),
      ((e.sel = 1 || e.sel = 4) && !bad && decide (c.hop * 2 ^ k < 512), 4),
      ((e.sel = 1 || e.sel = 7 || e.sel = 8) && !bad && c.badBins, 5),
      ((e.sel = 1 || e.sel = 2 || !scalar) && !bad && c.badSum, 6)]
    ((if scalar then s.setReg (lnsMirror ch e.sel) e.opnd else s).lnsPut ch c)

/-- The next entry of a Lens unit, of the selectors `sel`, reaches its element. -/
def State.lnsEntry (s : State) (n : Fin 2) (sel : Nat) (label : Long) : State :=
  s.applyNext (4 + n.castLE (by decide)) (fun x => x = sel) label (lnsEff n label) (lnsRefuse n)

/-- ENABLE (R249). -/
def execEnable (n : Fin 2) (label : BitVec 64) (s : State) : Out3 := .next (s.lnsEntry n 0 label)
/-- FFT_LOG2N (R238). -/
def execFftLog2n (n : Fin 2) (label : BitVec 64) (s : State) : Out3 := .next (s.lnsEntry n 1 label)
/-- WINDOW (R241). -/
def execWindow (n : Fin 2) (label : BitVec 64) (s : State) : Out3 := .next (s.lnsEntry n 2 label)
/-- KAISER_BETA (R242). -/
def execKaiserBeta (n : Fin 2) (label : BitVec 64) (s : State) : Out3 := .next (s.lnsEntry n 3 label)
/-- HOP_DIV (R239). -/
def execHopDiv (n : Fin 2) (label : BitVec 64) (s : State) : Out3 := .next (s.lnsEntry n 4 label)
/-- DET_MODE (R245). -/
def execDetMode (n : Fin 2) (label : BitVec 64) (s : State) : Out3 := .next (s.lnsEntry n 5 label)
/-- DET_COUNT (R245). -/
def execDetCount (n : Fin 2) (label : BitVec 64) (s : State) : Out3 := .next (s.lnsEntry n 6 label)
/-- BIN_FIRST (R248). -/
def execBinFirst (n : Fin 2) (label : BitVec 64) (s : State) : Out3 := .next (s.lnsEntry n 7 label)
/-- BIN_LAST (R248). -/
def execBinLast (n : Fin 2) (label : BitVec 64) (s : State) : Out3 := .next (s.lnsEntry n 8 label)
/-- FORMAT (R254). -/
def execFormat (n : Fin 2) (label : BitVec 64) (s : State) : Out3 := .next (s.lnsEntry n 9 label)
/-- USER_WINDOW (R242). -/
def execUserWindow (n : Fin 2) (label : BitVec 64) (s : State) : Out3 := .next (s.lnsEntry n 0x10000 label)

end Sys2Proof.Machine
end

