-- ==== Sys2Proof/Machine/Filter.lean ====
section
/-! DEFINITION. The filter and decimation chains, units 2 and 3 (R217 to R236): NCO and mixer, decimation, scaling, the
rank-filtered trace, threshold events, and their timeline entries. -/

namespace Sys2Proof.Machine
open Sys2Proof

/-! ### NCO and mixer (R218, R220) -/

/-- The accumulator of a grid at element `e` and the phase offset there, as a 48-bit phase. -/
def FGrid.phi (g : FGrid) (e : Nat) : Nat :=
  let a := match g.nco.find? fun x => decide (x.1 ≤ e) with
    | some (f0, a0, fr) => a0 + (e - f0) * fr
    | none => 0
  let p := match g.phase.find? fun x => decide (x.1 ≤ e) with
    | some x => x.2
    | none => 0
  (a + p * 2 ^ 32) % 2 ^ 48

/-- A sample mixed by a phase: (I, Q) with 17 fraction bits.  Full span multiplies by 1, −j, −1, j exactly (R220). -/
def FGrid.mix (g : FGrid) (e : Nat) (x : Int) : Int × Int :=
  if g.full then
    match (e - g.origin) % 4 with
    | 0 => (x * 131072, 0)
    | 1 => (0, -x * 131072)
    | 2 => (-x * 131072, 0)
    | _ => (0, x * 131072)
  else
    let c := ncoAt (g.phi e / 2 ^ 28)
    (x * c.1, -(x * c.2))

/-- The mixed support of an output, from element `e` on. -/
def FGrid.mixed (g : FGrid) : Nat → List (BitVec 12) → List (Int × Int)
  | _, [] => []
  | e, c :: cs => g.mix e c.toInt :: g.mixed (e + 1) cs

/-! ### Decimation and scaling (R221 to R223) -/

/-- Ticks of the support S (R222). -/
def supportLen (k : Nat) : Nat := supportTail k + 1

/-- The filtered value: numerators and the bits of their fraction.  With k = 0 it is the mixed sample; for k ≥ 1 the
coefficient sets are those of R505, whose values the model holds opaque with 40 fraction bits. -/
def FGrid.filtered (g : FGrid) (codes : List (BitVec 12)) : Int × Int × Nat :=
  let m := g.mixed g.next codes
  if g.k = 0 then (match m with
    | x :: _ => (x.1, x.2, 17)
    | [] => (0, 0, 17))
  else
    let r := Config.decimate g.k m
    (r.1, r.2, 40)

/-- A part scaled by 16 × 2^gain and rounded, ties toward +∞, before the clamp (R223). -/
def scalePart (v : Int) (frac gain : Nat) : Int := roundUp (v * 2 ^ (4 + gain)) (2 ^ frac)

/-- The clamp to 16 bits. -/
def clamp16 (v : Int) : Int := max (-32768) (min 32767 v)

/-! ### Threshold events (R227 to R230) -/

/-- M and RANK of an operand (R227). -/
def rankM (v : BitVec 32) : Nat :=
  match bitsOf v.toNat 2 3 with
  | 0 => 3 | 1 => 5 | 2 => 7 | 3 => 9 | _ => 15
def rankWin (v : BitVec 32) : Nat := if v.getLsbD 0 then rankM v else 1
def rankOf (v : BitVec 32) : Nat :=
  let r := bitsOf v.toNat 5 4
  if v.getLsbD 0 then (if r = 0 then (rankM v + 1) / 2 else r) else 1

/-- Source of the trace: power or magnitude (R227). -/
def traceSource (v : BitVec 32) (i q : Int) : Nat :=
  let p := (i * i + q * q).toNat
  if v.getLsbD 1 then p else isqrtNear p

/-- Put a number into an ascending list. -/
def insertUp (x : Nat) : List Nat → List Nat
  | [] => [x]
  | y :: ys => if x ≤ y then x :: y :: ys else y :: insertUp x ys

/-- The list, ascending. -/
def sortUp (l : List Nat) : List Nat := l.foldr insertUp []

/-- Release delay of the IQ outputs (R41, R222). -/
def fltDelay (k : Nat) : Nat := if k = 0 then 32 else 32 + 40 * 2 ^ k

/-- Form the trace values that the outputs held in the first grid allow (R227), for the detector to examine at their release
delay (R41); `fuel` bounds them. -/
def State.trace (s : State) (ch : Fin 2) : Nat → State
  | 0 => s
  | fuel + 1 =>
    match (s.flt.get ch).grids with
    | [] => s
    | g :: gs =>
      match g.outs with
      | [] => s
      | o :: os =>
        let (from_, rc) := histAt (s.flt.get ch).rank o.1
        let m := rankWin rc
        if g.outs.length < m then s
        else
          let win := (o :: os).take m
          let vals := sortUp (win.map fun w => traceSource rc w.2.1 w.2.2.1)
          let flags := win.foldl (fun a w => a ||| w.2.2.2) 0
          let s := s.modFlt ch fun f => { f with grids := { g with outs := os } :: gs }
          let last := o.1 + (m - 1) * 2 ^ g.k + supportTail g.k
          let due := o.1 + (m - 1) * 2 ^ g.k + fltDelay g.k + 16 + 384
          (s.holdOut ch.val due (.trace ch g.k o.1 last (vals.getD (rankOf rc - 1) 0) flags from_)).trace ch fuel

/-! ### The consumers of an IQ output -/

/-- The 4 bytes of an output (R365). -/
def iqBytes (i q : Int) : List Byte := bytes16 i ++ bytes16 q

/-- Add an output to the block a binding gathers; a whole block is an entry (R70). -/
def Binding.gather (b : Binding) (ch : Fin 2) (t : Long) (flags : BitVec 24) (param : Nat) (bs : List Byte) :
    Binding × Option DispItem :=
  if b.src != 1 + ch.val || decide (t.toNat < b.start.toNat) then (b, none)
  else
    let tick := if b.buf.isEmpty then t else b.bufTick
    let prm := if b.buf.isEmpty then BitVec.ofNat 64 param else b.bufParam
    let fl := (if b.buf.isEmpty then 0 else b.bufFlags) ||| flags
    let buf := b.buf ++ bs
    if buf.length < 4 * (256 * 2 ^ b.blk) then ({ b with buf := buf, bufTick := tick, bufFlags := fl, bufParam := prm }, none)
    else
      ({ b with buf := [], bufFlags := 0 },
       some { src := b.src, key := some (b.set_.headD 0, b.q), kind := 2, source := ch.val, tick := tick, flags := fl, frac := 0,
              param := prm, payload := buf })

/-- Every binding gathers an output. -/
def State.iqGather (s : State) (ch : Fin 2) (t : Long) (flags : BitVec 24) (param : Nat) (bs : List Byte) : State :=
  let r := s.disp.bindings.map fun b => b.gather ch t flags param bs
  { s with disp := { bindings := r.map (·.1), waiting := s.disp.waiting ++ r.filterMap (·.2) } }

/-- `PARAM` of IQ data (R231). -/
def iqParam (k : Nat) (full : Bool) (gain freq : Nat) : Nat := k + bit full * 2 ^ 5 + gain * 2 ^ 8 + freq * 2 ^ 16

/-- The group of IQ outputs in the making goes to the capture FIFO (R339). -/
def State.capFlush (s : State) (ch : Fin 2) (k : Nat) : State :=
  let g := (s.cap.get ch).group
  if g.isEmpty then s
  else (s.modCap ch fun c => { c with group := [] }).modAmc fun a =>
    { a with incoming := a.incoming ++ [{ ch := ch, iq := true, k := k, elems := g }] }

/-- The capture tap takes an output (R332, R336, R339): one below `MINK` is a loss. -/
def State.capIq (s : State) (ch : Fin 2) (k : Nat) (e : CapElem) : State :=
  let c := (s.cap.get ch).cfgAt e.n
  if c.mode != 2 then s.capFlush ch k
  else if k < bitsOf c.cap.toNat 3 5 then
    (s.capFlush ch k).modCap ch fun c => { c with gapAt := e.n :: c.gapAt }
  else
    let s := if e.brk then s.capFlush ch k else s
    let s := s.modCap ch fun c => { c with group := c.group ++ [e] }
    if (s.cap.get ch).group.length = 64 then s.capFlush ch k else s

/-- A power condition after an output of power `p` at sample `n` of the filter grid that began at `grid` (R264): every 2^w
consecutive outputs of a grid are a window.  The truth value says that the event occurs, with the first output and the
flags of its window: the test is met, and the window before did not meet it. -/
def Local.power (l : Local) (n grid w p thr : Nat) (pol : Bool) (flags : BitVec 24) : Local × Bool :=
  let cont := l.grid = grid && l.next = n
  let win := (if cont then l.win else []) ++ [(n, p, flags)]
  let win := win.drop (win.length - 2 ^ w)
  let sum := win.foldl (fun a x => a + x.2.1) 0
  let meets := decide (2 ^ w ≤ win.length) && (if pol then decide (sum < thr * 2 ^ w) else decide (thr * 2 ^ w ≤ sum))
  ({ l with win := win, above := meets, first := (win.headD (n, p, flags)).1,
            flags := win.foldl (fun f x => f ||| x.2.2) 0 }, meets && !(cont && l.above))

/-- The power conditions of the enabled programs take an output (R264). -/
def State.powerConds (s : State) (ch : Fin 2) (n grid k p : Nat) (flags : BitVec 24) : State :=
  (List.finRange 4).foldl (fun (s : State) (pr : Fin 4) =>
    (List.finRange 8).foldl (fun (s : State) (i : Fin 8) =>
      let q := (s.sec.progs[pr]).at_ n
      if q.en && q.ctype i = 3 && q.cch i = ch.val then
        let (l, hit) := (((s.sec.progs[pr]).locals[i]).follow q.n).power n grid (q.cond i 8 4 % 32) p (q.cond i 4 4) (q.cpol i) flags
        let s := s.modLocal pr i fun _ => { l with next := n + 2 ^ k, grid := grid }
        if hit then s.secEvent (16 + i.val) l.first 0 l.flags (some pr.val) none (n + supportTail k) (some ch) else s
      else s) s) s

/-! ### FILTER_OUTPUT -/

/-- Old grids whose outputs are all out end; the trace starts again behind their values (R224, R229). -/
def State.fltTurn (s : State) (ch : Fin 2) : Nat → State
  | 0 => s
  | fuel + 1 =>
    match (s.flt.get ch).grids with
    | g :: h :: gs =>
      if (g.end_.getD 0) ≤ g.next then
        ((s.modFlt ch fun f => { f with grids := h :: gs }).holdOut ch.val s.time.samples (.turn ch g.k)).fltTurn ch fuel
      else s
    | _ => s

/-- The flags the chain gives output `n` of a grid beside those of its inputs (R217, R219, R224): `SETTLE` in the first 40
outputs of a grid with k ≥ 1 and where the support holds a phase step. -/
def FGrid.settle (g : FGrid) : BitVec 24 :=
  let e := g.next + supportLen g.k
  flagIf ((g.k != 0 && decide (g.made < 40)) || g.steps.any fun t => decide (g.next ≤ t) && decide (t < e)) Flag.settle

/-- Count a clamp (R223). -/
def State.fltSat (s : State) (ch : Fin 2) (sat : Bool) : State :=
  if sat then
    ((s.incSat (F.FLT_n_SAT_COUNT_COUNT ch)).setB (F.FLT_n_STATUS_SAT_SEEN ch) true).raiseLimited (93 + 12 * ch.val) 1000
  else s

/-- Produce the next output of the first grid from the codes of its support. -/
def State.fltOutput (s : State) (ch : Fin 2) (g : FGrid) (codes : List (BitVec 12)) : State :=
  let n := g.next
  let f := s.flt.get ch
  let gain := bitsOf (histAt f.outCtrl n).2.toNat 0 4
  let (vi, vq, fr) := g.filtered codes
  let i0 := scalePart vi fr gain
  let q0 := scalePart vq fr gain
  let i := clamp16 i0
  let q := clamp16 q0
  let sat := decide (i != i0) || decide (q != q0)
  let t := s.labelOf n
  let flags := s.sampleFlags ch n (n + supportLen g.k) ||| g.settle ||| flagIf sat Flag.sat ||| s.lateFlag (2 + ch.val) t |||
    s.gapFlag ch
  let s := s.gapDone ch
  let g' := { g with next := n + 2 ^ g.k, made := g.made + 1, outs := g.outs ++ [(n, i, q, flags)] }
  let s := (s.modFlt ch fun f => { f with grids := g' :: f.grids.drop 1 }).fltSat ch sat
  let s := s.fltSettling ch
  let s := s.iqGather ch t flags (iqParam g.k g.full gain ((f.log.find? fun x => decide (x.1 ≤ n)).map (·.2.2.2) |>.getD 0))
    (iqBytes i q)
  let w := (BitVec.ofInt 16 q ++ BitVec.ofInt 16 i : BitVec 32)
  let s := s.capIq ch g.k { n := n, flags := flags, v := w, brk := g.made = 0 || s.syncAt n }
  let s := s.powerConds ch n g.origin g.k (i * i + q * q).toNat flags
  let s := s.lnsTake ch { n := n, i := i, q := q, flags := flags } g
  s.trace ch 16

/-- Chain `n` as it stands when its next output is due: grids that have ended are behind it, and the converter has come to the
output's delay (R222, R224).  A synchronising reset made on the way may end a grid. -/
def State.fltReady (s : State) (n : Fin 2) : State :=
  let s := s.fltTurn n (s.flt.get n).grids.length
  match (s.flt.get n).grids with
  | [] => s
  | g :: _ =>
    let s := s.advanceSamples (g.next + fltDelay g.k + 384)
    s.fltTurn n (s.flt.get n).grids.length

/-- FILTER_OUTPUT (R217): the chain's next output in label order, from its support. -/
def execFilterOutput (n : Fin 2) (codes : List (BitVec 12)) (s : State) : Out3 :=
  let t := s.fltReady n
  .next (if !s.pipeRuns then s else match (t.flt.get n).grids with
    | [] => s
    | g :: _ => if codes.length != supportLen g.k then s else (t.fltOutput n g codes).run 0)

/-! ### Entries -/

/-- Record a refusal of unit 2 or 3 (R232). -/
def fltRefuse (ch : Fin 2) (e : Entry) (reason : Nat) (s : State) : State :=
  let s := (s.setF (F.FLT_n_LAST_REFUSE_SEL ch) e.sel).setF (F.FLT_n_LAST_REFUSE_REASON ch) reason
  (s.setB (F.FLT_n_STATUS_REFUSED ch) true).raise (92 + 12 * ch.val)

/-- Change the newest grid of a chain. -/
def State.modGrid (s : State) (ch : Fin 2) (g : FGrid → FGrid) : State :=
  s.modFlt ch fun f => { f with grids := match f.grids.reverse with
    | [] => []
    | x :: xs => (g x :: xs).reverse }

/-- A frequency from element `t` on, with continuous phase (R218, R219). -/
def FGrid.setFreq (g : FGrid) (t fr : Nat) : FGrid :=
  if g.full then g
  else
    { g with nco := match g.nco.filter fun x => decide (x.1 < t) with
      | [] => [(t, 0, fr)]
      | (f0, a0, f) :: r => (t, (a0 + (t - 1 - f0) * f + fr) % 2 ^ 48, fr) :: (f0, a0, f) :: r }

/-- A phase from element `t` on (R218). -/
def FGrid.setPhase (g : FGrid) (t p : Nat) : FGrid :=
  if g.full then g else { g with phase := (t, p) :: g.phase.filter fun x => decide (x.1 < t) }

/-- A phase step at element `t`, outside full span: every output whose support holds it will carry `SETTLE`, those of an
older grid too (R219). -/
def State.phaseStep (s : State) (ch : Fin 2) (t : Nat) : State :=
  if s.fltFull ch then s else s.modFlt ch fun f => { f with grids := f.grids.map fun g => { g with steps := t :: g.steps } }

/-- Effect of an entry of unit 2 or 3 whose element has the label `at_`. -/
def fltEff (ch : Fin 2) (at_ : Long) (e : Entry) (_ : List Byte) (s : State) : Except Nat State :=
  let n := s.sampleOf at_
  let v := e.opnd.toNat
  let put (s : State) : State := s.setReg (fltMirror ch e.sel) e.opnd
  match e.sel with
  | 0 => .ok (s.stageLo (2 + ch.val) 0 e.opnd)
  | 1 =>
    let fr := s.stagedLo (2 + ch.val) 0 + v % 65536 * 2 ^ 32
    checked [(decide (65536 ≤ v), 2)]
      (((s.setPair (fltMirror ch 0) fr).modGrid ch fun g => g.setFreq n fr).fltLog ch n)
  | 2 => checked [(decide (65536 ≤ v), 2)] (((put s).modGrid ch fun g => g.setPhase n v).phaseStep ch n)
  | 3 => checked [(decide (20 < v % 32), 1), (decide (32 ≤ v), 2)] ((put s).fltSync ch n)
  | 4 => checked [(decide (2 ≤ v), 2)] ((put s).fltSync ch n)
  | 5 =>
    let len := bitsOf v 2 3
    checked [(decide (4 < len), 1), (decide (512 ≤ v), 2), (decide (len ≤ 4) && decide (rankM e.opnd < bitsOf v 5 4), 4)]
      ((put s).modFlt ch fun f => { f with rank := histPut f.rank n e.opnd })
  | 6 => checked [(decide (v < (s.reg (fltMirror ch 7)).toNat), 3)]
      ((put s).modFlt ch fun f => { f with thrHigh := histPut f.thrHigh n e.opnd })
  | 7 => checked [(decide ((s.reg (fltMirror ch 6)).toNat < v), 3)]
      ((put s).modFlt ch fun f => { f with thrLow := histPut f.thrLow n e.opnd })
  | _ => checked [(decide (12 < v % 16), 1), (decide (128 ≤ v), 2)]
      (((put s).modFlt ch fun f => { f with outCtrl := histPut f.outCtrl n e.opnd }).fltLog ch n)

/-- The next entry of a filter unit, of the selectors `sel`, reaches its element. -/
def State.fltEntry (s : State) (n : Fin 2) (sel : Nat → Bool) (label : Long) : State :=
  s.applyNext (2 + n.castLE (by decide)) sel label (fltEff n label) (fltRefuse n)

/-- NCO_FREQ (R219): the next `_LO` or `_HI` entry. -/
def execNcoFreq (n : Fin 2) (label : BitVec 64) (s : State) : Out3 := .next (s.fltEntry n (fun x => x < 2) label)
/-- NCO_PHASE (R219). -/
def execNcoPhase (n : Fin 2) (label : BitVec 64) (s : State) : Out3 := .next (s.fltEntry n (fun x => x = 2) label)
/-- DEC_K (R221). -/
def execDecK (n : Fin 2) (label : BitVec 64) (s : State) : Out3 := .next (s.fltEntry n (fun x => x = 3) label)
/-- SPAN_MODE (R220). -/
def execSpanMode (n : Fin 2) (label : BitVec 64) (s : State) : Out3 := .next (s.fltEntry n (fun x => x = 4) label)
/-- RANK_CTRL (R227). -/
def execRankCtrl (n : Fin 2) (label : BitVec 64) (s : State) : Out3 := .next (s.fltEntry n (fun x => x = 5) label)
/-- THR_HIGH (R228). -/
def execThrHigh (n : Fin 2) (label : BitVec 64) (s : State) : Out3 := .next (s.fltEntry n (fun x => x = 6) label)
/-- THR_LOW (R228). -/
def execThrLow (n : Fin 2) (label : BitVec 64) (s : State) : Out3 := .next (s.fltEntry n (fun x => x = 7) label)
/-- OUT_CTRL (R223). -/
def execOutCtrl (n : Fin 2) (label : BitVec 64) (s : State) : Out3 := .next (s.fltEntry n (fun x => x = 8) label)

end Sys2Proof.Machine
end

