-- ==== Sys2Proof/Machine/Glow.lean ====
section
/-! DEFINITION. The Glow density accumulator, unit 7 (R306 to R325): integrations, snapshots and persistence, colours and
dirty tiles, records, and its timeline entries. -/

namespace Sys2Proof.Machine
open Sys2Proof

/-- Change a Glow channel. -/
def State.modGlw (s : State) (ch : Fin 2) (g : Glw → Glw) : State := { s with glw := s.glw.set ch (g (s.glw.get ch)) }

/-! ### Geometry (R306 to R310) -/

/-- Columns, rows, step, and top of a geometry operand (R306). -/
def geomC (v : BitVec 32) : Nat := 64 * bitsOf v.toNat 0 6
def geomR (v : BitVec 32) : Nat := 64 * bitsOf v.toNat 6 5
def geomStep (v : BitVec 32) : Nat := bitsOf v.toNat 12 8
def geomTop (v : BitVec 32) : Int := (v.extractLsb' 20 12).toInt

/-- BAR2 offset of the stored array of channel `ch` (R310). -/
def glwBase (ch : Fin 2) : Nat := ch.val * 0x400000

/-- The count of a stored cell. -/
def State.cell (s : State) (ch : Fin 2) (w r c : Nat) : Nat := Mem.readLE s.sram (glwBase ch + 4 * (r * w + c)) 4

/-- Clear the stored array. -/
def State.clearCells (s : State) (ch : Fin 2) : State :=
  { s with sram := s.sram.filter fun x => !(decide (glwBase ch ≤ x.1) && decide (x.1 < glwBase ch + 0x400000)) }

/-- Bins B that the Lens settings in force at sample `n` deliver (R307, R322). -/
def State.binsAt (s : State) (ch : Fin 2) (n : Nat) : Nat :=
  let c := (s.lns.get ch).cfgAt n
  (c.last - c.first + 1).toNat

/-- Acquisition memory cannot take a snapshot (R315): none is there, it is in self-refresh, or its synthesiser has lost lock; or
it has never been trained. -/
def State.glwBlocked (s : State) : Bool :=
  let st := s.f F.AMC_STATUS_STATE
  st = 0 || st = 3 || !s.on F.CLK_STATUS_MEM_LOCKED || s.amc.run == .initial

/-! ### Integrations -/

/-- An integration starts at a spectrum (R311). -/
def State.glwStart (s : State) (ch : Fin 2) (sp : Spectrum) : State :=
  let b := sp.num.length
  let w := min (geomC (s.glw.get ch).geom) b
  let s := (s.clearCells ch).setF (F.GLW_n_WIDTH_W ch) w
  s.modGlw ch fun g =>
    { g with w := w, b := b, start := sp.n, label := sp.label, spectra := 0, flags := 0, sat := false, last := sp.last, spans := [],
             density := [] }

/-- An integration is discarded (R316, R317). -/
def State.glwDiscard (s : State) (ch : Fin 2) : State :=
  if (s.glw.get ch).spectra = 0 then s
  else ((s.incSat (F.GLW_n_DISCARDED_COUNT ch)).clearCells ch).modGlw ch fun g =>
    { g with spectra := 0, fromZero := true, allDirty := true }

/-- A snapshot is lost (R315); the next one, which may be forming already, is formed from zero. -/
def State.glwLose (s : State) (ch : Fin 2) : State :=
  let s := ((s.incSat (F.GLW_n_LOST_COUNT ch)).setB (F.GLW_n_STATUS_LOST_SEEN ch) true).raiseLimited (172 + ch.val) 1000
  s.modGlw ch fun g =>
    let g := { g with carry := 0, chain := [] }
    match g.forming with
    | [] => { g with fromZero := true, gap := true, allDirty := true }
    | f :: fs => { g with forming := { f with zero := true, gap := true, allDirty := true } :: fs }

/-- The integration ends at the boundary `n` (R311, R314, R315): with `SNAP` its snapshot starts to form, or is lost while
acquisition memory cannot take it. -/
def State.glwSnap (s : State) (ch : Fin 2) (n : Nat) : State :=
  let g := s.glw.get ch
  let ctl := g.ctl
  if !ctl.getLsbD ch.val then s
  else if s.glwBlocked then s.glwLose ch
  else
    let fm : Forming :=
      { boundary := n, start := g.start, label := g.label, spectra := g.spectra,
        cells := (List.range (g.w * geomR g.geom)).map fun i => Mem.readLE s.sram (glwBase ch + 4 * i) 4,
        geom := g.geom, w := g.w, b := g.b, flags := g.flags, zero := g.fromZero || g.clear, gap := g.gap,
        record := ctl.getLsbD (2 + ch.val), sat := g.sat, last := g.last, allDirty := g.allDirty, spans := g.spans }
    s.modGlw ch fun g =>
      { g with forming := g.forming ++ [fm], fromZero := false, clear := false, gap := false, allDirty := false }

/-- The mirror shows the geometry in force (R123). -/
def State.showGeom (s : State) (ch : Fin 2) (v : BitVec 32) : State := s.setReg (A.GLW_GEOM_A + 4 * ch.val) v

/-- The geometry that waited for the boundary comes into force (R316). -/
def State.glwGeom (s : State) (ch : Fin 2) : State :=
  match (s.glw.get ch).next with
  | none => s
  | some v => (s.modGlw ch fun g =>
      if v = g.geom then { g with next := none } else { g with geom := v, next := none, fromZero := true, allDirty := true }).showGeom ch v

/-- The channel is suspended (R317). -/
def State.glwSuspend (s : State) (ch : Fin 2) : State :=
  ((s.glwDiscard ch).setB (F.GLW_n_STATUS_SUSPENDED ch) true).raise 175

/-- Would a spectrum with `b` bins give more than 2^20 stored cells (R310)? -/
def tooManyCells (geom : BitVec 32) (b : Nat) : Bool := decide (2 ^ 20 < min (geomC geom) b * geomR geom)

/-- Does the spectrum at sample `n` end an integration of full age (R311)?  `pend` says that a boundary request is pending. -/
def Glw.due (g : Glw) (n : Nat) (pend : Bool) : Bool :=
  decide (2 ^ 25 ≤ n - g.start) && ((g.pint != 0 && decide (g.pint ≤ g.spectra)) || pend)

/-- The geometry under which the spectrum at sample `n` with `b` bins is counted: the one that waits, where a boundary precedes the
spectrum (R311, R316, R317). -/
def Glw.geomFor (g : Glw) (n b : Nat) (pend : Bool) : BitVec 32 :=
  if g.spectra = 0 || min (geomC g.geom) b != g.w || g.due n pend then g.next.getD g.geom else g.geom

/-- End the integration before a spectrum where R311 or R317 says so, and start the next with it. -/
def State.glwBoundary (s : State) (ch : Fin 2) (sp : Spectrum) : State :=
  let g := s.glw.get ch
  let b := sp.num.length
  let age := sp.n - g.start
  let pend := s.on (F.GLW_n_STATUS_PENDING ch)
  if g.spectra = 0 then ((s.glwGeom ch).setB (F.GLW_n_STATUS_PENDING ch) false).glwStart ch sp
  else if min (geomC g.geom) b != g.w then
    let s := if 2 ^ 25 ≤ age then s.glwSnap ch sp.n else s.glwDiscard ch
    let s := (s.glwGeom ch).setB (F.GLW_n_STATUS_PENDING ch) false
    (s.modGlw ch fun g => { g with fromZero := true, allDirty := true }).glwStart ch sp
  else if g.due sp.n pend then
    (((s.glwSnap ch sp.n).glwGeom ch).setB (F.GLW_n_STATUS_PENDING ch) false).glwStart ch sp
  else s

/-! ### Hits (R307 to R309) -/

/-- Combined P of the stored columns: the largest of the bins of each, in ascending order.  `j` counts the bins of `l` and
`c` is the column of the last combined value, which stands first in `acc`. -/
def columns (cols bins : Nat) : Nat → List Nat → List Nat → Nat → List Nat
  | _, [], acc, _ => acc.reverse
  | j, p :: ps, acc, c =>
    let cj := j * cols / bins
    match acc with
    | a :: as => if cj = c then columns cols bins (j + 1) ps (max a p :: as) c else columns cols bins (j + 1) ps (p :: a :: as) cj
    | [] => columns cols bins (j + 1) ps [p] cj

/-- The row of a reading (R308); none below the last row. -/
def glwRow (geom : BitVec 32) (l : Int) : Option Nat :=
  let r := (16 * geomTop geom - l) / (geomStep geom : Int)
  if r < 0 then some 0 else if r < geomR geom then some r.toNat else none

/-- Count `k` saturations (R309). -/
def State.glwSat (s : State) (ch : Fin 2) (k : Nat := 1) : State :=
  ((s.incSat (F.GLW_n_SAT_COUNT_COUNT ch) k).setB (F.GLW_n_STATUS_SAT_SEEN ch) true).raiseLimited (170 + ch.val) 1000

/-- One hit in the cell of column `c` and row `r`. -/
def State.glwHit (s : State) (ch : Fin 2) (c r : Nat) : State :=
  let w := (s.glw.get ch).w
  let v := s.cell ch w r c
  if v = 2 ^ 32 - 1 then (s.glwSat ch).modGlw ch fun g => { g with sat := true }
  else { s with sram := Mem.writeN s.sram (glwBase ch + 4 * (r * w + c)) (bytesOf 4 (v + 1)) }

/-- Does density condition `i` of program `q` hold in stored column `c`, row `r`, with `v` hits (R264, R320)? -/
def densityHit (q : ProgCfg) (i : Nat) (g : Glw) (c r v : Nat) : Bool :=
  let a1 := q.cond i 8 4
  let a2 := q.cond i 12 4
  let cols := geomC g.geom
  let first := bitsOf a1 0 11
  let last := min (bitsOf a1 16 11) (cols - 1)
  let inCol := (List.range (last + 1 - first)).any fun d => (first + d) * g.w / cols = c
  inCol && decide (bitsOf a2 0 10 ≤ r) && decide (r ≤ bitsOf a2 16 10) && decide (q.cond i 4 4 ≤ v)

/-- Density conditions on a cell just updated (R320): each gives one event in an integration, and one under other settings is
another condition (R282). -/
def State.density (s : State) (ch : Fin 2) (sp : Spectrum) (c r : Nat) : State :=
  (List.finRange 4).foldl (fun (s : State) (p : Fin 4) =>
    (List.finRange 8).foldl (fun (s : State) (i : Fin 8) =>
      let q := (s.sec.progs[p]).at_ sp.n
      let g := s.glw.get ch
      if s.blockRuns 5 && q.en && q.ctype i = 4 && q.cch i = ch.val && !g.density.contains (p.val, q.n, i.val) &&
          densityHit q i g c r (s.cell ch g.w r c) then
        (s.modGlw ch fun g => { g with density := (p.val, q.n, i.val) :: g.density }).secEvent (16 + i.val) sp.n 0 g.flags (some p.val)
          none sp.last (some ch) g.start
      else s) s) s

/-- Count a spectrum's columns from column `c` on. -/
def State.glwCount (s : State) (ch : Fin 2) (sp : Spectrum) : Nat → List Nat → State
  | _, [] => s
  | c, p :: ps =>
    let s := match glwRow (s.glw.get ch).geom (log16 p sp.den) with
      | none => s.incSat (F.GLW_n_BELOW_COUNT ch)
      | some r => (s.glwHit ch c r).density ch sp c r
    s.glwCount ch sp (c + 1) ps

/-- Request a boundary of channel `ch` (R312). -/
def State.glwRequest (s : State) (ch : Fin 2) : State :=
  if (s.glw.get ch).running then s.setB (F.GLW_n_STATUS_PENDING ch) true else s

/-- A channel stops at once (R316). -/
def State.glwStop (s : State) (ch : Fin 2) : State :=
  let s := (s.glwDiscard ch).setB (F.GLW_n_STATUS_RUNNING ch) false
  let s := (s.setB (F.GLW_n_STATUS_PENDING ch) false).setB (F.GLW_n_STATUS_SUSPENDED ch) false
  s.modGlw ch fun g => { g with running := false, next := none }

/-- A geometry comes: at once on a stopped channel, else at the boundary it requests (R316). -/
def State.glwSetGeom (s : State) (ch : Fin 2) (v : BitVec 32) : State :=
  if !v.getLsbD 11 then (s.glwStop ch).showGeom ch v
  else if (s.glw.get ch).running then (s.modGlw ch fun g => { g with next := some v }).glwRequest ch
  else ((s.modGlw ch fun g =>
    { g with running := true, geom := v, next := none, spectra := 0, fromZero := true, allDirty := true }).setB
      (F.GLW_n_STATUS_RUNNING ch) true).showGeom ch v

/-- What an entry that is not kept by boundary does at a channel's first spectrum from its element on (R311 to R313, R316). -/
def State.glwAct (s : State) (ch : Fin 2) (sel : Nat) (v : BitVec 32) : State :=
  match sel with
  | 2 => (s.modGlw ch fun g => { g with pint := v.toNat % 2 ^ 24 }).glwRequest ch
  | 4 =>
    let s := s.modGlw ch fun g => { g with ctl := v, clear := g.clear || v.getLsbD (6 + ch.val) }
    if v.getLsbD (4 + ch.val) then s.glwRequest ch else s
  | _ => s.glwSetGeom ch v

/-- The entries that act at sample `n` or before take effect, in order (R322). -/
def State.glwActs (s : State) (ch : Fin 2) (n : Nat) : State :=
  let l := (s.glw.get ch).acts
  let s := s.modGlw ch fun g => { g with acts := l.filter fun x => decide (n < x.1) }
  (l.filter fun x => decide (x.1 ≤ n)).foldl (fun s x => s.glwAct ch x.2.1 x.2.2) s

/-- The samples of one more spectrum. -/
def spanPut (l : List (Nat × Nat)) (a b : Nat) : List (Nat × Nat) :=
  match l with
  | (x, y) :: r => if a ≤ y then (x, max y b) :: r else (a, b) :: (x, y) :: r
  | [] => [(a, b)]

/-- The channel takes a spectrum (R307 to R320). -/
def State.glwTake (s : State) (ch : Fin 2) (sp : Spectrum) : State :=
  let s := s.glwActs ch sp.n
  let g := s.glw.get ch
  if !g.running then s
  else
    let geom := g.geomFor sp.n sp.num.length (s.on (F.GLW_n_STATUS_PENDING ch))
    if tooManyCells geom sp.num.length then
      (if s.on (F.GLW_n_STATUS_SUSPENDED ch) then s else s.glwSuspend ch)
    else
      let s := if s.on (F.GLW_n_STATUS_SUSPENDED ch) then
          ((s.setB (F.GLW_n_STATUS_SUSPENDED ch) false).raise 175).modGlw ch fun g => { g with fromZero := true, allDirty := true }
        else s
      let s := s.glwBoundary ch sp
      let s := s.modGlw ch fun g =>
        { g with spectra := g.spectra + 1, flags := g.flags ||| sp.flags ||| s.lateFlag 7 sp.label, last := sp.last,
                 spans := spanPut g.spans sp.n (sp.last + 1) }
      let g := s.glw.get ch
      (s.incPair (A.GLW_n_SPECTRA_LO ch)).glwCount ch sp 0 (columns (geomC g.geom) sp.num.length 0 sp.num [] 0)

/-- GLOW_UPDATE (R307): the oldest spectrum on its way reaches Glow; in reset it is discarded (R428). -/
def execGlowUpdate (n : Fin 2) (s : State) : Out3 :=
  .next (match s.specs.get n with
    | [] => s
    | sp :: rest =>
      if !s.pipeRuns then s
      else
        let s := s.advanceSamples (sp.due + 128)
        let s := { s with specs := s.specs.set n rest }
        if s.blockRuns 7 then s.glwTake n sp else s)

/-! ### Snapshots -/

/-- Acquisition-memory address of buffer `i` of channel `ch` (R328). -/
def State.glwBuf (s : State) (ch i : Fin 2) : Nat :=
  s.pair (if i = 0 then A.GLW_n_BUF0_LO ch else A.GLW_n_BUF1_LO ch)

/-- One cell of snapshot k (R314); the truth value says that the sum saturated. -/
def persistCell (v : BitVec 32) (zero : Bool) (prev cur : Nat) : Nat × Bool :=
  let p := if zero then 0 else if v.getLsbD 16 then prev else prev * (v.toNat % 65536) / 65536
  (min (p + cur) (2 ^ 32 - 1), decide (2 ^ 32 - 1 < p + cur))

/-- Snapshot cells from the counts and the previous snapshot at `addr`. -/
def persistCells (amem : List Host.Cell) (addr : Nat) (v : BitVec 32) (zero : Bool) : Nat → List Nat → List (Nat × Bool)
  | _, [] => []
  | i, c :: cs => persistCell v zero (Mem.readLE amem (addr + 4 * i) 4) c :: persistCells amem addr v zero (i + 1) cs

/-- Colour index of a cell value (R319). -/
def colourIndex (v shift : Nat) (log : Bool) : Nat :=
  let x := v / 2 ^ shift
  min 1023 (if log then Nat.log2 ((1 + x) ^ 32) else x)

/-- Colour of a cell value: the 3 bytes R, G, B of its LUT entry; an empty table is the grey ramp (R319). -/
def colourOf (lut : List Byte) (v shift : Nat) (log : Bool) : List Byte :=
  let x := colourIndex v shift log
  if lut.isEmpty then List.replicate 3 (BitVec.ofNat 8 (x / 4)) else (lut.drop (4 * x)).take 3

/-- Value of display cell (`row`, `col`) of a stored array (R307). -/
def displayCell (amem : List Host.Cell) (addr w c row col : Nat) : Nat :=
  Mem.readLE amem (addr + 4 * (row * w + col * w / c)) 4

/-- Is the tile whose first row and column are `r0` and `c0` dirty: does a cell's colour differ (R321)? -/
def tileDirty (amem : List Host.Cell) (a0 a1 : Nat) (p q : Snap) (r0 c0 : Nat) : Bool :=
  (List.range 64).any fun i => (List.range 64).any fun j =>
    colourOf p.lut (displayCell amem a0 p.w p.c (r0 + i) (c0 + j)) p.shift p.log !=
    colourOf q.lut (displayCell amem a1 q.w q.c (r0 + i) (c0 + j)) q.shift q.log

/-- Tiles of a display array of `c` columns and `r` rows (R321). -/
def tilesOf (c r : Nat) : List Nat :=
  (List.range (r / 64)).flatMap fun i => (List.range (c / 64)).map fun j => 32 * i + j

/-- How long the panel engine can wait for acquisition memory, in µs (R398). -/
def State.panelUs (s : State) : Nat :=
  let p := s.pnl
  let shown (ch : Fin 2) : Bool := s.on (F.PNL_ACT_VIEW_n_EN ch) && s.on (F.GLW_n_STATUS_VALID ch)
  let owes := (shown 0 && !p.owed.a.isEmpty) || (shown 1 && !p.owed.b.isEmpty)
  if s.f F.PNL_STATUS_LINK != 2 || s.f F.PWR_STATUS_STATE != 0 || !owes then 0xFFFF
  else if p.push then 0
  else match p.lastFrame with
    | none => 0
    | some n =>
      let period := s.f F.PNL_TE_PERIOD_US
      if period = 0 then 0 else min (period - (s.time.samples - n) / max s.ticksPerUs 1 - 20) 0xFFFF

/-- `AMC_LTR.PANEL_US` follows. -/
def State.updLtr (s : State) : State := s.setF F.AMC_LTR_PANEL_US s.panelUs

/-- Replace the owed tiles of a view; `PNL_OWED` counts them. -/
def State.setOwed (s : State) (ch : Fin 2) (o : List Nat) : State :=
  let s := { s with pnl := { s.pnl with owed := s.pnl.owed.set ch o } }
  (s.setF (if ch = 0 then F.PNL_OWED_A else F.PNL_OWED_B) o.length).updLtr

/-- The view of channel `ch` owes tiles too (R395). -/
def State.owe (s : State) (ch : Fin 2) (tiles : List Nat) : State :=
  s.setOwed ch ((List.range 512).filter fun t => tiles.contains t || (s.pnl.owed.get ch).contains t)

/-- Put the dirty map into its registers. -/
def State.setDirty (s : State) (ch : Fin 2) (tiles : List Nat) : State :=
  (List.range 16).foldl (fun s w =>
    s.setReg (A.GLW_n_DIRTYw ch w)
      (BitVec.ofNat 32 ((List.range 32).foldl (fun v b => v + (if tiles.contains (32 * w + b) then 2 ^ b else 0)) 0))) s

/-- `PARAM` of a Glow snapshot record (R318). -/
def glwParam (f : Forming) (count : Nat) : Nat :=
  min f.spectra (2 ^ 24 - 1) + bitsOf f.geom.toNat 0 6 * 2 ^ 24 + bitsOf f.geom.toNat 6 5 * 2 ^ 30 +
  bitsOf f.geom.toNat 20 12 * 2 ^ 35 + geomStep f.geom * 2 ^ 47 + bit f.zero * 2 ^ 55 + count % 256 * 2 ^ 56

/-- The snapshot's colour settings: those in force at its boundary (R319). -/
def State.snapOf (s : State) (f : Forming) : Snap :=
  let v := ((s.glwSet.colour.find? fun (x : Nat × BitVec 32) => decide (x.1 ≤ f.boundary)).getD (0, 0)).2
  { w := f.w, c := geomC f.geom, r := geomR f.geom, b := f.b,
    lut := ((s.glwSet.lut.find? fun (x : Nat × List Byte) => decide (x.1 ≤ f.boundary)).getD (0, [])).2,
    shift := bitsOf v.toNat 8 5, log := v.getLsbD 13, gen := f.boundary }

/-- Store a formed snapshot (R314, R315, R318, R321).  Its tiles that are dirty are owed too (R395); a tile that the new array
does not have is owed no more (log entry 135).  Its record covers the samples of its own spectra with every flag, and those
of the earlier snapshots of the persistence chain with the fault flags. -/
def State.glwStore (s : State) (ch : Fin 2) (f : Forming) : State :=
  let g := s.glw.get ch
  let newest := s.on (F.GLW_n_STATUS_NEWEST ch)
  let valid := s.on (F.GLW_n_STATUS_VALID ch)
  let old : Fin 2 := if newest then 1 else 0
  let dst : Fin 2 := if valid then (if newest then 0 else 1) else 0
  let per := ((s.glwSet.persist.find? fun (x : Nat × BitVec 32) => decide (x.1 ≤ f.boundary)).getD (0, 0)).2
  let zero := f.zero || !valid
  let cells := persistCells s.amem (s.glwBuf ch old) per zero 0 f.cells
  let satNow := cells.any (·.2)
  let s := if satNow then s.glwSat ch (cells.countP (·.2)) else s
  let s := { s with amem := Mem.writeN s.amem (s.glwBuf ch dst) (cells.flatMap fun (x : Nat × Bool) => bytesOf 4 x.1) }
  let snap := s.snapOf f
  let dirty := match g.snap with
    | none => tilesOf snap.c snap.r
    | some p =>
      if f.allDirty || p.lut != snap.lut || p.shift != snap.shift || p.log != snap.log then tilesOf snap.c snap.r
      else (tilesOf snap.c snap.r).filter fun t =>
        tileDirty s.amem (s.glwBuf ch old) (s.glwBuf ch dst) p snap (t / 32 * 64) (t % 32 * 64)
  let s := (s.setB (F.GLW_n_STATUS_NEWEST ch) (dst = 1)).setB (F.GLW_n_STATUS_VALID ch) true
  let s := (s.incWrap (F.GLW_n_SNAPS_COUNT ch)).setPair (A.GLW_n_LAST_SNAP_LO ch) f.label.toNat
  let s := (s.setDirty ch dirty).setOwed ch
    ((tilesOf snap.c snap.r).filter fun t => dirty.contains t || (s.pnl.owed.get ch).contains t)
  let own := f.flags ||| flagIf (f.sat || satNow) Flag.sat ||| flagIf f.gap Flag.gap
  let suspect := flagIf (s.on F.STR_ANCHOR_STATUS_SUSPECT) Flag.suspect
  let old := if zero then [] else g.chain
  let carry := (if zero then 0 else g.carry) ||| ((own ||| suspect) &&& faultFlags)
  let s := s.modGlw ch fun g => { g with prev := g.snap, snap := some snap, carry := carry, chain := f.spans ++ old }
  let s := if s.on F.GLW_EVT_CTRL_SNAP_EVT then s.raise (168 + ch.val) else s
  if f.record then
    s.offer (9 + ch.val)
      { mkRecord 6 ch.val (own ||| carry) f.label (glwParam { f with zero := zero } (s.f (F.GLW_n_SNAPS_COUNT ch))) []
          (f.last + 64000) with
        pieces := [.glow ch.val (s.glwBuf ch dst) f.w (geomC f.geom) (geomR f.geom) f.boundary],
        cover := (f.spans.map fun x => coverOf ch.val x.1 x.2) ++ old.map fun x => ⟨ch.val, x.1, x.2, faultFlags⟩ }
  else s

/-- SNAPSHOT_COMPLETE (R315): the oldest snapshot that forms is stored, or lost where acquisition memory cannot take it. -/
def execSnapshotComplete (n : Fin 2) (s : State) : Out3 :=
  .next (match (s.glw.get n).forming with
    | [] => s
    | f :: fs =>
      let s := s.modGlw n fun g => { g with forming := fs }
      if s.glwBlocked then s.glwLose n else s.glwStore n f)

/-! ### Entries -/

/-- Record a refusal of unit 7 (R322). -/
def glwRefuse (e : Entry) (reason : Nat) (s : State) : State :=
  let s := s.setF F.GLW_LAST_REFUSE_SEL (if e.sel = 0x10000 then 7 else e.sel)
  ((s.setB F.GLW_LAST_REFUSE_CH (e.sel = 1)).setF F.GLW_LAST_REFUSE_REASON reason).raise 174

/-- An entry waits for the next spectrum of channel `ch` from sample `n` on. -/
def State.glwDefer (s : State) (ch : Fin 2) (n sel : Nat) (v : BitVec 32) : State :=
  s.modGlw ch fun g => { g with acts := g.acts ++ [(n, sel, v)] }

/-- Byte 3 of some entry of a colour table is not zero (R322). -/
def lutBad : List Byte → Bool
  | _ :: _ :: _ :: d :: rest => d != 0 || lutBad rest
  | _ => false

/-- Effect of an entry of unit 7 at the spectrum labelled `at_`: each channel follows at its first spectrum from the entry's element
on. -/
def glwEff (at_ : Long) (e : Entry) (tab : List Byte) (s : State) : Except Nat State :=
  let n := s.sampleOf (s.entryAt 7 at_ e)
  let v := e.opnd
  let put (s : State) : State := s.setReg (0xA40000 + 4 * e.sel) v
  let both (s : State) : State := (s.glwDefer 0 n e.sel v).glwDefer 1 n e.sel v
  match e.sel with
  | 2 => checked [(decide (2 ^ 24 ≤ v.toNat), 2)] (both (put s))
  | 3 => checked [(decide (2 ^ 17 ≤ v.toNat), 2)]
      { put s with glwSet := { s.glwSet with persist := histPut s.glwSet.persist n v } }
  | 4 => checked [(decide (2 ^ 14 ≤ v.toNat), 2)]
      { both (put s) with glwSet := { s.glwSet with colour := histPut s.glwSet.colour n v } }
  | 0x10000 =>
    let t := tab ++ List.replicate (4096 - tab.length) 0
    checked [(lutBad tab, 2)]
      { s with glwSet := { s.glwSet with lut := (n, t) :: s.glwSet.lut.filter fun x => decide (x.1 < n) } }
  | _ =>
    let ch : Fin 2 := if e.sel = 0 then 0 else 1
    let cols := bitsOf v.toNat 0 6
    let rows := bitsOf v.toNat 6 5
    checked [(decide (cols < 4) || decide (32 < cols) || decide (rows < 4) || decide (16 < rows) || geomStep v = 0, 1),
        (v.getLsbD 11 && tooManyCells v (s.binsAt ch n), 3)]
      (s.glwDefer ch n e.sel v)

/-- The next entry of unit 7, of the selector `sel`, reaches its element. -/
def State.glwEntry (s : State) (sel : Nat) (label : Long) : State :=
  s.applyNext 7 (fun x => x = sel) label (glwEff label) glwRefuse

/-- GEOM (R316). -/
def execGeom (n : Fin 2) (label : BitVec 64) (s : State) : Out3 := .next (s.glwEntry n.val label)
/-- INTEG (R311). -/
def execInteg (label : BitVec 64) (s : State) : Out3 := .next (s.glwEntry 2 label)
/-- PERSIST (R314). -/
def execPersist (label : BitVec 64) (s : State) : Out3 := .next (s.glwEntry 3 label)
/-- SNAP_CTRL (R313). -/
def execSnapCtrl (label : BitVec 64) (s : State) : Out3 := .next (s.glwEntry 4 label)
/-- LUT (R319). -/
def execLut (label : BitVec 64) (s : State) : Out3 := .next (s.glwEntry 0x10000 label)

end Sys2Proof.Machine
end

