-- ==== Sys2Proof/Machine/Crypto.lean ====
section
/-! DEFINITION. The checks and digests the spec names by their standards: CRC-32C (R362) and SHA3-256 (FIPS 202), which
measures code (R85), images and reports. -/

namespace Sys2Proof.Machine
open Sys2Proof

/-- One bit of the reflected CRC-32C: polynomial 1EDC_6F41h, reflected 82F6_3B78h. -/
def crc32cBit (r : Word) : Word := if r.getLsbD 0 then (r >>> 1) ^^^ 0x82F63B78#32 else r >>> 1

/-- One byte of the CRC. -/
def crc32cByte (r : Word) (b : Byte) : Word :=
  Nat.rec (r ^^^ b.setWidth 32) (fun _ x => crc32cBit x) 8

/-- CRC-32C of bytes (R362): initial value and final XOR all ones. -/
def crc32c (bs : List Byte) : Word := (bs.foldl crc32cByte 0xFFFFFFFF#32) ^^^ 0xFFFFFFFF#32

/-- The 25 lanes of a Keccak state, lane (x, y) at 5 y + x. -/
abbrev Keccak := List (BitVec 64)

/-- Lane at (x, y), coordinates modulo 5. -/
def Keccak.at (a : Keccak) (x y : Nat) : BitVec 64 := a.getD (5 * (y % 5) + x % 5) 0

/-- The lanes that step rho visits from lane (x, y) on, with the rotation of each: step t of the walk turns its lane by
(t + 1)(t + 2) / 2, and goes on from (x, y) to (y, 2 x + 3 y). -/
def rhoWalk (t x y : Nat) : Nat → List (Nat × Nat)
  | 0 => []
  | n + 1 => (5 * y + x, (t + 1) * (t + 2) / 2 % 64) :: rhoWalk (t + 1) y ((2 * x + 3 * y) % 5) n

/-- The rotation of a lane in step rho: the walk starts at (1, 0) and leaves lane (0, 0) alone. -/
def rhoOf (lane : Nat) : Nat :=
  match (rhoWalk 0 1 0 24).find? fun p => p.1 = lane with
  | some p => p.2
  | none => 0

/-- The register of the round-constant generator after one more step: x^8 + x^6 + x^5 + x^4 + 1. -/
def rcStep (r : BitVec 8) : BitVec 8 := if r.getLsbD 7 then (r <<< 1) ^^^ 0x71#8 else r <<< 1

/-- The register after seven steps, and the constant that the bits leaving it on the way make: step j sets bit 2^j − 1. -/
def rcWord (r : BitVec 8) : BitVec 8 × BitVec 64 :=
  (List.range 7).foldl (fun p j =>
    (rcStep p.1, if p.1.getLsbD 0 then p.2 ||| 1#64 <<< (2 ^ j - 1) else p.2)) (r, 0)

/-- The constants of `n` rounds from a generator register on. -/
def roundConstants (r : BitVec 8) : Nat → List (BitVec 64)
  | 0 => []
  | n + 1 => (rcWord r).2 :: roundConstants (rcWord r).1 n

/-- Step theta: each bit takes the parity of two neighbouring columns. -/
def Keccak.theta (a : Keccak) : Keccak :=
  let parity (x : Nat) : BitVec 64 := (List.range 5).foldl (fun p y => p ^^^ a.at x y) 0
  let cols := (List.range 5).map fun x => parity ((x + 4) % 5) ^^^ (parity ((x + 1) % 5)).rotateLeft 1
  a.zipIdx.map fun p => p.1 ^^^ cols.getD (p.2 % 5) 0

/-- Steps rho and pi: lane (x, y) of the result is lane (x + 3 y, x), turned. -/
def Keccak.rhoPi (a : Keccak) : Keccak :=
  (List.range 25).map fun lane =>
    let from_ := 5 * (lane % 5) + (lane % 5 + 3 * (lane / 5)) % 5
    (a.getD from_ 0).rotateLeft (rhoOf from_)

/-- Steps chi and iota, with round constant `rc`. -/
def Keccak.chiIota (a : Keccak) (rc : BitVec 64) : Keccak :=
  a.zipIdx.map fun p =>
    let y := p.2 / 5
    (p.1 ^^^ (~~~ a.at (p.2 + 1) y &&& a.at (p.2 + 2) y)) ^^^ if p.2 = 0 then rc else 0

/-- Keccak-f[1600]. -/
def keccakF (a : Keccak) : Keccak := (roundConstants 1 24).foldl (fun a rc => a.theta.rhoPi.chiIota rc) a

/-- Absorb one 136-byte block. -/
def keccakAbsorb (a : Keccak) (blk : List Byte) : Keccak :=
  keccakF ((List.range 25).map fun i =>
    (a.getD i 0) ^^^ BitVec.ofNat 64 (ofBytes ((blk.drop (8 * i)).take (if i < 17 then 8 else 0))))

/-- Absorb a padded message, `n` blocks. -/
def keccakBlocks : Nat → Keccak → List Byte → Keccak
  | 0, a, _ => a
  | n + 1, a, m => keccakBlocks n (keccakAbsorb a (m.take 136)) (m.drop 136)

/-- The message padded for SHA3-256: 06h, zeros, 80h in the last byte of the last block. -/
def sha3Pad (m : List Byte) : List Byte :=
  let n := 136 - m.length % 136
  if n = 1 then m ++ [0x86#8] else m ++ [0x06#8] ++ List.replicate (n - 2) 0 ++ [0x80#8]

/-- SHA3-256: the digest as 32 bytes. -/
def sha3 (m : List Byte) : List Byte :=
  let p := sha3Pad m
  let a := keccakBlocks (p.length / 136) (List.replicate 25 0) p
  ((a.take 4).map fun l => bytesOf 8 l.toNat).flatten

/-- A 32-byte digest as a value, byte 0 lowest. -/
def digest (bs : List Byte) : BitVec 256 := BitVec.ofNat 256 (ofBytes bs)

end Sys2Proof.Machine
end

