-- ==== Sys2Proof/Machine/LogOps.lean ====
section
/-! DEFINITION. Operations on the Logbook image that other units use: counts (R410), commits and slot writes (R412,
R413), and the life-cycle state. -/

namespace Sys2Proof.Machine
open Sys2Proof

/-! ### Life-cycle state (R446 to R448, R452), which decides what the Logbook and the loader grant -/

/-- The life-cycle state: the highest transition bit burned (R446). -/
def Otp.state (o : Otp) : Nat :=
  if o.bits.getLsbD 3 then 4 else if o.bits.getLsbD 2 then 3 else if o.bits.getLsbD 1 then 2 else if o.bits.getLsbD 0 then 1 else 0

/-- Is a hash field programmed (R448)? -/
def programmed (h : BitVec 256) : Bool := h != 0 && h != BitVec.allOnes 256

/-- The owner hash of slot `i`. -/
def Otp.slot (o : Otp) (i : Nat) : BitVec 256 := if i = 0 then o.owner.a else o.owner.b

/-- Is slot `i` programmed and not revoked? -/
def Otp.usable (o : Otp) (i : Nat) : Bool := programmed (o.slot i) && !o.revoked.getLsbD i

/-- The states whose grants hold together: the state and, while a transition is pending, its target (R452). -/
def Otp.states (o : Otp) : List Nat := if o.pend = 0 then [o.state] else [o.state, o.pend - 1]

/-- Is a function granted (R447), given the states that grant it? -/
def Otp.grants (o : Otp) (states : List Nat) : Bool := o.states.all states.contains

/-! ### The Logbook image -/

/-- Change the Logbook. -/
def State.modLog (s : State) (g : Log → Log) : State := { s with log := g s.log }

/-- A 32-bit field of the live image. -/
def State.live (s : State) (off : Nat) : Nat := Mem.readLE s.log.live off 4

/-- Set a 32-bit field of the live image. -/
def State.setLive (s : State) (off v : Nat) : State :=
  s.modLog fun l => { l with live := Mem.writeN l.live off (bytesOf 4 v) }

/-- Add `n` to a count of the live image; saturation sets `SAT` and raises `LOG_SAT` (R410). -/
def State.liveInc (s : State) (off : Nat) (n : Nat := 1) : State :=
  let v := s.live off + n
  if v < 2 ^ 32 - 1 then s.setLive off v
  else if s.live off = 2 ^ 32 - 1 then s
  else ((s.setLive off (2 ^ 32 - 1)).setB F.LOG_STATUS_SAT true).raise 300

/-- Count event `i` of R410: 0, 1 overload episodes; 2 Tether soft repairs; 3 SRAM soft repairs; 4 patrol failures;
5 Fog entries; 6 retirements; 7 thermal trips.  During the power-up load it goes into a delta counter (R411). -/
def State.logCount (s : State) (i : Nat) : State :=
  if s.f F.LOG_STATUS_STATE = 0 then
    s.modLog fun l => { l with delta := l.delta.set i (min (l.delta.getD i 0 + 1) (2 ^ 32 - 1)) }
  else s.liveInc (1216 + 4 * i)

/-- Operating seconds (R411). -/
def State.opsec (s : State) : Nat := (s.reg A.LOG_OPSEC).toNat

/-- The sectors still to be erased once the write of `slot` starts (R413): the first slot of a region adds the other region,
and a slot that is being written is no longer among them (log entry 129). -/
def sectorsDue (due : List Nat) (slot : Nat) : List Nat :=
  let other := if slot = 0 then (List.range 128).map (· + 128) else if slot = 128 then List.range 128 else []
  (due ++ other.filter fun x => !due.contains x).filter (· != slot)

/-- Start writing the staging image to the next slot (R413). -/
def State.slotStart (s : State) : State :=
  let slot := s.f F.LOG_NEXT_SLOT
  let s := (s.setB F.LOG_STATUS_WRITING true).emit (.flashWrite slot)
  let due := sectorsDue s.log.erase slot
  (s.modLog fun l => { l with erase := due }).setB F.LOG_STATUS_ERASING (!due.isEmpty)

/-- The staging image of a commit with cause `cause` and sequence number `seq` (R410, R412). -/
def stagingOf (live : List Host.Cell) (cause seq : Nat) : List Host.Cell :=
  let m := Mem.writeN live 0 (bytesOf 4 0x4B42474C ++ bytesOf 4 seq)
  let m := Mem.writeN m 16 (bytesOf 4 cause)
  Mem.writeN m 4092 (bytesOf 4 (crc32c (Mem.readN m 0 4092)).toNat)

/-- Copy and write (R412).  With no flash the write is discarded (R414). -/
def State.commitNow (s : State) (cause : Nat) : State :=
  let seq := (s.reg A.LOG_SEQ).toNat + 1
  let s := s.setReg A.LOG_SEQ (BitVec.ofNat 32 seq)
  let s := if s.f F.LOG_CURSOR_AGE = 0 then
      ((s.setReg A.LOG_WIN_SEQ (BitVec.ofNat 32 seq)).setB F.LOG_STATUS_WIN_READY true).setB F.LOG_STATUS_WIN_VALID true
    else s
  let s := s.modLog fun l =>
    { l with staging := stagingOf l.live cause (seq % 2 ^ 32), tries := 0, lastCommit := some s.opsec,
             eraseAll := false, eraseNext := l.eraseAll || l.eraseNext }
  if s.f F.LOG_STATUS_STATE = 2 then s else s.slotStart

/-- A commit is started (R412): while a slot is being written it waits, and further starts make no second one. -/
def State.logCommit (s : State) (cause : Nat) : State :=
  if s.f F.LOG_STATUS_STATE = 0 then s
  else if s.on F.LOG_STATUS_WRITING then
    if s.on F.LOG_STATUS_PENDING then s
    else (s.setB F.LOG_STATUS_PENDING true).modLog fun l => { l with pendCause := cause }
  else s.commitNow cause

end Sys2Proof.Machine
end

