-- ==== Sys2Proof/Machine/Time.lean ====
section
/-! DEFINITION. The sample timeline (R34 to R56): anchors, synchronising resets, Range pins, and the entries of unit 14
that act on them. -/

namespace Sys2Proof.Machine
open Sys2Proof

/-- The tick counter goes on until it wraps to 0 (R56); synchronising resets due before are made. -/
def execTickWrap (s : State) : Out3 :=
  .next (s.advanceToBy (2 ^ 64) (2 * s.time.waiting.length))

/-! ### Anchors -/

/-- Why a commit is refused (R44): 1 BUSY, 2 FUTURE, 3 STALE; 0 when it is accepted. -/
def State.anchorErr (s : State) : Nat :=
  let t := s.pair A.STR_ANCHOR_TICK_LO
  let stale := match s.time.syncs with
    | p :: _ => decide (t < p.label.toNat)
    | [] => false
  if s.on F.STR_ANCHOR_STATUS_BUSY then 1
  else if s.tickNow.toNat < t then 2
  else if stale then 3
  else 0

/-- Does the new anchor map its own tick to an earlier TAI value than `p` maps it (R47, R49)?  `ticks` is the number of
sample periods from the tick of `p` to that of the new anchor: labels that synchronising resets jumped over are none
(R51, R52). -/
def Anchor.backstep (a p : Anchor) (ticks : Int) : Bool :=
  let d : Int := ticks * 1024 + ((a.frac : Int) - p.frac)
  decide (((a.tai : Int) - p.tai) * 1024 * p.rate < d * 10 ^ 15)

/-- Payload of an anchor record (R45). -/
def anchorPayload (a : Anchor) (prevIndex : Nat) : List Byte :=
  bytesOf 8 a.tai ++ bytesOf 8 a.tick ++ bytesOf 2 a.frac ++ bytesOf 2 prevIndex ++ bytesOf 4 0 ++ bytesOf 8 a.rate

/-- A write of 1 to `STR_ANCHOR_CTRL.COMMIT` (R44 to R49). -/
def State.anchorCommit (s : State) : State :=
  let err := s.anchorErr
  let s := s.setF F.STR_ANCHOR_STATUS_ERR err
  if err != 0 then s
  else
    let a : Anchor :=
      { tai := s.pair A.STR_ANCHOR_TAI_LO, tick := s.pair A.STR_ANCHOR_TICK_LO, frac := s.f F.STR_ANCHOR_FRAC_FRAC,
        rate := s.clk.rate }
    let old := s.f F.STR_ANCHOR_STATUS_INDEX
    let new := if old = 65535 then 1 else old + 1
    let back := match s.time.anchorPrev with
      | some p => a.backstep p ((s.sampleOf (BitVec.ofNat 64 a.tick) : Int) - s.sampleOf (BitVec.ofNat 64 p.tick))
      | none => false
    let s := (s.setF F.STR_ANCHOR_STATUS_INDEX new).setB F.STR_ANCHOR_STATUS_BUSY true
    let s := if s.on F.CLK_STATUS_SC_LOCKED then s.setB F.STR_ANCHOR_STATUS_SUSPECT false else s
    let s := { s with time := { s.time with anchorPrev := some a } }
    let flags := flagIf back Flag.backstep ||| flagIf (old = 65535) Flag.wrap
    s.toEnabled { mkRecord 8 0xA0 flags (BitVec.ofNat 64 a.tick) a.tai (anchorPayload a old) s.time.samples with
      frac := a.frac, anchor := new } (List.finRange 64)

/-- ANCHOR_COMMIT (R44). -/
def execAnchorCommit (s : State) : Out3 := .next s.anchorCommit

/-- The anchor records are in the streams: `BUSY` clears (R45). -/
def execAnchorRecordsEmitted (s : State) : Out3 := .next (s.setB F.STR_ANCHOR_STATUS_BUSY false)

/-! ### Range -/

/-- Does an armed part act on a qualifying edge (R54)?  With `MODE` = 0 only on the first, until its reset is made. -/
def State.rangeTakes (s : State) : Bool :=
  s.on F.SEC_RANGE_CTRL_ARM && (s.on F.SEC_RANGE_CTRL_MODE || !s.time.waiting.any (·.pulse))

/-- An edge of `RANGE_SYNC_IN` that qualifies under R54: `edge` and `frac` are the stamp of the REFIN edge (R290).  While
the sample clock is not locked it is ignored (R53).  An armed part schedules a synchronising reset at the first tick at
or after the edge plus 2,048 tick periods (R54), whose source 35 event comes with the reset; otherwise the event alone
comes, at that tick (R258).  The phase is that of the C2 stamp of the edge (R290). -/
def execRangeSyncEdge (edge : BitVec 64) (frac : BitVec 10) (s : State) : Out3 :=
  let s := s.advanceTo edge
  let n := s.sampleOf edge + 2048 + bit (frac != 0)
  let w : PendingSync := { pulse := true, value := 0, at_ := n, edge := some (1024 * s.sampleOf edge + frac.toNat) }
  .next (if !s.on F.CLK_STATUS_SC_LOCKED then s.rangeBit 2
    else if !s.rangeTakes then s.pulseEvents n [w]
    else
      { s with time := { s.time with waiting := s.time.waiting ++ [w] } })

/-- The deferred synchronising reset takes effect at the first sample of its lamp block (R50). -/
def execSyncDeferred (s : State) : Out3 :=
  .next (match firstSync s.time.samples (2 ^ 64) (s.time.waiting.filter fun x => x.at_ % 64 = 0) with
    | some m => s.advanceSamples m
    | none => s)

/-- Drive `RANGE_SYNC_OUT`. -/
def State.setSyncOut (s : State) (b : Bool) : State :=
  if s.pins.syncOut = b then s
  else { s with pins := { s.pins with syncOut := b }, time := { s.time with outPulse := b } }.emit (.pin "RANGE_SYNC_OUT" b)

/-- Four REFIN periods after it rose, the pin falls (R55). -/
def execSyncOutPulseEnd (s : State) : Out3 := .next (s.setSyncOut false)

/-- A write of 1 to `SEC_RANGE_CTRL.ARM` (R54). -/
def execRangeArm (s : State) : Out3 := .next (s.setB F.SEC_RANGE_CTRL_ARM true)

/-- A write of 1 to `SEC_RANGE_CTRL.DISARM` (R54). -/
def execRangeDisarm (s : State) : Out3 := .next (s.setB F.SEC_RANGE_CTRL_ARM false)

/-- A 64-bit write of `SEC_RANGE_LOAD` (R55): discarded with `WR_ARMED` while armed. -/
def State.rangeLoad (s : State) (v : Nat) : State :=
  if s.on F.SEC_RANGE_CTRL_ARM then s.rangeBit 4 else s.setPair A.SEC_RANGE_LOAD_LO v

/-- RANGE_LOAD_WRITE (R55). -/
def execRangeLoadWrite (value : BitVec 64) (s : State) : Out3 := .next (s.rangeLoad value.toNat)

/-! ### Entries of unit 14 for the counter and the Range pins -/

/-- Record a refusal of unit 6 or 14 (R283). -/
def secRefuse (unit14 : Bool) (e : Entry) (reason : Nat) (s : State) : State :=
  let s := (s.setF F.SEC_LAST_REFUSE_SEL e.sel).setF F.SEC_LAST_REFUSE_REASON reason
  ((s.setB F.SEC_LAST_REFUSE_UNIT14 unit14).setB F.SEC_STATUS_REFUSED true).raise 126

/-- Effect of `RESYNC_V_LO` and `_HI` (R125). -/
def resyncVEff (e : Entry) (_ : List Byte) (s : State) : Except Nat State :=
  .ok (if e.sel = 0 then s.stageLo 14 0 e.opnd
    else s.setPair A.SEC_IO_RESYNC_V_LO (s.stagedLo 14 0 + e.opnd.toNat * 2 ^ 32))

/-- RESYNC_V: the next `_LO` or `_HI` entry reaches its tick. -/
def execResyncV (label : BitVec 64) (s : State) : Out3 :=
  .next (s.applyNext 14 (fun x => x < 2) label resyncVEff (secRefuse true))

/-- Effect of a `RESYNC` entry (R50, R53): the sample is its sync tick.  Later `RESYNC` entries of the same tick and
resets that wait for it meet in one reset; an entry that finds the reset of its tick made has joined it. -/
def resyncEff (e : Entry) (_ : List Byte) (s : State) : Except Nat State :=
  let n := s.time.samples
  let item : PendingSync := { pulse := false, value := BitVec.ofNat 64 (s.pair A.SEC_IO_RESYNC_V_LO), at_ := n, edge := none }
  .ok (if s.time.metAt = some n then s.rangeBit 3
    else if s.blockSynced n then
      ({ s with time := { s.time with waiting := s.time.waiting ++ [{ item with at_ := (n / 64 + 1) * 64 }] } }).rangeBit 5
    else
      let due := s.time.waiting.filter (fun x => x.at_ = n) ++ [item] ++ (if e.imm then [] else s.resyncsHere)
      let rest := s.time.waiting.filter fun x => x.at_ != n
      ({ s with time := { s.time with waiting := rest } }).syncNow due)

/-- RESYNC (R50). -/
def execResync (label : BitVec 64) (s : State) : Out3 :=
  .next (s.applyNext 14 (fun x => x = 2) label resyncEff (secRefuse true))

/-- Effect of a `SYNC_OUT` entry (R55): the pin rises at the next REFIN edge; `edge` says that one comes before REFIN is
declared absent. -/
def syncOutEff (edge : Bool) (_ : Entry) (_ : List Byte) (s : State) : Except Nat State :=
  .ok (if !s.on F.SEC_RANGE_CTRL_OUT_EN then s
    else if edge && s.on F.CLK_STATUS_REF_PRESENT then s.setSyncOut true
    else s.rangeBit 6)

/-- SYNC_OUT (R55). -/
def execSyncOut (label : BitVec 64) (edge : Bool) (s : State) : Out3 :=
  .next (s.applyNext 14 (fun x => x = 3) label (syncOutEff edge) (secRefuse true))

end Sys2Proof.Machine
end

