-- ==== Sys2Proof/Machine/Lamp.lean ====
section
/-! DEFINITION. The lamp die: front end, fast comparators and `TRIG_OUT` pins, overrange marking, and the lamp-side
handling of timeline entries (R145 to R165, units 0 and 1). -/

namespace Sys2Proof.Machine
open Sys2Proof

/-! ### Mirrors and fields by channel -/

/-- Address of the mirror of selector `sel` of unit `n` (R163). -/
def lampMirror (n : Fin 2) (sel : Nat) : Nat := 0x340000 + n.val * 0x40000 + 4 * sel

/-- `FT_CTRL` bits of comparator `c` (R156). -/
def ftEn (n c : Fin 2) : Fld := ⟨lampMirror n 4, c, 1⟩
def ftPol (n c : Fin 2) : Fld := ⟨lampMirror n 4, 2 + c, 1⟩
def ftRoute (n c pin : Fin 2) : Fld := ⟨lampMirror n 4, 10 + 2 * c + pin, 1⟩
def ftFwd (n c : Fin 2) : Fld := ⟨lampMirror n 4, 14 + c, 1⟩

/-- Status bits of comparator `c` (R164). -/
def ftHold (n c : Fin 2) : Fld := ⟨(F.LMP_n_STATUS_FT_HOLD0 n).addr, 3 + c, 1⟩
def cmpBit (n c : Fin 2) : Fld := ⟨(F.LMP_n_STATUS_CMP0 n).addr, 5 + c, 1⟩

/-- Comparator `c` of a channel. -/
def Lamp.cmp (l : Lamp) (c : Fin 2) : Cmp := if c = 0 then l.cmp0 else l.cmp1

/-- A channel with comparator `c` changed. -/
def Lamp.setCmp (l : Lamp) (c : Fin 2) (x : Cmp) : Lamp := if c = 0 then { l with cmp0 := x } else { l with cmp1 := x }

/-- Comparator `c` of channel `n`. -/
def State.cmp (s : State) (n c : Fin 2) : Cmp := (s.lamp.get n).cmp c

/-- Change comparator `c` of channel `n`. -/
def State.modCmp (s : State) (n c : Fin 2) (g : Cmp → Cmp) : State := s.modLamp n fun l => l.setCmp c (g (l.cmp c))

/-! ### `TRIG_OUT` pins -/

/-- `TOn_SRC` and `TOn_FORCED` (R164). -/
def toSrc (p : Fin 2) : Fld := ⟨F.LMP_GLOBAL_STATUS_TO0_SRC.addr, 3 + p, 1⟩
def toForced (p : Fin 2) : Fld := ⟨F.LMP_GLOBAL_STATUS_TO0_FORCED.addr, 1 + p, 1⟩

/-- The contribution of comparator `c` of channel `n` shown in its status bit drives pin `p` when routed (R156).  `CMP0` and
`CMP1` show it during a hold too, as the contribution then is the held level (DEDUCED, log entry 127). -/
def State.drives (s : State) (n c p : Fin 2) : Bool := s.on (cmpBit n c) && s.on (ftRoute n c p)

/-- FAST: the OR of the contributions routed to the pin (R158). -/
def State.fastOut (s : State) (p : Fin 2) : Bool :=
  s.drives 0 0 p || s.drives 0 1 p || s.drives 1 0 p || s.drives 1 1 p

/-- TOWER: the merged pulse or the armed level (R284). -/
def State.towerOut (s : State) (p : Fin 2) : Bool := (s.tower.get p).until_.isSome || (s.tower.get p).level

/-- Drive pin `p` from the source in force (R158). -/
def State.updPin (s : State) (p : Fin 2) : State :=
  let v := if s.on (toSrc p) && !s.on (toForced p) then s.towerOut p else s.fastOut p
  if s.pins.trigOut.get p = v then s
  else { s with pins := { s.pins with trigOut := s.pins.trigOut.set p v } }.emit
    (.pin (if p = 0 then "TRIG_OUT0" else "TRIG_OUT1") v)

/-- Drive both pins. -/
def State.updPins (s : State) : State := (s.updPin 0).updPin 1

/-- Force FAST on a pin (R158). -/
def State.forcePin (s : State) (p : Fin 2) : State := (s.setBRaise (toForced p) (50 + p)).updPin p

/-- The lamp forces FAST on both pins (R158). -/
def State.forceFast (s : State) : State := (s.forcePin 0).forcePin 1

/-! ### Contributions -/

/-- Put a transition of a contribution at sample `n` into the report of its block (R159): the first of each direction by its
position, another of the same direction as `MULTI`. -/
def captureIn (n : Nat) (rise : Bool) : List Report → List Report
  | [] => [{ block := n / 64 * 64, rise := if rise then some (n % 64) else none,
             fall := if rise then none else some (n % 64), multi := false }]
  | r :: rs =>
    if r.block != n / 64 * 64 then r :: captureIn n rise rs
    else if (if rise then r.rise else r.fall).isSome then { r with multi := true } :: rs
    else (if rise then { r with rise := some (n % 64) } else { r with fall := some (n % 64) }) :: rs

/-- The contribution of a comparator, `b` now, as it stood at the sample before `n`. -/
def Cmp.levelBefore (x : Cmp) (n : Nat) (b : Bool) : Bool := if n ≤ x.at_ then x.before else b

/-- The comparator remembers how its contribution stood before the changes of sample `n`; `v` is the new level. -/
def Cmp.change (x : Cmp) (n : Nat) (v : Bool) : Cmp :=
  if x.at_ = n then { x with rises := x.rises + bit v }
  else { x with at_ := n, before := !v, beforeReports := x.reports, rises := bit v }

/-- The counter of rises of comparator `c` (R164). -/
def riseCount (n c : Fin 2) : Fld := if c = 0 then F.LMP_n_CMP_EDGES_RISE0 n else F.LMP_n_CMP_EDGES_RISE1 n

/-- What a captured rise of a contribution does beside the pins and the report (R159, R164, R165): the edge count, and the
event, which travels over the forward lanes and is lost while that link is down. -/
def State.riseAt (s : State) (n c : Fin 2) : State :=
  let s := s.incWrap (riseCount n c)
  if s.on ⟨(F.LMP_n_EVT_CTRL_FT0_EVT n).addr, c, 1⟩ && s.on F.TTH_STATUS_FWD_UP then s.raiseLimited (46 + 2 * n + c) 1 else s

/-- The contribution of comparator `c` becomes `v` at sample `at_`.  Capture and reports are timed by SCLK; without it the
pins follow alone (R159, R160).  The report goes to the tower with its lamp block (R208). -/
def State.contribute (s : State) (n c : Fin 2) (v : Bool) (at_ : Nat) : State :=
  if s.on (cmpBit n c) = v then s
  else
    let s := s.modCmp n c fun x => x.change at_ v
    let s := if !s.good.sclk then s
      else
        let s := if v then s.riseAt n c else s
        if s.on (ftFwd n c) then s.modCmp n c fun x => { x with reports := captureIn at_ v x.reports } else s
    (s.setB (cmpBit n c) v).updPins

/-- The contribution that the settings and the hold give comparator `c` (R156, R157). -/
def State.level (s : State) (n c : Fin 2) : Bool :=
  s.on (ftEn n c) && (if s.on (ftHold n c) then (s.cmp n c).kept else (s.cmp n c).live)

/-- Recompute the contribution at sample `at_`. -/
def State.updCmp (s : State) (n c : Fin 2) (at_ : Nat) : State := s.contribute n c (s.level n c) at_

/-- Take back what transitions of the contribution at sample `a` did: a hold that begins there leaves the level of the sample
before, and no transition of the held comparator is captured (R157, R159). -/
def State.undoChange (s : State) (n c : Fin 2) (a : Nat) : State :=
  let x := s.cmp n c
  if x.at_ != a then s
  else
    let s := s.setF (riseCount n c) (s.f (riseCount n c) + 65536 - x.rises)
    let s := s.modCmp n c fun x => { x with reports := x.beforeReports, rises := 0 }
    (s.setB (cmpBit n c) x.before).updPins

/-- Hold comparator `c` from sample `a` up to sample `e` (R157): it keeps the level it had at the sample before `a`; holds that
overlap end at the latest end.  A disabled comparator contributes 0 all the same (R156). -/
def State.holdCmp (s : State) (n c : Fin 2) (a e : Nat) : State :=
  let held := s.on (ftHold n c)
  let now := (s.cmp n c).levelBefore a (s.on (cmpBit n c))
  let s := if held then s else s.undoChange n c a
  let s := (s.modCmp n c fun x =>
    { x with kept := if held then x.kept else now, holdEnd := max x.holdEnd e, holds := (a, e) :: x.holds }).setB (ftHold n c) true
  s.updCmp n c a

/-- End the hold of comparator `c` at its end (R157): its contribution follows the live comparator. -/
def State.endHold (s : State) (n c : Fin 2) : State :=
  if s.on (ftHold n c) && decide ((s.cmp n c).holdEnd ≤ s.time.samples) then
    let e := (s.cmp n c).holdEnd
    ((s.setB (ftHold n c) false).modCmp n c fun x => { x with holdEnd := 0 }).updCmp n c e
  else s

/-! ### Entries of units 0 and 1 -/

/-- Unit number of lamp channel `n`. -/
def lampUnit (n : Fin 2) : Fin 15 := ⟨n.val, by omega⟩

/-- Record a refusal of unit `n` (R145). -/
def lampRefuse (n : Fin 2) (e : Entry) (reason : Nat) (s : State) : State :=
  let s := (s.setF (F.LMP_n_LAST_REFUSE_SEL n) e.sel).setF (F.LMP_n_LAST_REFUSE_REASON n) reason
  (s.setB (F.LMP_n_STATUS_REFUSED n) true).raise (44 + n)

/-- A front-end step at sample `a` (R146): a window of 96 ticks carries `SETTLE` and holds both comparators. -/
def State.frontStep (s : State) (n : Fin 2) (a : Nat) : State :=
  let s := (s.modLamp n fun l => { l with stepEnd := a + 96 }).setB (F.LMP_n_STATUS_SETTLING n) true
  ((s.addMark n a (some (a + 96)) Flag.settle).holdCmp n 0 a (a + 96)).holdCmp n 1 a (a + 96)

/-- Effect of an `ATTEN` entry (R145, R146). -/
def attenEff (n : Fin 2) (at_ : Long) (e : Entry) (_ : List Byte) (s : State) : Except Nat State :=
  let v := e.opnd.toNat
  if v % 32 = 31 then .error 1
  else if v / 32 != 0 then .error 2
  else .ok ((s.setReg (lampMirror n 0) e.opnd).frontStep n (s.sampleOf at_))

/-- ATTEN (R146). -/
def execAtten (n : Fin 2) (label : BitVec 64) (s : State) : Out3 :=
  .next (s.applyNext (lampUnit n) (fun x => x = 0) label (attenEff n label) (lampRefuse n))

/-- Effect of a `PREAMP` entry (R145, R146). -/
def preampEff (n : Fin 2) (at_ : Long) (e : Entry) (_ : List Byte) (s : State) : Except Nat State :=
  if e.opnd.toNat / 2 != 0 then .error 2
  else .ok ((s.setReg (lampMirror n 1) e.opnd).frontStep n (s.sampleOf at_))

/-- PREAMP (R146). -/
def execPreamp (n : Fin 2) (label : BitVec 64) (s : State) : Out3 :=
  .next (s.applyNext (lampUnit n) (fun x => x = 1) label (preampEff n label) (lampRefuse n))

/-- Effect of an `FT_THRc` entry (R155, R157): a threshold hold of 64 ticks. -/
def ftThrEff (n : Fin 2) (at_ : Long) (e : Entry) (_ : List Byte) (s : State) : Except Nat State :=
  if e.opnd.toNat / 1024 != 0 then .error 2
  else
    let c : Fin 2 := if e.sel = 2 then 0 else 1
    .ok ((s.setReg (lampMirror n e.sel) e.opnd).holdCmp n c (s.sampleOf at_) (s.sampleOf at_ + 64))

/-- FT_THR (R157): the next `FT_THR0` or `FT_THR1` entry. -/
def execFtThr (n : Fin 2) (label : BitVec 64) (s : State) : Out3 :=
  .next (s.applyNext (lampUnit n) (fun x => x = 2 || x = 3) label (ftThrEff n label) (lampRefuse n))

/-- Take the output that a changed polarity decides afresh, `v`, as the live level (R157). -/
def State.freshCmp (s : State) (n c : Fin 2) (changed v : Bool) : State :=
  if changed then s.modCmp n c fun x => { x with live := v } else s

/-- Effect of an `FT_CTRL` entry (R156, R157).  `beyond0` and `beyond1` say whether the input lies beyond the threshold of
each comparator in the direction its new polarity makes active. -/
def ftCtrlEff (n : Fin 2) (at_ : Long) (beyond0 beyond1 : Bool) (e : Entry) (_ : List Byte) (s : State) :
    Except Nat State :=
  if e.opnd.toNat / 65536 != 0 then .error 2
  else
    let a := s.sampleOf at_
    let old := s.reg (lampMirror n 4)
    let diff (lo w : Nat) : Bool := bitsOf old.toNat lo w != bitsOf e.opnd.toNat lo w
    let s := if diff 4 3 then s.holdCmp n 0 a (a + 64) else s
    let s := if diff 7 3 then s.holdCmp n 1 a (a + 64) else s
    let s := s.setReg (lampMirror n 4) e.opnd
    let s := (s.freshCmp n 0 (diff 2 1) beyond0).freshCmp n 1 (diff 3 1) beyond1
    .ok (((s.updCmp n 0 a).updCmp n 1 a).updPins)

/-- FT_CTRL (R156). -/
def execFtCtrl (n : Fin 2) (label : BitVec 64) (beyond0 beyond1 : Bool) (s : State) : Out3 :=
  .next (s.applyNext (lampUnit n) (fun x => x = 4) label (ftCtrlEff n label beyond0 beyond1) (lampRefuse n))

/-! ### The ends of windows and holds, and the comparators -/

/-- The step window of channel `n` ends (R146): its holds end with it; without SCLK nothing ends (R160). -/
def execFrontEndStepEnd (n : Fin 2) (s : State) : Out3 :=
  .next (if s.on (F.LMP_n_STATUS_SETTLING n) && s.good.sclk then
      let s := (s.advanceSamples (s.lamp.get n).stepEnd).setB (F.LMP_n_STATUS_SETTLING n) false
      (s.endHold n 0).endHold n 1
    else s)

/-- The hold of comparator `c` ends (R157); without SCLK it does not (R160). -/
def execThresholdHoldEnd (n c : Fin 2) (s : State) : Out3 :=
  .next (if s.on (ftHold n c) && s.good.sclk then (s.advanceSamples (s.cmp n c).holdEnd).endHold n c else s)

/-- Comparator `c` changes to `v` at the input (R159): `label` is the first sample instant at or after it. -/
def execComparatorTransition (n c : Fin 2) (v : Bool) (label : BitVec 64) (s : State) : Out3 :=
  let s := (s.advanceTo label).modCmp n c fun x => { x with live := v }
  .next (if s.on (ftHold n c) then s else s.updCmp n c (s.sampleOf label))

/-! ### Overrange -/

/-- Samples marked `OVR` up to now that `LMP_n_OVR_SAMPLES` does not hold yet. -/
def State.ovrNew (s : State) (n : Fin 2) : Nat :=
  let l := s.lamp.get n
  min (s.time.samples + 1) l.ovrEnd - l.ovrFrom

/-- Add them. -/
def State.ovrCount (s : State) (n : Fin 2) : State :=
  let k := s.ovrNew n
  (s.incPair (A.LMP_n_OVR_SAMPLES_LO n) k).modLamp n fun l => { l with ovrFrom := l.ovrFrom + k }

/-- A firing at sample `a` marks it and the next `m` samples (R152): the latest end of all running counts holds. -/
def State.ovrMark (s : State) (n : Fin 2) (a m : Nat) : State :=
  let s := (s.ovrCount n).addMark n a (some (a + m + 1)) Flag.ovr
  let s := s.modLamp n fun l =>
    { l with ovrFrom := if l.ovrEnd ≤ a then a else l.ovrFrom, ovrEnd := max l.ovrEnd (a + m + 1) }
  s.setB (F.LMP_n_STATUS_OVR_ACTIVE n) true

/-- A firing inside an episode extends it (R153). -/
def State.fired (s : State) (n : Fin 2) (a : Nat) : State :=
  if s.on (F.LMP_n_STATUS_EPISODE n) then s.modLamp n fun l => { l with lastFire := max l.lastFire a } else s

/-- Is calibration of channel `n` frozen (R176)? -/
def State.frozen (s : State) (n : Fin 2) : Bool :=
  s.on (F.CAL_n_STATUS_FRZ_EP n) || s.on (F.CAL_n_STATUS_FRZ_PRG n)

/-- Set one of the two causes of a freeze; the samples carry `FROZEN` from the first to the last frozen one, which is
the one before `a` when the last cause ends. -/
def State.setFrozen (s : State) (n : Fin 2) (x : Fld) (b : Bool) (a : Nat) : State :=
  let was := s.frozen n
  let s := s.setB x b
  if was = s.frozen n then s
  else if s.frozen n then s.addMark n a none Flag.frozen
  else
    let s := s.endMark n a Flag.frozen
    { s with cal := s.cal.set n { s.cal.get n with thaw := a } }

/-- The OVR comparator of channel `n` fires on the sample labelled `label` (R152). -/
def execOvrFire (n : Fin 2) (label : BitVec 64) (s : State) : Out3 :=
  let s := s.advanceTo label
  let a := s.sampleOf label
  .next (((s.ovrMark n a 127).setB (F.LMP_n_STATUS_OVR_SEEN n) true).fired n a)

/-- The trip comparator of channel `n` fires (R152): an overload episode opens if none is open (R153). -/
def execTripFire (n : Fin 2) (label : BitVec 64) (s : State) : Out3 :=
  let s := s.advanceTo label
  let a := s.sampleOf label
  let s := (s.ovrMark n a 383).setB (F.LMP_n_STATUS_TRIP_SEEN n) true
  .next (if s.on (F.LMP_n_STATUS_EPISODE n) then s.fired n a
    else
      let s := (s.setB (F.LMP_n_STATUS_EPISODE n) true).modLamp n fun l => { l with lastFire := a }
      let s := (s.incSat (F.LMP_n_OVR_EPISODES_COUNT n)).setFrozen n (F.CAL_n_STATUS_FRZ_EP n) true a
      (s.logCount n.val).raise (40 + n))

/-- The latest running count ends (R152). -/
def execOvrMarkEnd (n : Fin 2) (s : State) : Out3 :=
  .next (if s.on (F.LMP_n_STATUS_OVR_ACTIVE n) then
      ((s.advanceSamples (s.lamp.get n).ovrEnd).ovrCount n).setB (F.LMP_n_STATUS_OVR_ACTIVE n) false
    else s)

/-- 35,000 ticks after the last firing the episode of channel `n` ends (R153): its last frozen sample is that one. -/
def execOverloadEpisodeEnd (n : Fin 2) (s : State) : Out3 :=
  .next (if s.on (F.LMP_n_STATUS_EPISODE n) then
      let e := (s.lamp.get n).lastFire + 35000
      let s := (s.advanceSamples e).setB (F.LMP_n_STATUS_EPISODE n) false
      (s.setFrozen n (F.CAL_n_STATUS_FRZ_EP n) false (e + 1)).raise (42 + n)
    else s)

/-! ### Arrival of entries -/

/-- Split a queue at its oldest entry in transit. -/
def splitTransit : List Entry → Option (List Entry × Entry × List Entry)
  | [] => none
  | e :: q =>
    if e.phase == .transit then some ([], e, q)
    else
      match splitTransit q with
      | none => none
      | some (a, x, b) => some (e :: a, x, b)

/-- The oldest entry of unit `u` in transit reaches the lamp (R162): stored, or LATE because its target has passed. -/
def execLampEntryArrive (u : Fin 15) (s : State) : Out3 :=
  .next (match splitTransit (s.tl.queues[u]) with
    | none => s
    | some (a, e, b) =>
      if !e.imm && decide (e.target.toNat < s.time.tick.toNat) then
        ((s.setQueue u (a ++ { e with phase := .reported } :: b)).markLate u e.sel e.target)
      else s.setQueue u (a ++ { e with phase := .stored, from_ := s.time.samples } :: b))

/-- A write of `LMP_n_PEAK.CLEAR` (R164): codes of later samples count. -/
def execPeakClear (n : Fin 2) (s : State) : Out3 :=
  .next ((s.setF (F.LMP_n_PEAK_PEAK n) 0).modLamp n fun l => { l with peakFrom := s.time.samples })

end Sys2Proof.Machine
end

