-- ==== Sys2Proof/Machine/Sector.lean ====
section
/-! DEFINITION. The Sector unit, unit 6, and the trigger pins of unit 14 (R258 to R288): programs, triggers, segments and
arming, `TRIG_OUT` and `XTRIG`. -/

namespace Sys2Proof.Machine
open Sys2Proof

/-- Change the Sector unit. -/
def State.modSec (s : State) (g : Sec → Sec) : State := { s with sec := g s.sec }

/-- Mirror of selector `sel` of unit 6 (R286). -/
def secMirror (sel : Nat) : Nat := 0x840000 + 4 * sel

/-! ### Program tables (R263 to R265) -/

/-- Field of `len` bytes at byte `off` of step `i`. -/
def ProgCfg.stepField (q : ProgCfg) (i off len : Nat) : Nat := ofBytes ((q.table.drop (256 + 32 * i + off)).take len)

/-- Fields of step `i`. -/
def ProgCfg.adv (q : ProgCfg) (i : Nat) : Nat := q.stepField i 0 8
def ProgCfg.rst (q : ProgCfg) (i : Nat) : Nat := q.stepField i 8 8
def ProgCfg.min_ (q : ProgCfg) (i : Nat) : Nat := q.stepField i 16 5
def ProgCfg.max_ (q : ProgCfg) (i : Nat) : Nat := q.stepField i 24 5
def ProgCfg.isLast (q : ProgCfg) (i : Nat) : Bool := (q.stepField i 30 1).testBit 0
def ProgCfg.fires (q : ProgCfg) (i : Nat) : Bool := (q.stepField i 30 1).testBit 1

/-- The step with `LAST`, searched from step `i` on; none in a table without one. -/
def ProgCfg.lastStep (q : ProgCfg) : Nat → Nat → Option Nat
  | 0, _ => none
  | fuel + 1, i => if q.isLast i then some i else q.lastStep fuel (i + 1)

/-- Sources that the program names in `ADV` or `RESET` of a step it uses (R268, R269). -/
def ProgCfg.names (q : ProgCfg) : Nat :=
  (List.range ((q.lastStep 120 0).getD 0 + 1)).foldl (fun m i => m ||| q.adv i ||| q.rst i) 0

/-- A local-condition entry with a reserved bit or byte that is not zero (R264). -/
def ProgCfg.condReserved (q : ProgCfg) (i : Nat) : Bool :=
  q.cond i 2 2 != 0 || q.cond i 16 16 != 0 || decide (4 ≤ q.cond i 1 1) ||
  (match q.ctype i with
   | 1 | 2 => decide (65536 ≤ q.cond i 4 4) || q.cond i 12 4 != 0
   | 3 => decide (32 ≤ q.cond i 8 4) || q.cond i 12 4 != 0
   | 4 => (BitVec.ofNat 32 (q.cond i 8 4) &&& 0xF800F800#32) != 0 || (BitVec.ofNat 32 (q.cond i 12 4) &&& 0xFC00FC00#32) != 0
   | _ => false)

/-- A local-condition entry with a value out of range (R264). -/
def ProgCfg.condRange (q : ProgCfg) (i : Nat) : Bool :=
  let thr := (BitVec.ofNat 16 (q.cond i 4 2)).toInt
  let a1 := q.cond i 8 4
  match q.ctype i with
  | 0 => false
  | 1 => decide (thr < -2048) || decide (2047 < thr) || a1 = 0 || decide (65535 < a1)
  | 2 => decide (thr < -2048) || decide (2047 < thr) || decide (4095 < a1)
  | 3 => decide (16 < a1 % 32)
  | 4 => q.cond i 4 4 = 0
  | _ => true

/-- A step with a reserved bit or byte that is not zero (R265). -/
def ProgCfg.stepReserved (q : ProgCfg) (i : Nat) : Bool :=
  decide (2 ^ 38 ≤ q.adv i) || decide (2 ^ 38 ≤ q.rst i) || q.stepField i 21 3 != 0 || q.stepField i 29 1 != 0 ||
  q.stepField i 31 1 != 0 || decide (4 ≤ q.stepField i 30 1)

/-- A step that breaks R265: `MIN` above a `MAX` that limits, or source 37 named. -/
def ProgCfg.stepBad (q : ProgCfg) (i : Nat) : Bool :=
  (q.max_ i != 0 && decide (q.max_ i < q.min_ i)) || (q.adv i).testBit 37 || (q.rst i).testBit 37

/-- The reasons for which a program table is refused (R283). -/
def ProgCfg.faults (q : ProgCfg) : List (Bool × Nat) :=
  let last := q.lastStep 120 0
  let steps := List.range (last.getD 119 + 1)
  [((List.range 8).any q.condRange, 1), ((List.range 8).any q.condReserved || steps.any q.stepReserved, 2),
   (last.isNone || steps.any q.stepBad, 8)]

/-! ### The decision delay (R258, R269) -/

/-- D_dec(k) (R41). -/
def dDec (k : Nat) : Nat := if k = 0 then 32 else 32 + 40 * 2 ^ k

/-- Release delay of a Lens spectrum under the settings in force at sample `n` (R41). -/
def State.dSpec (s : State) (ch : Fin 2) (n : Nat) : Nat :=
  let c := (s.lns.get ch).cfgAt n
  let k := s.fltKAt ch n
  dDec k + c.size * 2 ^ k + 2 * c.size + 3072

/-- Channel of a mask condition, or of a source that belongs to one. -/
def chanOf (b : Bool) : Fin 2 := if b then 1 else 0

/-- Operand and table of mask condition `src` in force at sample `n`. -/
def State.maskAt (s : State) (src n : Nat) : Nat × BitVec 32 × List Byte :=
  if h : src < 16 then (s.sec.masks[src]).cfgAt n else (0, 0, [])

/-- Is the comparator of sources 28 to 31 forwarded (R258)? -/
def State.forwarded (s : State) (src : Nat) : Bool := s.on (ftFwd (chanOf (30 ≤ src)) (chanOf (src % 2 = 1)))

/-- D_src of a source of program settings `q` under the settings in force at sample `n`; none while the source is not active
(R258, R269). -/
def State.dSrc (s : State) (q : ProgCfg) (src n : Nat) : Option Nat :=
  if src < 16 then
    let ctrl := (s.maskAt src n).2.1
    let ch := chanOf (8 ≤ src)
    if ctrl.getLsbD 27 then
      some (s.dSpec ch n + (bitsOf ctrl.toNat 16 11 - 1) * ((s.lns.get ch).cfgAt n).hop * 2 ^ s.fltKAt ch n)
    else none
  else if src < 24 then
    let i := src - 16
    let ch := chanOf (q.cch i = 1)
    match q.ctype i with
    | 1 => some (q.cond i 8 4 - 1)
    | 2 => some 0
    | 3 => some (dDec (s.fltKAt ch n) + (2 ^ (q.cond i 8 4 % 32) - 1) * 2 ^ s.fltKAt ch n)
    | 4 => some (s.dSpec ch n + 128)
    | _ => none
  else if src < 28 then
    let ch := chanOf (26 ≤ src)
    let rc := (histAt (s.flt.get ch).rank n).2
    some (dDec (s.fltKAt ch n) + (rankWin rc - 1) * 2 ^ s.fltKAt ch n + 16)
  else if src < 32 then (if s.forwarded src then some 0 else none)
  else if src < 34 then some 1024
  else some 0

/-- D_sec for the label of sample `n` (R269). -/
def State.dSecAt (s : State) (n : Nat) : Nat :=
  (List.finRange 4).foldl (fun d p =>
    let q := (s.sec.progs[p]).at_ n
    if q.en then
      let names := q.names
      (List.range 38).foldl (fun d src => if names.testBit src then max d ((s.dSrc q src n).getD 0) else d) d
    else d) 0 + 256

/-- D_sec in force (R269). -/
def State.dSec (s : State) : Nat := s.dSecAt s.time.samples

/-! ### Events into the reorder buffers (R268) -/

/-- Does a program with settings `q` take event `e`?  A local condition is of one program. -/
def ProgCfg.takes (q : ProgCfg) (p : Fin 4) (e : SecEvt) : Bool :=
  q.en && q.names.testBit e.src && (match e.prog with
    | none => true
    | some x => x = p.val)

/-- Give an event to program `p`, under its settings at the event's label (R282); one whose label has been examined comes too
late (log entry 7). -/
def State.bufferEvent (s : State) (e : SecEvt) (p : Fin 4) : State :=
  let q := s.sec.progs[p]
  if !((q.at_ e.n).takes p e && decide (s.sec.examined ≤ e.n)) then s
  else if 16384 ≤ q.buf.length then
    let s := (s.incSat (F.SEC_PROG_n_STATUS_DROPS p)).setB F.SEC_STATUS_DROPS_SEEN true
    (s.raise 135).modProg p fun q => { q with trunc := true }
  else s.modProg p fun q => { q with buf := q.buf ++ [e] }

/-- SECTOR_EVENT (R268): the oldest event on its way reaches the programs that name its source. -/
def execSectorEvent (s : State) : Out3 :=
  .next (match s.sec.waiting with
    | [] => s
    | e :: es => (List.finRange 4).foldl (fun s p => s.bufferEvent e p) (s.modSec fun x => { x with waiting := es }))

/-! ### Segments (R276 to R281) -/

/-- `PRE`, `POST`, `HOLDOFF`, `AUTO` in force. -/
def State.segPre (s : State) : Nat := s.pair (secMirror 0x24)
def State.segPost (s : State) : Nat := s.pair (secMirror 0x26)
def State.holdoff (s : State) : Nat := s.pair (secMirror 0x20)
def State.autoN (s : State) : Nat := s.pair (secMirror 0x22)

/-- NSEG and the channels of `SEG_RING`. -/
def State.nseg (s : State) : Nat := bitsOf (s.reg (secMirror 0x28)).toNat 0 24 + 1
def State.segCh (s : State) (ch : Fin 2) : Bool := (s.reg (secMirror 0x28)).getLsbD (24 + ch.val)
def State.segSpill (s : State) : Bool := (s.reg (secMirror 0x28)).getLsbD 26

/-- Capture mode of channel `ch` in force. -/
def State.capMode (s : State) (ch : Fin 2) : Nat := bitsOf (s.reg (A.AMC_CAP_A + 4 * ch.val)).toNat 0 2

/-- Ring size R_bytes of channel `ch` that unit 9 holds in force at sample `n` (R277, R333). -/
def State.ringBytes (s : State) (ch : Fin 2) (n : Nat) : Nat :=
  (bitsOf (((s.cap.get ch).cfgAt n).ring).toNat 15 15 + 1) * 2 ^ 26

/-- Slot size of channel `ch` for an arming at sample `n` (R277). -/
def State.slotBytes (s : State) (ch : Fin 2) (n : Nat) : Nat := s.ringBytes ch n / s.nseg / 256 * 256

/-- Capacity of a slot of channel `ch` in ticks, for an arming at sample `n` (R277). -/
def State.slotTicks (s : State) (ch : Fin 2) (n : Nat) : Nat :=
  if ((s.cap.get ch).cfgAt n).mode = 2 then s.slotBytes ch n / 4 * 2 ^ s.fltKAt ch n else s.slotBytes ch n / 12 * 8

/-- The capacity: the smallest over the channels named; 0 with none named. -/
def State.capacity (s : State) (n : Nat) : Nat :=
  match s.segCh 0, s.segCh 1 with
  | true, true => min (s.slotTicks 0 n) (s.slotTicks 1 n)
  | true, false => s.slotTicks 0 n
  | false, true => s.slotTicks 1 n
  | false, false => 0

/-- Is a channel named? -/
def State.segNamed (s : State) : Bool := s.segCh 0 || s.segCh 1

/-- A channel named is not captured at sample `n`. -/
def State.notCaptured (s : State) (n : Nat) : Bool :=
  (s.segCh 0 && ((s.cap.get 0).cfgAt n).mode = 0) || (s.segCh 1 && ((s.cap.get 1).cfgAt n).mode = 0)

/-- Capture settings with the slots `seg` from sample `n` on. -/
def segCfgs (n : Nat) (seg : Option SegCfg) (l : List CapCfg) : List CapCfg :=
  let later := l.filter fun c => decide (n < c.n)
  let old := l.filter fun c => decide (c.n ≤ n)
  later.map (fun c => { c with seg := seg }) ++ (match old with
    | [] => []
    | c :: _ => { c with n := n, seg := seg } :: old.filter fun c => decide (c.n < n))

/-- The slots of channel `ch` change at sample `n` (R338). -/
def State.capSeg (s : State) (ch : Fin 2) (n : Nat) (seg : Option SegCfg) : State :=
  if s.segCh ch then s.modCap ch fun c => { c with cfgs := segCfgs n seg c.cfgs } else s

/-- Chunks of both channels close before sample `n`, where an `ARM`, a `DISARM` or an entry of unit 9 is applied (R336). -/
def State.capCloseAt (s : State) (n : Nat) : State :=
  let put (c : CapCh) : CapCh := { c with breaks := n :: c.breaks }
  (s.modCap 0 put).modCap 1 put

/-- A trigger at sample `n` opens a segment when the open slot takes it (R279).  Answers the segment index and whether no
segment opened. -/
def State.segTrigger (s : State) (n : Nat) (label : Long) : State × Nat × Bool :=
  let idx := s.f F.SEC_SEG_INDEX_INDEX
  let slot := if s.on F.SEC_STATUS_ARMED && s.segNamed then s.sec.fill else none
  match slot.filter (· ≤ n) with
  | some f =>
    let lastSlot := !s.on F.SEC_STATUS_CONT && decide (s.sec.slot + 1 = s.nseg)
    let g : Segment :=
      { trig := label, fill := f, first := max (n - s.segPre) f, end_ := n + s.segPost, slot := s.sec.slot, index := idx,
        prelost := decide (n < f + s.segPre), spilled := false, last := lastSlot, done := false }
    let s := s.modSec fun x =>
      { x with segs := x.segs ++ [g], slot := (x.slot + 1) % s.nseg, fill := if lastSlot then none else some g.end_ }
    (s.setF F.SEC_SEG_INDEX_INDEX (idx + 1), idx, false)
  | none => ((s.incSat F.SEC_OVERLAP_COUNT).raiseLimited 134 1000, idx, true)

/-! ### Pins -/

/-- Operand of pin `p` in force at sample `n` (R284) and its fields. -/
def State.pinOp (s : State) (p : Fin 2) (n : Nat) : BitVec 32 := (histAt (s.tower.get p).ops n).2
def pinWhat (v : BitVec 32) : Nat := bitsOf v.toNat 1 2
def pinWidth (v : BitVec 32) : Nat := 64 * bitsOf v.toNat 8 8
def pinDelay (v : BitVec 32) : Nat := 256 * bitsOf v.toNat 16 16

/-- Change the TOWER signal of pin `p`. -/
def State.modTower (s : State) (p : Fin 2) (g : TowerPin → TowerPin) : State :=
  { s with tower := s.tower.set p (g (s.tower.get p)) }

/-- The pulse request of a trigger at sample `n` for pin `p` (R284). -/
def State.pinTrigger (s : State) (n : Nat) (accepted : Bool) (p : Fin 2) : State :=
  let v := s.pinOp p n
  if pinWhat v = 0 || (pinWhat v = 1 && accepted) then
    s.modTower p fun t => { t with reqs := t.reqs ++ [.pulse (n + pinDelay v) (pinWidth v)] }
  else s

/-- The `XTRIG` pulse of a trigger (R285). -/
def State.xtrigTrigger (s : State) (n : Nat) (accepted : Bool) : State :=
  let v := (histAt s.sec.xops n).2
  let what := bitsOf v.toNat 2 2
  if v.getLsbD 1 && (what = 0 || (what = 1 && accepted)) then
    s.modSec fun x => { x with xreqs := x.xreqs ++ [(n + pinDelay v, pinWidth v)] }
  else s

/-- The armed level of pin `p` rises with an arming at sample `n` (R284). -/
def State.armLevel (s : State) (n : Nat) (p : Fin 2) : State :=
  let v := s.pinOp p n
  if pinWhat v = 2 then s.modTower p fun t => { t with reqs := t.reqs ++ [.rise (n + pinDelay v)] } else s

/-- Has the armed level of a pin risen, or been asked to? -/
def TowerPin.raised (t : TowerPin) : Bool :=
  t.level || t.reqs.any fun r => match r with
    | .rise _ => true
    | _ => false

/-- The armed level falls with a disarming at sample `n` (R284). -/
def State.disarmLevel (s : State) (n : Nat) (p : Fin 2) : State :=
  if (s.tower.get p).raised then
    s.modTower p fun t => { t with reqs := t.reqs ++ [.fall (n + pinDelay (s.pinOp p n))] }
  else s

/-- The unit disarms at sample `d` (R279, R281). -/
def State.disarmAt (s : State) (d : Nat) : State :=
  let s := (s.capSeg 0 d none).capSeg 1 d none
  let s := (s.setB F.SEC_STATUS_ARMED false).setB F.SEC_STATUS_CONT false
  let s := s.modSec fun x => { x with fill := none }
  ((s.disarmLevel d 0).disarmLevel d 1).raise 129

/-! ### Examining a label (R266, R270 to R275) -/

/-- The program under the settings in force at sample `n`: other ones than it followed start it at step 0, and their label is
its entry (R266, R282). -/
def Prog.turn (q : Prog) (n : Nat) : Prog :=
  let c := q.at_ n
  if c.n = q.seen then q else { q with seen := c.n, step := 0, entry := c.n }

/-- One program at sample `n` with the events `es` under the settings `c` (R266): the program after it, and the sources of its
completion. -/
def Prog.examine (q : Prog) (c : ProgCfg) (n : Nat) (es : List SecEvt) : Prog × Option Nat :=
  let e := es.foldl (fun m x => m ||| 2 ^ x.src) 0
  let a := e &&& c.adv q.step
  if (e &&& c.rst q.step) != 0 then ({ q with step := 0, entry := n }, none)
  else if a != 0 && decide (q.entry + c.min_ q.step ≤ n) then
    if c.isLast q.step then ({ q with step := 0, entry := n }, some a)
    else ({ q with step := q.step + 1, entry := n }, none)
  else if c.max_ q.step != 0 && decide (n = q.entry + c.max_ q.step) then
    ({ q with step := 0, entry := n }, if c.fires q.step then some (2 ^ 37) else none)
  else (q, none)

/-- A candidate: program (4 for the auto mode), sources, and the events that completed it (R266, R272). -/
structure Cand where
  prog : Nat
  srcs : Nat
  evts : List SecEvt
  trunc : Bool
deriving DecidableEq, Repr

/-- Step program `p` at sample `n` and give its candidate. -/
def State.stepProg (s : State) (n : Nat) (p : Fin 4) : State × List Cand :=
  let q := (s.sec.progs[p]).turn n
  let c := q.at_ n
  let es := q.buf.filter fun e => e.n = n
  let (q', m) := if c.en then q.examine c n es else (q, none)
  let rest := q.buf.filter fun e => decide (n < e.n)
  let s := (s.modProg p fun _ => { q' with buf := rest }).setF (F.SEC_PROG_n_STATUS_STEP p) q'.step
  match m with
  | none => (s, [])
  | some m => (s, [{ prog := p.val, srcs := m, evts := es.filter fun e => m.testBit e.src, trunc := q.trunc }])

/-- Step every program. -/
def State.stepProgs (s : State) (n : Nat) : List (Fin 4) → State × List Cand
  | [] => (s, [])
  | p :: ps =>
    let (s, c) := s.stepProg n p
    let (s, cs) := s.stepProgs n ps
    (s, c ++ cs)

/-- The label at which auto mode forces a trigger (R272). -/
def State.autoPoint (s : State) : Option Nat :=
  if !s.on F.SEC_STATUS_ARMED || s.autoN = 0 then none
  else match s.sec.lastTrig with
    | some t => if s.sec.trigSinceArm then some (t + s.holdoff + s.autoN) else some (s.sec.armAt + s.autoN)
    | none => some (s.sec.armAt + s.autoN)

/-- Lowest index in a source mask (R270). -/
def lowestBit (m : Nat) : Nat := ((List.range 38).find? m.testBit).getD 0

/-- Payload of a trigger record (R275). -/
def trigPayload (count idx : Nat) (noSeg : Bool) (supp : Nat) (bin : Option (Int × Int)) : List Byte :=
  bytesOf 4 count ++ bytesOf 4 (idx % 2 ^ 24 + bit noSeg * 2 ^ 31) ++ bytesOf 4 supp ++
  (match bin with
   | some (b, r) => bytesOf 4 ((BitVec.ofInt 17 b).toNat + 2 ^ 31) ++ bytes16 r
   | none => bytesOf 6 0) ++ bytesOf 14 0

/-- Was REFIN absent at sample `n` (R23)? -/
def State.refAbsentAt (s : State) (n : Nat) : Bool := s.clk.absent.any fun m => m.touches n (n + 1)

/-- Candidates at sample `n` make one trigger (R270 to R275). -/
def State.secTrigger (s : State) (n : Nat) (cs : List Cand) : State :=
  let label := s.labelOf n
  let srcs := cs.foldl (fun m c => m ||| c.srcs) 0
  let progs := cs.foldl (fun m c => if c.prog < 4 then m ||| 2 ^ c.prog else m) 0
  let prim := lowestBit srcs
  let evts := cs.flatMap (·.evts)
  let first := evts.find? fun e => e.src = prim
  let forced := srcs = 2 ^ 36
  let flags := evts.foldl (fun f e => f ||| e.flags) 0 ||| flagIf forced Flag.forced |||
    flagIf (cs.any (·.trunc)) Flag.trunc ||| flagIf (s.refAbsentAt n) Flag.refAbsent ||| s.lateFlag 6 label |||
    s.lateFlag 14 label ||| s.gapFlag 4
  let s := s.gapDone 4
  let s := (List.finRange 4).foldl (fun s p => if progs.testBit p.val then s.modProg p fun q => { q with trunc := false } else s) s
  let s := if forced then (s.incSat F.SEC_FORCED_COUNT).raiseLimited 133 1000 else s
  let s := s.incWrap F.SEC_TRIG_COUNT_COUNT
  let count := s.f F.SEC_TRIG_COUNT_COUNT
  let s := if count = 0 then s.raise 125 else s
  let s := if s.on F.SEC_EVT_CTRL_TRIG_EVT then s.raiseLimited 124 1 else s
  let s := s.setPair A.SEC_LAST_TRIG_LO label.toNat
  let s := (s.setReg A.SEC_LAST_SRC_LO (BitVec.ofNat 32 srcs)).setF F.SEC_LAST_SRC_HI_SRC (srcs / 2 ^ 32)
  let s := (s.setF F.SEC_LAST_SRC_HI_PROG progs).setF F.SEC_LAST_SRC_HI_PRIMARY prim
  let (s, idx, noSeg) := s.segTrigger n label
  let s := ((s.pinTrigger n (!noSeg) 0).pinTrigger n (!noSeg) 1).xtrigTrigger n (!noSeg)
  let bin := if prim < 16 then (match first with
    | some e => e.bin
    | none => none) else none
  let payload := trigPayload count idx noSeg s.sec.suppSince bin
  let param := srcs + progs * 2 ^ 38 + prim * 2 ^ 42
  let frac := match first with
    | some e => e.frac
    | none => 0
  let last := evts.foldl (fun m e => max m e.last) n
  let cover := evts.flatMap fun (e : SecEvt) => match e.ch with
    | some ch => [coverOf ch.val e.from_ (e.last + 1)]
    | none => [⟨0, n, n + 1, Flag.clklost⟩]
  let item : DispItem := { src := 9, key := none, kind := 4, source := 6, tick := label, flags := flags, frac := frac,
                           param := BitVec.ofNat 64 param, payload := payload }
  let s := { s with disp := { s.disp with waiting := s.disp.waiting ++ [item] } }
  let s := s.offer 7 { mkRecord 4 6 flags label param payload (max (last + 64000) (n + s.dSecAt n + 384)) with
    frac := frac, trigTick := label, cover := cover }
  s.modSec fun x => { x with lastTrig := some n, suppSince := 0, trigSinceArm := s.on F.SEC_STATUS_ARMED }

/-- Does a holdoff hold sample `n` (R271)? -/
def State.inHoldoff (s : State) (n : Nat) : Bool :=
  match s.sec.lastTrig with
  | some t => decide (t < n) && decide (n < t + s.holdoff)
  | none => false

/-- Examine the label of sample `n`: step the programs, add the auto candidate, and make a trigger outside the
holdoff. -/
def State.examineLabel (s : State) (n : Nat) : State :=
  let auto := s.autoPoint = some n
  let (s, cs) := s.stepProgs n (List.finRange 4)
  let cs := if auto then cs ++ [{ prog := 4, srcs := 2 ^ 36, evts := [], trunc := false }] else cs
  let s := s.modSec fun x => { x with examined := max x.examined (n + 1) }
  let s := if cs.isEmpty then s
    else if s.inHoldoff n then
      (s.incSat F.SEC_SUPPRESSED_COUNT cs.length).modSec fun x =>
        { x with suppSince := min (x.suppSince + cs.length) (2 ^ 32 - 1) }
    else s.secTrigger n cs
  s

/-- The newest decided label lies at sample `n`; does it lie in a holdoff (R287)? -/
def State.holdoffNow (s : State) : Bool :=
  let n := max (s.sec.examined - 1) (s.time.samples - 384 - s.dSec)
  match s.sec.lastTrig with
  | some t => decide (t ≤ n) && decide (n < t + s.holdoff)
  | none => false

/-- Samples at which the program times out if no event comes before: in the step it is in, and in step 0 of each settings that
follow (R266). -/
def Prog.timeouts (q : Prog) : List Nat :=
  let later := q.cfgs.filter fun c => decide (q.seen < c.n)
  let out (c : ProgCfg) (step entry : Nat) : List Nat :=
    let t := entry + c.max_ step
    if c.en && c.max_ step != 0 && later.all (fun d => decide (d.n ≤ c.n) || decide (t < d.n)) then [t] else []
  out (q.at_ q.seen) q.step q.entry ++ later.flatMap fun c => out c 0 c.n

/-- Sample at which program `p` times out next (R266). -/
def State.timeoutOf (s : State) (p : Fin 4) : Option Nat :=
  ((s.sec.progs[p]).timeouts.filter fun t => decide (s.sec.examined ≤ t)).min?

/-! ### Sources known for a label (R258, R268) -/

/-- Grids of a filter chain that still have outputs to come. -/
def Flt.live (f : Flt) : List FGrid :=
  f.grids.filter fun g => match g.end_ with
    | some e => decide (g.next < e)
    | none => true

/-- Has the filter chain made every output labelled at or before sample `n`? -/
def State.fltPast (s : State) (ch : Fin 2) (n : Nat) : Bool :=
  match (s.flt.get ch).live with
  | g :: _ => decide (n < g.next)
  | [] => decide (n < s.tth.rx)

/-- Has the Lens engine made every spectrum labelled at or before sample `n`? -/
def State.lnsPast (s : State) (ch : Fin 2) (n : Nat) : Bool :=
  let l := s.lns.get ch
  s.fltPast ch n && (l.ready ++ l.open_).all fun f => decide (n < f.n)

/-- May a run of mask condition `m` that began at or before sample `n` still reach its count? -/
def State.maskRuns (s : State) (ch : Fin 2) (m : MaskSt) (n : Nat) : Bool :=
  let l := s.lns.get ch
  m.run != 0 && decide (m.run < bitsOf (m.cfgAt m.seen).2.1.toNat 16 11) && decide (m.first ≤ n) &&
  (l.grid = m.grid || (l.ready ++ l.open_).any fun f => some f.gridOrigin = m.grid)

/-- May a power window of a local condition that begins at or before sample `n` still fill? -/
def State.windowRuns (s : State) (ch : Fin 2) (l : Local) (w n : Nat) : Bool :=
  ((s.flt.get ch).live.any fun g => decide (g.origin = l.grid)) &&
  (l.win.drop (if l.win.length = 2 ^ w then 1 else 0)).any fun x => decide (x.1 ≤ n)

/-- Is local condition `i` of program `p` under its settings `q` known up to sample `n`? -/
def State.localKnown (s : State) (p : Fin 4) (q : ProgCfg) (i : Fin 8) (n : Nat) : Bool :=
  let ch := chanOf (q.cch i = 1)
  let l := ((s.sec.progs[p]).locals[i]).follow q.n
  match q.ctype i with
  | 1 => decide (n < s.tth.rx) && !(l.run != 0 && decide (l.run < q.cond i 8 4) && decide (l.first ≤ n))
  | 2 => decide (n < s.tth.rx)
  | 3 => s.fltPast ch n && !s.windowRuns ch l (q.cond i 8 4 % 32) n
  | 4 => s.lnsPast ch n && (s.specs.get ch).all fun sp => decide (n < sp.n)
  | _ => true

/-- Has the threshold detector of a chain examined every trace value labelled at or before sample `n`? -/
def State.tracePast (s : State) (ch : Fin 2) (n : Nat) : Bool :=
  s.fltPast ch n && ((s.flt.get ch).live.all fun g => g.outs.all fun o => decide (n < o.1)) &&
  s.held.all fun h => match h.what with
    | .trace c _ m _ _ _ _ => c != ch || decide (n < m)
    | _ => true

/-- Is source `src` of program `p` under its settings `q` known up to sample `n`?  The pins tell their edges in time
(R258). -/
def State.srcKnown (s : State) (p : Fin 4) (q : ProgCfg) (src n : Nat) : Bool :=
  if h : src < 16 then
    let m := s.sec.masks[src]
    let ch := chanOf (8 ≤ src)
    !((m.cfgs.filter fun c => decide (c.1 ≤ n)).any fun c => c.2.1.getLsbD 27) || (s.lnsPast ch n && !s.maskRuns ch m n)
  else if h : 16 ≤ src ∧ src < 24 then s.localKnown p q ⟨src - 16, by omega⟩ n
  else if src < 28 then s.tracePast (chanOf (26 ≤ src)) n
  else if src < 32 then !s.forwarded src || decide (n < s.tth.rx)
  else true

/-- Is every source that an enabled program names known for the labels before sample `n` (R268)? -/
def State.secKnown (s : State) (n : Nat) : Bool :=
  (List.finRange 4).all fun p =>
    ((s.sec.progs[p]).over s.sec.examined n).all fun q =>
      !q.en || (let names := q.names; (List.range 38).all fun src => !names.testBit src || s.srcKnown p q src (n - 1))

/-- Is everything before sample `n` decided: every source known, no event on its way or in a buffer, no timeout and no auto point
that is not examined yet? -/
def State.secReached (s : State) (n : Nat) : Bool :=
  let old (m : Nat) : Bool := decide (s.sec.examined ≤ m) && decide (m < n)
  s.secKnown n && !(s.sec.waiting.any fun e => decide (e.n < n)) &&
  (List.finRange 4).all (fun p =>
    !((s.sec.progs[p]).buf.any fun e => old e.n) && !((s.sec.progs[p]).timeouts.any old)) &&
  (match s.autoPoint with
   | some m => !old m
   | none => true)

/-- Is the label of sample `n` the next to be examined: every source is known for it and the unit has reached it? -/
def State.examines (s : State) (n : Nat) : Bool :=
  s.pipeRuns && decide (s.sec.examined ≤ n) && s.secReached n && s.secKnown (n + 1) && !(s.sec.waiting.any fun e => e.n = n)

/-- The converter when the unit decides on the label of sample `n` (R269). -/
def State.secAt (s : State) (n : Nat) : State := s.advanceSamples (n + s.dSecAt n + 384)

/-- Examine the label of sample `n` when it is its turn. -/
def State.examineAt (s : State) (n : Nat) : State := if s.examines n then (s.secAt n).examineLabel n else s

/-- SECTOR_LABEL (R266): the label is examined when every source is known for it; before that nothing changes
(log entry 7). -/
def execSectorLabel (label : BitVec 64) (s : State) : Out3 := .next (s.examineAt (s.sampleOf label))

/-- STEP_TIMEOUT (R266). -/
def execStepTimeout (p : Fin 4) (s : State) : Out3 :=
  .next (match s.timeoutOf p with
    | some n => s.examineAt n
    | none => s)

/-- AUTO_TRIGGER (R272). -/
def execAutoTrigger (s : State) : Out3 :=
  .next (match s.autoPoint with
    | some n => s.examineAt n
    | none => s)

/-- The first segment not yet complete. -/
def firstOpen : List Segment → Option Segment
  | [] => none
  | g :: gs => if g.done then firstOpen gs else some g

/-- Mark the first segment not yet complete as complete. -/
def markDone : List Segment → List Segment
  | [] => []
  | g :: gs => if g.done then g :: markDone gs else { g with done := true } :: gs

/-- SEGMENT_END (R279, R281): the oldest running segment completes; in single-pass mode the last slot disarms the unit, and
so does a segment that a `DISARM` let complete. -/
def execSegmentEnd (s : State) : Out3 :=
  .next (match firstOpen s.sec.segs with
    | none => s
    | some g =>
      let s := s.advanceSamples g.end_
      let full := !s.on F.SEC_STATUS_CONT && decide (g.slot + 1 = s.nseg)
      let s := (s.modSec fun x => { x with segs := markDone x.segs }).raiseLimited 130 1
      let s := if full then (s.setB F.SEC_STATUS_RING_FULL true).raise 131 else s
      if g.last then s.disarmAt g.end_ else s)

/-! ### Entries of unit 6 -/

/-- Record a refusal of unit 6: an `ARM` that is too long raises `ARM_TOO_LONG` in place of `SEC_REFUSED` (R278, R283). -/
def sec6Refuse (e : Entry) (reason : Nat) (s : State) : State :=
  if e.sel = 0x30 && reason = 4 then
    let s := (s.setF F.SEC_LAST_REFUSE_SEL e.sel).setF F.SEC_LAST_REFUSE_REASON reason
    let s := (s.setB F.SEC_LAST_REFUSE_UNIT14 false).setB F.SEC_STATUS_REFUSED true
    (s.setB F.SEC_STATUS_ARM_FAULT true).raise 127
  else secRefuse false e reason s

/-- Sample from which an entry on a mask acts, never before an earlier one. -/
def MaskSt.from_ (m : MaskSt) (n : Nat) : Nat := max n (m.cfgs.headD (0, 0, [])).1

/-- Effect of a `MASK_CTRL` entry (R260, R283). -/
def maskCtrlEff (at_ : Long) (e : Entry) (_ : List Byte) (s : State) : Except Nat State :=
  let c : Fin 16 := ⟨e.sel % 16, Nat.mod_lt _ (by decide)⟩
  let v := e.opnd.toNat
  let t := ((s.sec.masks[c]).cfgs.headD (0, 0, [])).2.2
  let npts := bitsOf v 0 13
  let k := bitsOf v 16 11
  let en := e.opnd.getLsbD 27
  let n := s.sampleOf (s.entryAt 6 at_ e)
  checked [(decide (3 < bitsOf v 13 3) || k = 0 || decide (1024 < k) || (en && (decide (npts < 2) || decide (4096 < npts))), 1),
      (decide (2 ^ 29 ≤ v), 2), (en && maskFalls t npts, 7)]
    ((s.setReg (secMirror e.sel) e.opnd).modMask c fun m => { m with cfgs := (m.from_ n, e.opnd, t) :: m.cfgs })

/-- Effect of a mask table (R261, R283). -/
def maskEff (at_ : Long) (e : Entry) (tab : List Byte) (s : State) : Except Nat State :=
  let c : Fin 16 := ⟨e.sel % 16, Nat.mod_lt _ (by decide)⟩
  let v := ((s.sec.masks[c]).cfgs.headD (0, 0, [])).2.1
  let n := s.sampleOf (s.entryAt 6 at_ e)
  checked [(v.getLsbD 27 && maskFalls tab (bitsOf v.toNat 0 13), 7)]
    (s.modMask c fun m => { m with cfgs := (m.from_ n, v, tab) :: m.cfgs })

/-- New settings of program `p` from sample `c.n` on: the program restarts there (R266, R282), and events that the old settings
took for later labels stay only where the new ones take them. -/
def State.progPut (s : State) (p : Fin 4) (c : ProgCfg) : State :=
  let s := s.modProg p fun q =>
    { q with cfgs := c :: q.cfgs.filter fun x => x.n != c.n,
             buf := q.buf.filter fun e => decide (e.n < c.n) || (e.prog.isNone && c.takes p e) }
  let s := s.setB (F.SEC_PROG_n_STATUS_EN p) c.en
  if s.secReached c.n then (s.modProg p fun q => q.turn c.n).setF (F.SEC_PROG_n_STATUS_STEP p) 0 else s

/-- Label sample from which an entry on program `p` acts: it is not examined yet, nor under older settings. -/
def State.progFrom (s : State) (p : Fin 4) (at_ : Long) (e : Entry) : Nat :=
  max (s.sampleOf (s.entryAt 6 at_ e)) (max s.sec.examined (s.sec.progs[p]).newest.n)

/-- Effect of a `PROG_CTRL` entry (R267). -/
def progCtrlEff (at_ : Long) (e : Entry) (_ : List Byte) (s : State) : Except Nat State :=
  let p : Fin 4 := ⟨e.sel % 4, Nat.mod_lt _ (by decide)⟩
  checked [(decide (2 ≤ e.opnd.toNat), 2)]
    ((s.setReg (secMirror e.sel) e.opnd).progPut p
      { (s.sec.progs[p]).newest with n := s.progFrom p at_ e, en := e.opnd.getLsbD 0 })

/-- Effect of a program table (R263 to R265). -/
def progEff (at_ : Long) (e : Entry) (tab : List Byte) (s : State) : Except Nat State :=
  let p : Fin 4 := ⟨e.sel % 4, Nat.mod_lt _ (by decide)⟩
  let c : ProgCfg := { (s.sec.progs[p]).newest with
    n := s.progFrom p at_ e, table := tab ++ List.replicate (4096 - tab.length) 0 }
  checked c.faults (s.progPut p c)

/-- Effect of a 64-bit segment parameter whose `_HI` selector is `hi` (R276): `width` bits, from `lo` to `up`. -/
def segEff (hi width lo up : Nat) (fixed : Bool) (e : Entry) (_ : List Byte) (s : State) : Except Nat State :=
  let armed := fixed && s.on F.SEC_STATUS_ARMED
  if e.sel + 1 = hi then checked [(armed, 3)] (s.stageLo 6 e.sel e.opnd)
  else
    let v := s.stagedLo 6 (hi - 1) + e.opnd.toNat * 2 ^ 32
    let w := v % 2 ^ width
    checked [(decide (w < lo) || decide (up < w), 1), (decide (2 ^ width ≤ v), 2), (armed, 3)]
      (s.setPair (secMirror (hi - 1)) w)

/-- The effect of an entry that sets the holdoff or auto mode from label `at_` on: every earlier label has been examined, so no
trigger is forced before it (R282). -/
def fromHere (at_ : Long) (eff : Entry → List Byte → State → Except Nat State) (e : Entry) (tab : List Byte) (s : State) :
    Except Nat State :=
  match eff e tab s with
  | .ok t => .ok (t.modSec fun x => { x with examined := max x.examined (s.sampleOf (s.entryAt 6 at_ e)) })
  | .error r => .error r

/-- Effect of a `SEG_RING` entry (R276, R282). -/
def segRingEff (e : Entry) (_ : List Byte) (s : State) : Except Nat State :=
  checked [(decide (2 ^ 27 ≤ e.opnd.toNat), 2), (s.on F.SEC_STATUS_ARMED, 3)] (s.setReg (secMirror 0x28) e.opnd)

/-- Effect of an `ARM` entry (R278). -/
def armEff (at_ : Long) (e : Entry) (_ : List Byte) (s : State) : Except Nat State :=
  let a := s.sampleOf (s.entryAt 6 at_ e)
  let cap := s.capacity a
  let span := s.segPre + s.segPost
  let named := s.segNamed
  let seg (ch : Fin 2) : Option SegCfg := some { bs := s.slotBytes ch a, cap := cap, spill := s.segSpill }
  let s1 := (s.setB F.SEC_STATUS_ARMED true).setB F.SEC_STATUS_CONT (e.opnd.getLsbD 0)
  let s1 := (s1.setF F.SEC_SEG_INDEX_INDEX 0).setPair A.SEC_SEG_CAP_LO cap
  let s1 := ((s1.capSeg 0 a (seg 0)).capSeg 1 a (seg 1)).capCloseAt a
  let s1 := s1.modSec fun x =>
    { x with armAt := a, trigSinceArm := false, slot := 0, fill := if named then some a else none }
  checked [(decide (2 ≤ e.opnd.toNat), 2), (s.on F.SEC_STATUS_ARMED, 3),
      (named && !s.notCaptured a && (decide (cap < s.segPre) || (decide (cap < span) && !s.segSpill)), 4),
      (named && (s.notCaptured a || decide (cap < 4096)), 5), (named && decide (span < 4096), 6)]
    (((s1.armLevel a 0).armLevel a 1).raise 128)

/-- Effect of a `DISARM` entry (R281); the chunks close at it (R336). -/
def disarmEff (at_ : Long) (e : Entry) (_ : List Byte) (s : State) : Except Nat State :=
  let d := s.sampleOf (s.entryAt 6 at_ e)
  let runs := s.sec.segs.any fun g => !g.done && decide (d < g.end_)
  checked [(e.opnd != 0, 2)]
    (let s := s.capCloseAt d
     if !s.on F.SEC_STATUS_ARMED then s
     else if runs then
       s.modSec fun x =>
         { x with fill := none, segs := x.segs.map fun (g : Segment) =>
             if g.done || !decide (d < g.end_) then g else { g with last := true } }
     else s.disarmAt d)

/-- The next entry of unit 6 that acts on decisions, of the selectors `sel`, reaches its label: every earlier one has been
examined (R282, log entry 7). -/
def State.secEntry (s : State) (sel : Nat → Bool) (label : Long) (eff : Entry → List Byte → State → Except Nat State) :
    State :=
  if s.pipeRuns && s.secReached (s.sampleOf label) then s.applyNext 6 sel label eff sec6Refuse 0x20 else s

/-- The next entry of unit 6 on a mask or a program, of the selectors `sel`, reaches its element: the first spectrum or sample
block labelled with its target or later (R130). -/
def State.secData (s : State) (sel : Nat → Bool) (label : Long) (eff : Entry → List Byte → State → Except Nat State) :
    State := s.applyNext 6 sel label eff sec6Refuse

/-- MASK_CTRL (R260). -/
def execMaskCtrl (label : BitVec 64) (s : State) : Out3 :=
  .next (s.secData (fun x => x < 16) label (maskCtrlEff label))
/-- MASK (R261). -/
def execMask (label : BitVec 64) (s : State) : Out3 :=
  .next (s.secData (fun x => 0x10000 ≤ x && x < 0x10010) label (maskEff label))
/-- PROG_CTRL (R267). -/
def execProgCtrl (label : BitVec 64) (s : State) : Out3 :=
  .next (s.secData (fun x => 0x10 ≤ x && x < 0x14) label (progCtrlEff label))
/-- PROG (R263). -/
def execProg (label : BitVec 64) (s : State) : Out3 :=
  .next (s.secData (fun x => 0x10010 ≤ x && x < 0x10014) label (progEff label))
/-- HOLDOFF (R271). -/
def execHoldoff (label : BitVec 64) (s : State) : Out3 :=
  .next (s.secEntry (fun x => x = 0x20 || x = 0x21) label (fromHere label (segEff 0x21 48 4096 (2 ^ 48 - 1) false)))
/-- AUTO (R272). -/
def execAuto (label : BitVec 64) (s : State) : Out3 :=
  .next (s.secEntry (fun x => x = 0x22 || x = 0x23) label (fromHere label (segEff 0x23 48 0 (2 ^ 48 - 1) false)))
/-- PRE (R276). -/
def execPre (label : BitVec 64) (s : State) : Out3 :=
  .next (s.secEntry (fun x => x = 0x24 || x = 0x25) label (segEff 0x25 41 0 (2 ^ 40) true))
/-- SECTOR_POST (R276). -/
def execSectorPost (label : BitVec 64) (s : State) : Out3 :=
  .next (s.secEntry (fun x => x = 0x26 || x = 0x27) label (segEff 0x27 48 1 (2 ^ 48 - 1) true))
/-- SEG_RING (R277). -/
def execSegRing (label : BitVec 64) (s : State) : Out3 := .next (s.secEntry (fun x => x = 0x28) label segRingEff)
/-- ARM (R278). -/
def execArm (label : BitVec 64) (s : State) : Out3 := .next (s.secEntry (fun x => x = 0x30) label (armEff label))
/-- DISARM (R281). -/
def execDisarm (label : BitVec 64) (s : State) : Out3 := .next (s.secEntry (fun x => x = 0x31) label (disarmEff label))

/-! ### Pins of unit 14 -/

/-- Effect of a `TRIGOUTn_SRC` entry (R284): the pin's source switches. -/
def trigoutEff (p : Fin 2) (at_ : Long) (e : Entry) (_ : List Byte) (s : State) : Except Nat State :=
  let v := e.opnd
  checked [(pinWhat v = 3, 1), (bitsOf v.toNat 3 5 != 0, 2), (pinWidth v = 0, 9)]
    ((((s.setReg (A.SEC_IO_TRIGOUTn_SRC p) v).setB (toSrc p) (v.getLsbD 0)).modTower p fun t =>
      { t with ops := histPut t.ops (s.sampleOf (s.entryAt 14 at_ e)) v }).updPins)

/-- TRIGOUT_SRC (R284). -/
def execTrigoutSrc (p : Fin 2) (label : BitVec 64) (s : State) : Out3 :=
  .next (s.applyNext 14 (fun x => x = 4 + p.val) label (trigoutEff p label) (secRefuse true))

/-- Effect of an `XTRIG_CTRL` entry (R285). -/
def xtrigEff (at_ : Long) (e : Entry) (_ : List Byte) (s : State) : Except Nat State :=
  let v := e.opnd
  checked [(bitsOf v.toNat 2 2 = 3, 1), (bitsOf v.toNat 4 4 != 0, 2), (bitsOf v.toNat 8 8 = 0, 9)]
    ((s.setReg A.SEC_IO_XTRIG_CTRL v).modSec fun x => { x with xops := histPut x.xops (s.sampleOf (s.entryAt 14 at_ e)) v })

/-- XTRIG_CTRL (R285). -/
def execXtrigCtrl (label : BitVec 64) (s : State) : Out3 :=
  .next (s.applyNext 14 (fun x => x = 6) label (xtrigEff label) (secRefuse true))

/-- Count a late request (R284). -/
def State.pinLate (s : State) (p : Fin 2) : State :=
  (s.incSat (if p = 0 then F.SEC_PIN_LATE_TO0 else F.SEC_PIN_LATE_TO1)).raise 136

/-- The lamp acts on a request of pin `p` at sample `n` (R284): one that came after its start is driven at once, for its
full width. -/
def State.drivePin (s : State) (p : Fin 2) (n : Nat) : PinReq → State
  | .pulse start len =>
    let s := if start < n then s.pinLate p else s
    (s.modTower p fun t => { t with until_ := some (max (t.until_.getD 0) (n + len)) }).updPins
  | .rise start =>
    let s := if start < n then s.pinLate p else s
    (s.modTower p fun t => { t with level := true }).updPins
  | .fall start =>
    let s := if start < n then s.pinLate p else s
    (s.modTower p fun t => { t with level := false }).updPins

/-- Start of a request. -/
def PinReq.start : PinReq → Nat
  | .pulse a _ => a
  | .rise a => a
  | .fall a => a

/-- The request of a list that starts first, the older of two that start together, and the others. -/
def firstReq : List PinReq → Option (PinReq × List PinReq)
  | [] => none
  | r :: rs =>
    match firstReq rs with
    | none => some (r, [])
    | some (x, xs) => if r.start ≤ x.start then some (r, rs) else some (x, r :: xs)

/-- TRIGOUT_PULSE_START (R284): the request of the pin that starts first is driven at `label`; before its start nothing
changes. -/
def execTrigoutPulseStart (p : Fin 2) (label : BitVec 64) (s : State) : Out3 :=
  .next (match firstReq (s.tower.get p).reqs with
    | none => s
    | some (r, rs) =>
      let n := s.sampleOf label
      if n < r.start then s
      else ((s.advanceTo label).modTower p fun t => { t with reqs := rs }).drivePin p n r)

/-- TRIGOUT_PULSE_END (R284). -/
def execTrigoutPulseEnd (p : Fin 2) (s : State) : Out3 :=
  .next (match (s.tower.get p).until_ with
    | none => s
    | some e => ((s.advanceSamples e).modTower p fun t => { t with until_ := none }).updPins)

/-! ### `XTRIG` (R285) -/

/-- Drive or release `XTRIG`. -/
def State.setXtrig (s : State) (low : Bool) : State :=
  let s := s.setB F.SEC_XTRIG_STATUS_DRIVING low
  if s.pins.xtrigLow = low then s
  else { s with pins := { s.pins with xtrigLow := low } }.emit (.pin "XTRIG" (!low))

/-- The pulse of a list that starts first, and the others. -/
def firstPulse : List (Nat × Nat) → Option ((Nat × Nat) × List (Nat × Nat))
  | [] => none
  | r :: rs =>
    match firstPulse rs with
    | none => some (r, [])
    | some (x, xs) => if r.1 ≤ x.1 then some (r, rs) else some (x, r :: xs)

/-- XTRIG_PULSE_START: the pulse that starts first begins at `label`; one whose start has passed is late. -/
def execXtrigPulseStart (label : BitVec 64) (s : State) : Out3 :=
  .next (match firstPulse s.sec.xreqs with
    | none => s
    | some ((start, len), rs) =>
      let n := s.sampleOf label
      if n < start then s
      else
        let s := s.advanceTo label
        let s := if start < n then (s.incSat F.SEC_XTRIG_STATUS_LATE).raise 137 else s
        (s.modSec fun x => { x with xreqs := rs, xuntil := some (max (x.xuntil.getD 0) (n + len)) }).setXtrig true)

/-- XTRIG_PULSE_END: the pin is released, and its input is ignored for 256 ticks more. -/
def execXtrigPulseEnd (s : State) : Out3 :=
  .next (match s.sec.xuntil with
    | none => s
    | some e =>
      ((s.advanceSamples e).modSec fun x => { x with xuntil := none, xignore := e + 256 }).setXtrig false)

/-- XTRIG_EDGE: a falling edge at pipeline time `tau` gives source 34 at τ + 320, unless the part pulls the line low itself
or released it within 256 ticks.  The converter is 384 ticks ahead of τ. -/
def execXtrigEdge (tau : BitVec 64) (s : State) : Out3 :=
  let n := s.sampleOf tau
  let en := (histAt s.sec.xops (n + 320)).2.getLsbD 0
  let s := s.advanceSamples (n + 384)
  let s := { s with pins := { s.pins with xtrigHeld := true } }
  .next (if !en || s.pins.xtrigLow || decide (n + 384 < s.sec.xignore) || !s.pipeRuns then s
    else
      let s := s.secEvent 34 (n + 320) 0 0
      if s.on F.SEC_EVT_CTRL_XTRIG_EVT then s.raiseLimited 138 1 else s)

/-- `SEC_XTRIG_STATUS` shows the pin as sampled (R287): low while the part pulls it; high while no part does; once another has
pulled it low, a free value, since nothing tells when that part lets go. -/
def State.showXtrig (s : State) : State :=
  if s.pins.xtrigLow then s.setB F.SEC_XTRIG_STATUS_LEVEL false
  else if s.pins.xtrigHeld then
    let p := s.draw 1
    p.2.setF F.SEC_XTRIG_STATUS_LEVEL p.1.toNat
  else s.setB F.SEC_XTRIG_STATUS_LEVEL true

end Sys2Proof.Machine
end

