-- ==== Sys2Proof/Machine/Ring.lean ====
section
/-! DEFINITION. Ring records: how the streams gather the chunks of a capture ring into records (R368, R369). -/

namespace Sys2Proof.Machine
open Sys2Proof

/-- Does an operand take ring `ch`? -/
def ringBit (op : Word) (ch : Fin 2) : Bool := op.getLsbD 0 && op.getLsbD (1 + ch.val)

/-- Does stream `k` take ring data of channel `ch` whose first label is `label` (R366, R367, R369)?  Under `BACKLOG` labels
below the target of the entry in force count too. -/
def State.ringTakes (s : State) (k : Fin 64) (ch : Fin 2) (label : Long) : Bool :=
  let t := s.streams[k]
  ringBit (opAt t.hist label) ch ||
  (match t.hist with
   | (from_, op) :: _ => ringBit op ch && op.getLsbD 13 && decide (label.toNat < from_.toNat)
   | [] => false)

/-- `PARAM` of a ring record (R231, R368). -/
def ringParam (r : ChunkRef) (samples : Nat) : Nat :=
  if r.iq then (match r.logged with
    | some (full, gain, freq) => iqParam r.k full gain freq
    | none => r.k)
  else samples + (match r.seg with
    | some (i, _) => i % 2 ^ 24 * 2 ^ 24
    | none => 0) + r.pass % 65536 * 2 ^ 48

/-- The record of gathered chunks, the first of which is `r` (R368). -/
def ringRecord (ch : Fin 2) (r : ChunkRef) (rs : List ChunkRef) : Record :=
  let all := r :: rs
  let flags := all.foldl (fun f x => f ||| x.flags ||| x.extra) 0
  let samples := all.foldl (fun m x => m + x.count) 0
  let last := all.foldl (fun m x => max m (x.n + (x.count - 1) * 2 ^ x.k)) 0 + (if r.iq then supportTail r.k else 0)
  { mkRecord (if r.iq then 2 else 1) ch.val flags r.label (ringParam r samples) (all.flatMap (·.inline)) (last + 64000) with
    trigTick := match r.seg with
      | some (_, t) => t
      | none => 0
    pieces := all.filterMap fun (x : ChunkRef) =>
      if x.inline.isEmpty then some (.elems ch.val x.iq x.addr x.skip x.count x.gen) else none
    cover := [coverOf ch.val r.n (last + 1)] }

/-- The record that stream `k` gathers from ring `ch` ends. -/
def State.ringFlush (s : State) (k : Fin 64) (ch : Fin 2) : State :=
  match (s.streams[k]).gather.get ch with
  | [] => s
  | r :: rs => (s.modStream k fun t => { t with gather := t.gather.set ch [] }).take (ringRecord ch r rs) k

/-- Does `x` continue the record whose last chunk is `r` (R368)? -/
def ringJoins (r x : ChunkRef) : Bool :=
  !r.last && !hasFlag x.flags Flag.gap && r.iq = x.iq && r.k = x.k && r.seg = x.seg && r.extra = x.extra &&
  r.logged = x.logged && decide (r.label + BitVec.ofNat 64 (r.count * 2 ^ r.k) = x.label) &&
  decide (r.n + r.count * 2 ^ r.k = x.n)

/-- Stream `k` reads a chunk, or a part of one, whose first label is `start`: a stream takes only whole chunks from its target on
(R369). -/
def State.ringAdd (s : State) (k : Fin 64) (ch : Fin 2) (start : Long) (x : ChunkRef) : State :=
  if !s.ringTakes k ch start || !s.ringTakes k ch x.label then s
  else
    let gap := (s.streams[k]).tagGap.get ch
    let x := if gap then { x with flags := x.flags ||| Flag.gap } else x
    let s := s.modStream k fun t => { t with tagGap := t.tagGap.set ch false }
    let s := match ((s.streams[k]).gather.get ch).getLast? with
      | some r => if ringJoins r x then s else s.ringFlush k ch
      | none => s
    let s := s.modStream k fun t => { t with gather := t.gather.set ch (t.gather.get ch ++ [x]) }
    let n := ((s.streams[k]).gather.get ch).length
    let lim : Nat := s.f (F.STR_s_CFG_RECCH k)
    if x.last || decide (lim < n) then s.ringFlush k ch else s

/-- Logged values at sample `n` (R368); none before the oldest one logged. -/
def logAt (l : List (Nat × Bool × Nat × Nat)) (n : Nat) : Option (Bool × Nat × Nat) :=
  (l.find? fun x => decide (x.1 ≤ n)).map (·.2)

/-- First sample after `n` and before `e` at which a logged value changes. -/
def logChange (l : List (Nat × Bool × Nat × Nat)) (n e : Nat) : Option Nat :=
  l.foldl (fun m x => if n < x.1 && x.1 < e then some (match m with
    | some y => min y x.1
    | none => x.1) else m) none

/-- Cut IQ chunk parts where a logged value changes (R368); `fuel` bounds the cuts. -/
def cutParts (l : List (Nat × Bool × Nat × Nat)) (label : Nat → Long) : Nat → ChunkRef → List ChunkRef
  | 0, x => [x]
  | fuel + 1, x =>
    let x := { x with logged := logAt l x.n }
    let step := 2 ^ x.k
    match logChange l x.n (x.n + (x.count - 1) * step + 1) with
    | none => [x]
    | some m =>
      let c := (m - x.n + step - 1) / step
      let n' := x.n + c * step
      { x with count := c, last := true } ::
        cutParts l label fuel { x with skip := x.skip + c, n := n', label := label n', count := x.count - c }

/-- Every stream reads a chunk or part of one. -/
def State.ringFeed (s : State) (ch : Fin 2) (x : ChunkRef) : State :=
  let l := (s.flt.get ch).log
  let parts := if x.iq then cutParts l s.labelOf l.length x else [x]
  (List.finRange 64).foldl (fun (s : State) (k : Fin 64) => parts.foldl (fun s p => s.ringAdd k ch x.label p) s) s

/-- A chunk as the streams read it. -/
def Chunk.ref (ch : Fin 2) (c : Chunk) : ChunkRef :=
  { ch := ch.val, iq := c.iq, k := c.k, addr := c.addr, skip := 0, gen := c.n, n := c.n, label := c.label, count := c.count,
    flags := c.flags, pass := c.pass, seg := none, extra := 0, inline := [], logged := none, last := c.early }

end Sys2Proof.Machine
end

