-- ==== Sys2Proof/Machine/Capture.lean ====
section
/-! DEFINITION. The capture writer, unit 9, and the capture FIFO (R332 to R339): chunks and tags, continuous rings, segment
slots, spill, and the entries of unit 9. -/

namespace Sys2Proof.Machine
open Sys2Proof

/-! ### Capture FIFO (R339) -/

/-- Bytes a unit takes in the FIFO: 1.5 per sample, 4 per IQ output. -/
def CapUnit.size (u : CapUnit) : Nat := if u.iq then 4 * u.elems.length else 3 * u.elems.length / 2

/-- Bytes in the FIFO. -/
def State.fifoBytes (s : State) : Nat := (s.amc.fifo.map CapUnit.size).foldl (· + ·) 0

/-- `AMC_FIFO.LEVEL` and `PEAK` follow the fill. -/
def State.updFifo (s : State) : State :=
  let kib := (s.fifoBytes + 1023) / 1024
  let s := s.setF F.AMC_FIFO_LEVEL kib
  s.setF F.AMC_FIFO_PEAK (max (s.f F.AMC_FIFO_PEAK) kib)

/-- A unit is dropped (R339): the next sample written of its channel follows a loss. -/
def State.fifoDrop (s : State) (u : CapUnit) : State :=
  let s := s.incPair A.AMC_FIFO_LOST_LO u.elems.length
  match u.elems with
  | [] => s
  | e :: _ => s.modCap u.ch fun c => { c with gapAt := e.n :: c.gapAt }

/-- Intake resumes when 1 MiB is free (R339). -/
def State.fifoResume (s : State) : State :=
  if s.on F.AMC_FIFO_DROPPING && decide (s.fifoBytes + 2 ^ 20 ≤ 12 * 2 ^ 20) then s.setB F.AMC_FIFO_DROPPING false else s

/-- CAPTURE_FIFO_INTAKE (R339): the oldest unit on its way enters the 12 MiB FIFO.  From one that does not fit on, every
unit of both channels is dropped until 1 MiB is free. -/
def execCaptureFifoIntake (s : State) : Out3 :=
  .next (match s.amc.incoming with
    | [] => s
    | u :: us =>
      let s := s.modAmc fun a => { a with incoming := us }
      let s := s.fifoResume
      if s.on F.AMC_FIFO_DROPPING then s.fifoDrop u
      else
        let b := s.fifoBytes
        if 12 * 2 ^ 20 < b + u.size then (((s.setB F.AMC_FIFO_DROPPING true).raise 227).fifoDrop u)
        else
          let s := (s.modAmc fun a => { a with fifo := a.fifo ++ [u] }).updFifo
          if b ≤ 6 * 2 ^ 20 && decide (6 * 2 ^ 20 < b + u.size) then s.raise 226 else s)

/-- FIFO_INTAKE_RESUME (R339): 1 MiB is free. -/
def execFifoIntakeResume (s : State) : Out3 :=
  .next s.fifoResume

/-- A write of `AMC_FIFO.CLEAR` (R349). -/
def execFifoPeakClear (s : State) : Out3 := .next (s.setF F.AMC_FIFO_PEAK (s.f F.AMC_FIFO_LEVEL))

/-! ### Rings (R333 to R335) -/

/-- Base and size of a ring operand. -/
def ringBase (v : BitVec 32) : Nat := bitsOf v.toNat 0 15 * 2 ^ 26
def ringSize (v : BitVec 32) : Nat := (bitsOf v.toNat 15 15 + 1) * 2 ^ 26

/-- Chunk size G (R334). -/
def chunkBytes (iq : Bool) : Nat := if iq then 4096 else 6144

/-- Elements that fit in `b` bytes of a chunk. -/
def chunkRoom (iq : Bool) (b : Nat) : Nat := if iq then b / 4 else b / 12 * 8

/-- Chunks of a slot (R335, R338). -/
def slotChunks (iq : Bool) (bs : Nat) : Nat := (bs + chunkBytes iq - 1) / chunkBytes iq

/-! ### Writing a chunk (R334) -/

/-- 12-bit codes packed 8 to 12 bytes, lowest first; a short group is completed with zero bits (R365). -/
def packRaw (codes : List (BitVec 32)) : List Byte :=
  bytesOf ((codes.length + 7) / 8 * 12) ((codes.zipIdx).foldl (fun v x => v + x.1.toNat % 4096 * 2 ^ (12 * x.2)) 0)

/-- Does a chunk whose place is written anew hold labels that an accepted segment takes? -/
def State.needed (s : State) (ch : Fin 2) (h : Chunk) : Bool :=
  h.seg && decide (h.gone < h.count) &&
  s.sec.segs.any fun g => decide (g.slot = h.slot) && decide (g.fill ≤ h.n) && decide (g.first ≤ h.last) &&
    decide ((s.cap.get ch).cutEnd < g.end_)

/-- Bytes of which the first `bits` bits are new and the others as in `old`. -/
def mergeBits (bits : Nat) (old new : List Byte) : List Byte :=
  let whole := bits / 8
  if bits % 8 = 0 then new.take whole
  else new.take whole ++
    [((new.drop whole).headD 0 &&& BitVec.ofNat 8 (2 ^ (bits % 8) - 1)) |||
     ((old.drop whole).headD 0 &&& ~~~(BitVec.ofNat 8 (2 ^ (bits % 8) - 1)))]

/-- Write every whole transaction of the open chunk; with `all`, the last one too, filled with zeros beyond the last sample, but
not over labels that an accepted segment takes (R280, R334). -/
def State.capDrain (s : State) (ch : Fin 2) (k : Chunk) (all : Bool) : State :=
  let c := s.cap.get ch
  let at_ := k.addr + c.put
  let n := if all then c.bytes.length else c.bytes.length / 256 * 256
  let bs := c.bytes.take n
  let keep := c.held.any fun h => decide (h.addr = k.addr) && s.needed ch h
  let out := if !all then bs
    else if keep then mergeBits ((if k.iq then 32 else 12) * k.count - 8 * c.put) (Mem.readN s.amem at_ n) bs
    else bs ++ List.replicate ((256 - n % 256) % 256) 0
  let s := { s with amem := Mem.writeN s.amem at_ out }
  s.modCap ch fun c =>
    { c with bytes := c.bytes.drop n, put := c.put + n,
             held := if all && !keep then c.held.filter fun h => h.addr != k.addr else c.held }

/-- Add an element to the bytes of the open chunk. -/
def CapCh.pushBytes (c : CapCh) (iq : Bool) (v : BitVec 32) : CapCh :=
  if iq then { c with bytes := c.bytes ++ bytesOf 4 v.toNat }
  else if c.codes.length = 7 then { c with bytes := c.bytes ++ packRaw (c.codes ++ [v]), codes := [] }
  else { c with codes := c.codes ++ [v] }

/-- The 16-byte tag of a chunk (R334). -/
def Chunk.tagBytes (k : Chunk) : List Byte :=
  bytesOf 8 k.label.toNat ++ bytesOf 3 k.flags.toNat ++ bytesOf 1 (k.k + bit k.iq * 32 + bit k.seg * 64) ++
  bytesOf 2 k.count ++ bytesOf 2 k.pass

/-- Address of tag transaction `b` of a ring (R333, R334). -/
def tagAddr (ring : BitVec 32) (b : Nat) : Nat := ringBase ring + ringSize ring + 256 * b

/-- Write the tag transaction in hand back (R334). -/
def State.capTags (s : State) (ch : Fin 2) (ring : BitVec 32) : State :=
  match (s.cap.get ch).batch with
  | none => s
  | some (b, bs) =>
    ({ s with amem := Mem.writeN s.amem (tagAddr ring b) bs }).modCap ch fun c => { c with batch := none }

/-- The tag transaction of tag `t` is in hand: another one goes back first, and it is read (R334). -/
def State.capBatch (s : State) (ch : Fin 2) (ring : BitVec 32) (t : Nat) : State :=
  match (s.cap.get ch).batch with
  | some (b, _) =>
    if b = t / 16 then s
    else
      let s := s.capTags ch ring
      s.modCap ch fun c => { c with batch := some (t / 16, Mem.readN s.amem (tagAddr ring (t / 16)) 256) }
  | none => s.modCap ch fun c => { c with batch := some (t / 16, Mem.readN s.amem (tagAddr ring (t / 16)) 256) }

/-- Put the tag of a chunk into the transaction in hand; one with all its 16 tags goes back. -/
def State.capTag (s : State) (ch : Fin 2) (ring : BitVec 32) (k : Chunk) : State :=
  let put (bs : List Byte) : List Byte := bs.take (16 * (k.tag % 16)) ++ k.tagBytes ++ bs.drop (16 * (k.tag % 16) + 16)
  let s := s.modCap ch fun c => { c with batch := c.batch.map fun b => (b.1, put b.2) }
  if k.tag % 16 = 15 then s.capTags ch ring else s

/-- Show the oldest sample still held. -/
def State.capOldest (s : State) (ch : Fin 2) : State :=
  let c := s.cap.get ch
  match (c.held ++ c.chunk.toList).find? fun k => decide (c.epoch ≤ k.n) with
  | some k => s.setPair (A.AMC_CAP_n_OLDEST_LO ch) (k.label + BitVec.ofNat 64 (k.gone * 2 ^ k.k)).toNat
  | none => s

/-- The place after a chunk in its ring: in continuous mode the end of the ring is a wrap, at which `ONCE` stops the
writer (R335, R338). -/
def State.capStep (s : State) (ch : Fin 2) (cfg : CapCfg) (k : Chunk) : State :=
  if k.seg then
    let n := match cfg.seg with
      | some x => slotChunks k.iq x.bs
      | none => 1
    s.modCap ch fun c => { c with next := (k.pos + 1) % n }
  else if k.pos + 1 < ringSize cfg.ring / chunkBytes k.iq then s.modCap ch fun c => { c with next := k.pos + 1 }
  else if cfg.cap.getLsbD 2 then
    (((s.modCap ch fun c => { c with full := true }).setB (F.AMC_CAP_n_STATUS_FULL ch) true).raise (228 + ch.val)).capTags ch cfg.ring
  else
    let s := s.modCap ch fun c => { c with next := 0, pass := c.pass + 1 }
    s.incWrap (F.AMC_CAP_n_PASS_COUNT ch)

/-- The settings of the capture being written, and the newest. -/
def CapCh.cur (c : CapCh) : CapCfg := c.cfgAt c.epoch
def CapCh.newest (c : CapCh) : CapCfg := c.cfgs.headD ⟨0, 0, 0, none⟩

/-- The open chunk closes (R334, R336): its last transaction and its tag; in continuous mode the streams may read it. -/
def State.capClose (s : State) (ch : Fin 2) (early : Bool) : State :=
  match (s.cap.get ch).chunk with
  | none => s
  | some k =>
    let cfg := (s.cap.get ch).cur
    let k := { k with early := early && decide (k.count < k.room) }
    let s := s.modCap ch fun c => { c with bytes := c.bytes ++ packRaw c.codes, codes := [] }
    let s := s.capDrain ch k true
    let s := s.incSat (F.AMC_CAP_n_PADDED_COUNT ch) (k.room - k.count)
    let s := if hasFlag k.flags Flag.gap then s.setB (F.AMC_CAP_n_STATUS_GAP_SEEN ch) true else s
    let s := (s.modCap ch fun c => { c with chunk := none, put := 0, held := c.held ++ [k] }).capTag ch cfg.ring k
    let s := (s.capStep ch cfg k).capOldest ch
    if k.seg then s else s.ringFeed ch (k.ref ch)

/-! ### Segments (R338, R279, R280) -/

/-- Part of a held chunk that a segment takes: labels from `first` up to, not including, `end_`. -/
def Chunk.part (ch : Fin 2) (label : Nat → Long) (k : Chunk) (g : Segment) (extra : BitVec 24) : Option ChunkRef :=
  let step := 2 ^ k.k
  let skip := max k.gone ((g.first - k.n + step - 1) / step)
  let upto := min k.count ((g.end_ - k.n + step - 1) / step)
  if upto ≤ skip then none
  else some { k.ref ch with skip := skip, n := k.n + skip * step, label := label (k.n + skip * step), count := upto - skip,
                            seg := some (g.index, g.trig), extra := extra, last := k.early }

/-- Spill data as the streams take it. -/
def State.spillPart (s : State) (ch : Fin 2) (iq : Bool) (k : Nat) (g : Segment) (es : List CapElem) : ChunkRef :=
  let first := (es.map (·.n)).headD 0
  { ch := ch.val, iq := iq, k := k, addr := 0, skip := 0, gen := 0, n := first, label := s.labelOf first, count := es.length,
    flags := es.foldl (fun f e => f ||| e.flags ||| s.lateFlag 9 (s.labelOf e.n)) 0, pass := 0, seg := some (g.index, g.trig), extra := Flag.spill,
    inline := if iq then es.flatMap fun e => bytesOf 4 e.v.toNat else packRaw (es.map (·.v)), logged := none, last := true }

/-- The spill data gathered goes to the streams (R280). -/
def State.capSpillOut (s : State) (ch : Fin 2) (iq : Bool) (k : Nat) (g : Segment) : State :=
  let es := (s.cap.get ch).spill
  if es.isEmpty then s else (s.modCap ch fun c => { c with spill := [] }).ringFeed ch (s.spillPart ch iq k g es)

/-- Forget segments that are complete and that every channel named has handed on. -/
def State.dropSegs (s : State) : State :=
  s.modSec fun x =>
    { x with segs := x.segs.filter fun g =>
        !(g.done && (!s.segCh 0 || decide (g.end_ ≤ s.cap.a.cutEnd)) && (!s.segCh 1 || decide (g.end_ ≤ s.cap.b.cutEnd))) }

/-- The writer has passed the end of segment `g`: the stream engine reads it from its first label (R368).  Labels that the
slot no longer holds make it carry `PRELOST` (R338). -/
def State.capCut (s : State) (ch : Fin 2) (iq : Bool) (k : Nat) (g : Segment) : State :=
  let s := s.capClose ch true
  let ks := (s.cap.get ch).held.filter fun c => c.seg && c.slot = g.slot && decide (g.fill ≤ c.n) && decide (c.n < g.end_)
  let lost := match ks with
    | c :: _ => decide (g.first < c.n + c.gone * 2 ^ c.k)
    | [] => true
  let extra := flagIf (g.prelost || lost) Flag.prelost
  let parts := ks.filterMap fun (c : Chunk) => c.part ch s.labelOf g extra
  let s := parts.foldl (fun s p => s.ringFeed ch p) s
  let s := s.capSpillOut ch iq k g
  let s := (List.finRange 64).foldl (fun s i => s.ringFlush i ch) s
  let s := if g.spilled then s.setB F.SEC_STATUS_SPILLING false else s
  (s.modCap ch fun c => { c with cutEnd := g.end_ }).dropSegs

/-- Segments that end at or before sample `n` and that the channel has not handed on. -/
def State.endedSegs (s : State) (ch : Fin 2) (n : Nat) : List Segment :=
  s.sec.segs.filter fun g => decide (g.end_ ≤ n) && decide ((s.cap.get ch).cutEnd < g.end_)

/-- The segment whose slot takes sample `n`, if one is accepted. -/
def State.segAt (s : State) (n : Nat) : Option Segment := s.sec.segs.find? fun g => decide (g.fill ≤ n) && decide (n < g.end_)

/-- The slot that takes sample `n`, and its segment index (R279). -/
def State.slotAt (s : State) (n : Nat) : Option (Nat × Nat) :=
  match s.segAt n with
  | some g => some (g.slot, g.index)
  | none =>
    match s.sec.fill with
    | some f => if f ≤ n then some (s.sec.slot, s.f F.SEC_SEG_INDEX_INDEX) else none
    | none => none

/-! ### Placing samples -/

/-- Start a chunk with element `e` at its place.  Chunks that lie there are overwritten; in segment mode the chunk of the same
place is overwritten element by element (R338). -/
def State.capOpen (s : State) (ch : Fin 2) (iq : Bool) (k : Nat) (e : CapElem) (pos slot tag addr bytes pass : Nat)
    (seg : Bool) (ring : BitVec 32) : State :=
  let c := s.cap.get ch
  let g := chunkBytes iq
  let ck : Chunk :=
    { pos := pos, slot := slot, tag := tag, addr := addr, room := chunkRoom iq bytes, pass := pass % 65536, seg := seg, iq := iq,
      k := k, n := e.n, label := s.labelOf e.n, count := 0, flags := flagIf c.gap Flag.gap, last := e.n, early := false,
      gone := 0 }
  let s := s.modCap ch fun c =>
    { c with chunk := some ck, gap := false, put := 0, bytes := [], codes := [],
             held := c.held.filter fun h =>
               (seg && h.seg && decide (h.addr = addr) && h.iq = iq) ||
               decide (h.addr + chunkBytes h.iq ≤ addr) || decide (addr + g ≤ h.addr) }
  ((s.capBatch ch ring tag).setF (F.AMC_CAP_n_CHUNK_INDEX ch) tag).capOldest ch

/-- Would element `i` of a chunk at `addr` overwrite a label of the accepted segment `g`: are the positions of its slot full
(R280, R338)? -/
def State.wouldLose (s : State) (ch : Fin 2) (addr i : Nat) (g : Segment) : Bool :=
  (s.cap.get ch).held.any fun h =>
    decide (h.addr = addr) && h.seg && decide (g.fill ≤ h.n) && decide (h.gone ≤ i) && decide (i < h.count) &&
    decide (g.first ≤ h.n + i * 2 ^ h.k)

/-- Has the slot of the accepted segment `g` no place for element `e` (R280)? -/
def State.spills (s : State) (ch : Fin 2) (sg : SegCfg) (addr i : Nat) (g : Segment) (e : CapElem) : Bool :=
  sg.spill && (s.wouldLose ch addr i g || decide (g.first + sg.cap ≤ e.n))

/-- A sample that its slot has no place for spills (R280). -/
def State.capSpill (s : State) (ch : Fin 2) (iq : Bool) (k : Nat) (g : Segment) (e : CapElem) : State :=
  let s := if g.spilled then s
    else
      (s.modSec fun x => { x with segs := x.segs.map fun (y : Segment) =>
        if y.index = g.index && y.trig = g.trig then { y with spilled := true } else y }).raise 132
  let s := s.setB F.SEC_STATUS_SPILLING true
  let s := match (s.cap.get ch).spill.getLast? with
    | some p => if e.brk || p.n + 2 ^ k != e.n then s.capSpillOut ch iq k g else s
    | none => s
  let s := s.modCap ch fun c => { c with spill := c.spill ++ [e] }
  if (s.cap.get ch).spill.length = chunkRoom iq (chunkBytes iq) then s.capSpillOut ch iq k g else s

/-- Put an element into the open chunk; a full chunk closes. -/
def State.capPut (s : State) (ch : Fin 2) (e : CapElem) : State :=
  match (s.cap.get ch).chunk with
  | none => s
  | some k =>
    let k := { k with count := k.count + 1, flags := k.flags ||| e.flags ||| s.lateFlag 9 (s.labelOf e.n), last := e.n }
    let same (h : Chunk) : Bool := k.seg && h.seg && decide (h.addr = k.addr)
    let s := s.modCap ch fun c =>
      ({ c with chunk := some k,
                held := (c.held.map fun h => if same h then { h with gone := max h.gone k.count } else h).filter fun h =>
                  !(same h && decide (h.count ≤ h.gone)) }).pushBytes k.iq e.v
    let s := (s.capDrain ch k false).setPair (A.AMC_CAP_n_NEWEST_LO ch) (s.labelOf e.n).toNat
    if k.count = k.room then s.capClose ch false else s

/-- Start a chunk in segment mode, or spill. -/
def State.capOpenSeg (s : State) (ch : Fin 2) (cfg : CapCfg) (sg : SegCfg) (iq : Bool) (k : Nat) (e : CapElem) (slot idx : Nat) :
    State :=
  let j := (s.cap.get ch).next
  let g := chunkBytes iq
  let addr := ringBase cfg.ring + slot * sg.bs + j * g
  let bytes := min ((j + 1) * g) sg.bs - j * g
  let open_ := (s.capOpen ch iq k e j slot (slot * slotChunks iq sg.bs + j) addr bytes idx true cfg.ring).capPut ch e
  match s.segAt e.n with
  | some x =>
    if s.spills ch sg addr 0 x e then s.capSpill ch iq k x e else open_
  | none => open_

/-- The writer comes to other settings (R336, R337): the chunk closes, segments end, the tags are written, and the new
capture starts at chunk 0 with pass 0. -/
def State.capEpoch (s : State) (ch : Fin 2) (u : CapUnit) (cfg : CapCfg) : State :=
  let s := s.capClose ch true
  let s := (s.endedSegs ch cfg.n).foldl (fun s g => s.capCut ch u.iq u.k g) s
  let s := s.capTags ch ((s.cap.get ch).cur).ring
  let s := s.modCap ch fun c => { c with epoch := cfg.n, next := 0, pass := 0, slot := 0, full := false }
  (s.setB (F.AMC_CAP_n_STATUS_SEGMENT ch) cfg.seg.isSome).setF (F.AMC_CAP_n_PASS_COUNT ch) 0

/-- Close the chunk before an element that cannot continue it (R336). -/
def State.capBreak (s : State) (ch : Fin 2) (u : CapUnit) (e : CapElem) : State :=
  let c := s.cap.get ch
  let gap := c.gapAt.any fun m => decide (m ≤ e.n)
  let s := if gap then
      (s.capClose ch true).modCap ch fun c => { c with gap := true, gapAt := c.gapAt.filter fun m => decide (e.n < m) }
    else s
  let at_ (k : Chunk) : Bool := (s.cap.get ch).breaks.any fun b => decide (k.last < b) && decide (b ≤ e.n)
  let s := match (s.cap.get ch).chunk with
    | some k =>
      if e.brk || k.iq != u.iq || k.k != u.k || k.last + 2 ^ u.k != e.n || at_ k then s.capClose ch true else s
    | none => s
  s.modCap ch fun c => { c with breaks := c.breaks.filter fun b => decide (e.n < b) }

/-- The writer takes one element (R334 to R338). -/
def State.capElem (s : State) (ch : Fin 2) (u : CapUnit) (e : CapElem) : State :=
  let cfg := (s.cap.get ch).cfgAt e.n
  let s := if cfg.n = (s.cap.get ch).epoch then s else s.capEpoch ch u cfg
  let s := s.capBreak ch u e
  match cfg.seg with
  | some sg =>
    let s := (s.endedSegs ch e.n).foldl (fun s g => s.capCut ch u.iq u.k g) s
    (match s.slotAt e.n with
     | none => s
     | some (slot, idx) =>
       let s := if slot = (s.cap.get ch).slot then s
         else (s.capClose ch true).modCap ch fun c => { c with slot := slot, next := 0 }
       let s := s.setF (F.AMC_CAP_n_PASS_COUNT ch) idx
       match (s.cap.get ch).chunk with
       | some k =>
         (match s.segAt e.n with
          | some x =>
            if s.spills ch sg k.addr k.count x e then (s.capClose ch true).capSpill ch u.iq u.k x e else s.capPut ch e
          | none => s.capPut ch e)
       | none => s.capOpenSeg ch cfg sg u.iq u.k e slot idx)
  | none =>
    if (s.cap.get ch).full then s
    else if (s.cap.get ch).chunk.isSome then s.capPut ch e
    else
      let j := (s.cap.get ch).next
      let g := chunkBytes u.iq
      (s.capOpen ch u.iq u.k e j 0 j (ringBase cfg.ring + j * g) g (s.cap.get ch).pass false cfg.ring).capPut ch e

/-- May the writer take a unit?  Acquisition memory is ready.  In segment mode, and where an `ARM` or a `DISARM` waits for one of
its labels, every label of the unit has been decided (R279, R336). -/
def State.capReady (s : State) (u : CapUnit) : Bool :=
  let last := u.elems.foldl (fun m e => max m e.n) 0
  let waits := (s.tl.queues[(6 : Fin 15)]).any fun e =>
    (e.sel = 0x30 || e.sel = 0x31) && !e.imm && decide (s.sampleOf e.target ≤ last)
  s.f F.AMC_STATUS_STATE = 2 && !waits &&
  (((s.cap.get u.ch).cfgAt last).seg.isNone ||
   (s.secReached (last + 1) && decide (last + s.dSecAt last + 384 ≤ s.time.samples)))

/-- Has the capture of channel `ch` ended by an entry with `MODE` off, with all it captured written?  Nothing of the channel
is on its way, and the tower, and the filter chain where IQ was captured, are past the entry. -/
def State.capOver (s : State) (ch : Fin 2) : Bool :=
  let c := s.cap.get ch
  match c.cfgs with
  | [] => false
  | x :: _ =>
    x.mode = 0 && x.n != c.epoch && c.group.isEmpty && decide (x.n ≤ s.tth.rx) &&
    !((s.amc.incoming ++ s.amc.fifo).any fun u => u.ch = ch) &&
    (!(c.cfgs.any fun y => y.mode = 2 && decide (c.epoch ≤ y.n)) ||
     (match (s.flt.get ch).grids with
      | g :: _ => decide (x.n ≤ g.next)
      | [] => true))

/-- The writer ends such a capture: its chunk closes and its tags are written back (R334, R336). -/
def State.capEnd (s : State) (ch : Fin 2) : State :=
  if s.capOver ch then
    let x := (s.cap.get ch).newest
    s.capEpoch ch { ch := ch, iq := x.mode = 2, k := 0, elems := [] } x
  else s

/-- CAPTURE_WRITE (R334): the writer takes the oldest unit of the FIFO; one that has written all of a capture that was
switched off ends it. -/
def execCaptureWrite (s : State) : Out3 :=
  .next (match s.amc.fifo with
    | [] => (s.capEnd 0).capEnd 1
    | u :: us =>
      if s.capReady u then
        ((u.elems.foldl (fun s e => s.capElem u.ch u e) (s.modAmc fun a => { a with fifo := us }).updFifo).capEnd 0).capEnd 1
      else s)

/-! ### Entries of unit 9 (R332, R333, R337) -/

/-- Reserved write rate of a `CAP` operand in 100 MB/s (R332). -/
def capRate (v : BitVec 32) : Nat :=
  match bitsOf v.toNat 0 2 with
  | 1 => 525
  | 2 => (1400 + 2 ^ bitsOf v.toNat 3 5 - 1) / 2 ^ bitsOf v.toNat 3 5
  | _ => 0

/-- Bytes of a ring region, tags included (R333). -/
def ringRegion (v : BitVec 32) : Nat := ringSize v + ringSize v / 16

/-- Do two ring regions overlap? -/
def ringsOverlap (a b : BitVec 32) : Bool :=
  decide (ringBase a < ringBase b + ringRegion b) && decide (ringBase b < ringBase a + ringRegion a)

/-- Record a refusal of unit 9 (R337). -/
def capRefuse (e : Entry) (reason : Nat) (s : State) : State :=
  ((s.setF F.AMC_LAST_REFUSE_SEL e.sel).setF F.AMC_LAST_REFUSE_REASON reason).raise 230

/-- Operands of channel `ch` in force. -/
def State.capOp (s : State) (ch : Fin 2) : BitVec 32 := s.reg (A.AMC_CAP_A + 4 * ch.val)
def State.ringOp (s : State) (ch : Fin 2) : BitVec 32 := s.reg (A.AMC_RING_A + 4 * ch.val)

/-- New settings of a channel from sample `n` on. -/
def State.capNew (s : State) (ch : Fin 2) (n : Nat) : State :=
  let x : CapCfg := { n := n, cap := s.capOp ch, ring := s.ringOp ch, seg := none }
  let s := s.modCap ch fun c => { c with cfgs := x :: c.cfgs.filter fun y => decide (y.n < n) }
  (s.setB (F.AMC_CAP_n_STATUS_ACTIVE ch) (x.mode != 0)).capCloseAt n

/-- Is the Sector unit armed at sample `n` with channel `ch` named (R337)?  Its entries up to there may wait for their labels to be
decided. -/
def State.armedAt (s : State) (ch : Fin 2) (n : Nat) : Bool :=
  let r := ((s.tl.queues[(6 : Fin 15)]).filter fun e => !e.imm && decide (s.sampleOf e.target ≤ n)).foldl
    (fun (x : Bool × Bool) e =>
      if e.sel = 0x30 then (true, x.2) else if e.sel = 0x31 then (false, x.2)
      else if e.sel = 0x28 && !x.1 then (x.1, e.opnd.getLsbD (24 + ch.val)) else x) (s.on F.SEC_STATUS_ARMED, s.segCh ch)
  r.1 && r.2

/-- Effect of a `CAP` or `RING` entry. -/
def capEff (at_ : Long) (e : Entry) (_ : List Byte) (s : State) : Except Nat State :=
  let ch : Fin 2 := if e.sel % 2 = 0 then 0 else 1
  let other : Fin 2 := if e.sel % 2 = 0 then 1 else 0
  let ring := decide (2 ≤ e.sel)
  let v := e.opnd
  let mode := bitsOf v.toNat 0 2
  let mink := bitsOf v.toNat 3 5
  let s1 := s.setReg ((if ring then A.AMC_RING_A else A.AMC_CAP_A) + 4 * ch.val) v
  let both := s1.capMode 0 != 0 && s1.capMode 1 != 0
  let used := s.f F.AMC_ADMIT_WR_USED - capRate (s.capOp ch) + (if ring then capRate (s.capOp ch) else capRate v)
  checked [
      (if ring then decide (s.pair A.AMC_SIZE_LO - 2 ^ 26 < ringBase v + ringRegion v)
       else mode = 3 || decide (20 < mink) || (mode = 1 && mink != 0), 1),
      (decide ((if ring then 2 ^ 30 else 2 ^ 8) ≤ v.toNat), 2),
      (s.armedAt ch (s.sampleOf at_), 3),
      (both && ringsOverlap (s1.ringOp ch) (s1.ringOp other), 4),
      (s.f F.AMC_STATUS_STATE != 2, 5),
      (!ring && decide (s.f F.AMC_ADMIT_WR_LIMIT < used), 6)]
    ((s1.setF F.AMC_ADMIT_WR_USED used).capNew ch (s.sampleOf at_))

/-- CAP (R332). -/
def execCap (n : Fin 2) (label : BitVec 64) (s : State) : Out3 :=
  .next (s.applyNext 9 (fun x => x = n.val) label (capEff label) capRefuse)

/-- RING (R333). -/
def execRing (n : Fin 2) (label : BitVec 64) (s : State) : Out3 :=
  .next (s.applyNext 9 (fun x => x = 2 + n.val) label (capEff label) capRefuse)

end Sys2Proof.Machine
end

