-- ==== Sys2Proof/Machine/Amc.lean ====
section
/-! DEFINITION. The acquisition memory controller (R326 to R331, R340 to R349): population, training, errors, self-refresh
and BAR5. -/

namespace Sys2Proof.Machine
open Sys2Proof

/-- `AMC_STATUS.STATE`: 0 absent, 1 training, 2 ready, 3 self-refresh. -/
def State.amcState (s : State) : Nat := s.f F.AMC_STATUS_STATE

/-- Enter a state of the controller. -/
def State.setAmc (s : State) (st : Nat) (run : AmcRun) : State :=
  (s.setF F.AMC_STATUS_STATE st).modAmc fun a => { a with run := run }

/-- Populated channels. -/
def State.amcChannels (s : State) : List Nat := (List.range 8).filter fun c => (s.f F.AMC_STATUS_CH_MASK).testBit c

/-! ### The address map (R327) -/

/-- Where address `a` lies with 8 or 4 populated channels (R327): DDR5 channel, subchannel, DIMM-local address. -/
def dramPlace (channels a : Nat) : Nat × Nat × Nat :=
  if channels = 8 then (bitsOf a 9 3, bitsOf a 8 1, a / 2 ^ 12 * 2 ^ 8 + a % 2 ^ 8)
  else (2 * bitsOf a 9 2, bitsOf a 8 1, a / 2 ^ 11 * 2 ^ 8 + a % 2 ^ 8)

/-- Do the `len` bytes from `a` on lie partly in the 256-byte transaction at address `t` (R329)? -/
def inTransaction (t a len : Nat) : Bool := decide (t / 256 * 256 < a + len) && decide (a < t / 256 * 256 + 256)

/-! ### BAR5 (R347) -/

/-- Carry out an access: the address seen through BAR5 wraps modulo M. -/
def State.bar5Do (s : State) (b : Bar5) : State :=
  let m := s.pair A.AMC_SIZE_LO
  match b.data with
  | some d => { s with amem := Mem.writeN (Mem.writeN s.amem b.addr (d.take (m - b.addr))) 0 (d.drop (m - b.addr)) }
  | none => s.emit (.bytes (Mem.readN s.amem b.addr (min b.len (m - b.addr)) ++ Mem.readN s.amem 0 (b.len - (m - b.addr))))

/-- Accesses that waited for acquisition memory. -/
def State.bar5Flush (s : State) : State :=
  s.amc.waiting.foldl (fun s b => s.bar5Do b) (s.modAmc fun a => { a with waiting := [] })

/-! ### Training (R341, R342) -/

/-- The memory synthesiser starts: a spread setting that waits takes effect (R197). -/
def State.memSpread (s : State) : State :=
  let v := s.reg A.CLK_SPREAD_MEM &&& 0xFF#32
  ({ s with clk := { s.clk with spreadMem := v } }).setB F.CLK_SPREAD_MEM_PENDING false

/-- The memory synthesiser changes to the frequency of `rate`, if that is another (R197, R342). -/
def State.memFreq (s : State) (rate : Nat) : State := if rate = s.f F.AMC_STATUS_RATE then s else s.memSpread

/-- All channels enter self-refresh. -/
def State.srEnter (s : State) : State := ((s.setAmc 3 .sleep).incSat F.AMC_SR_COUNT_COUNT).raise 220

/-- Temperatures read last, by channel, in °C. -/
def State.amcTemps (s : State) : List Int :=
  (List.range 8).map fun c => (BitVec.ofNat 8 (s.f (F.AMC_c_STATUS_TEMP c))).toInt

/-- A full retrain starts (R341). -/
def State.retrainStart (s : State) (run : AmcRun) : State :=
  let s := (s.setAmc 1 run).modAmc fun a => { a with wantFrom := none }
  (s.incSat F.AMC_TRAIN_RETRAINS).raise 219

/-- Training has ended: traffic goes on.  The temperatures last read are those of this training; before the first reading there
are none, and that reading stands for them. -/
def State.trainingEnd (s : State) : State :=
  let t := s.amcTemps
  ((s.setAmc 2 .none_).modAmc fun a => { a with temps := if a.temps.isEmpty then [] else t }).bar5Flush

/-- Admission limit in 100 MB/s: guaranteed slots times the populated channels (R331). -/
def amcLimit (rate channels : Nat) : Nat := (if rate = 2 then 150 else if rate = 1 then 130 else 110) * channels

/-- The error code of a population that R326 rejects; none for one it takes. -/
def popFault (rate : Nat) (ds : List Dimm) : Option Nat :=
  let chs := ds.map fun d => d.ch.val
  let four := [0, 2, 4, 6].all chs.contains && chs.length = 4
  let eight := (List.range 8).all chs.contains && chs.length = 8
  let same := match ds with
    | [] => true
    | d :: r => r.all fun x => x.gib = d.gib && x.kind = d.kind
  if !(four || eight) then some 1
  else if !same then some 2
  else if ds.any fun d => decide (d.rate < rate) then some 3
  else if ds.any fun d => !d.spd then some 4
  else if ds.any fun d => decide (d.gib < 16) || decide (256 < d.gib) then some 5
  else none

/-- Show the DIMMs found; one whose SPD is unreadable shows no capacity. -/
def State.showDimms (s : State) (ds : List Dimm) : State :=
  let s := (List.finRange 8).foldl (fun s c => (s.setB (F.AMC_c_STATUS_PRESENT c) false).setF (F.AMC_c_STATUS_SIZE c) 0) s
  ds.foldl (fun s d => (s.setB (F.AMC_c_STATUS_PRESENT d.ch) true).setF (F.AMC_c_STATUS_SIZE d.ch) (if d.spd then d.gib else 0)) s

/-- Acquisition memory is populated (R326 to R328): its size and the Glow buffers. -/
def State.populate (s : State) (rate : Nat) (ds : List Dimm) : State :=
  let m := (ds.map (·.gib)).foldl (· + ·) 0 * 2 ^ 30
  let mask := ds.foldl (fun v d => v + 2 ^ d.ch.val) 0
  let s := ((s.showDimms ds).setF F.AMC_STATUS_CH_MASK mask).setPair A.AMC_SIZE_LO m
  let s := (s.setB F.AMC_STATUS_POP_ERR false).setF F.AMC_STATUS_POP_CODE 0
  let s := (s.setPair (A.GLW_n_BUF0_LO 0) (m - 2 ^ 26)).setPair (A.GLW_n_BUF1_LO 0) (m - 60 * 2 ^ 20)
  let s := (s.setPair (A.GLW_n_BUF0_LO 1) (m - 56 * 2 ^ 20)).setPair (A.GLW_n_BUF1_LO 1) (m - 52 * 2 ^ 20)
  ((s.memFreq rate).setF F.AMC_STATUS_RATE rate).setAmc 1 .initial

/-- Refusals of a rate change (R342). -/
def State.rateRefused (s : State) (rate : Nat) (ds : List Dimm) : Bool :=
  s.capMode 0 != 0 || s.capMode 1 != 0 || s.f F.AMC_ADMIT_RD_USED != 0 || ds.any fun d => decide (d.rate < rate)

/-- `AMC_CFG.APPLY` (R326, R341, R342).  For a new rate the memory enters self-refresh before it is trained. -/
def State.amcApply (s : State) (ds : List Dimm) : State :=
  let rate := s.f F.AMC_CFG_RATE
  if s.amcState = 0 then
    if ds.isEmpty then ((s.showDimms []).setB F.AMC_STATUS_POP_ERR false).setF F.AMC_STATUS_POP_CODE 0
    else match popFault rate ds with
      | some c => (((s.showDimms ds).setB F.AMC_STATUS_POP_ERR true).setF F.AMC_STATUS_POP_CODE c).raise 217
      | none => s.populate rate ds
  else if rate != s.f F.AMC_STATUS_RATE && s.rateRefused rate ds then s.setB F.AMC_STATUS_RATE_ERR true
  else if s.amcState = 1 then
    let s := (s.incSat F.AMC_TRAIN_ABANDONED).raise 218
    ((s.memFreq rate).setAmc 1 .initial).modAmc fun a => { a with newRate := some rate }
  else if rate != s.f F.AMC_STATUS_RATE then
    (((if s.amcState = 2 then s.srEnter else s).memFreq rate).setAmc 1 .initial).modAmc fun a => { a with newRate := some rate }
  else s

/-- A write of `AMC_CFG` (R349): `RATE` 11b is discarded. -/
def State.amcCfg (s : State) (data : BitVec 32) (ds : List Dimm) : State :=
  let s := if bitsOf data.toNat 0 2 = 3 then s else s.setF F.AMC_CFG_RATE (bitsOf data.toNat 0 2)
  let s := s.setB F.AMC_CFG_SR_EN (data.getLsbD 3)
  if data.getLsbD 2 then s.amcApply ds else s

/-- AMC_APPLY (R341). -/
def execAmcApply (data : BitVec 32) (dimms : List Dimm) (s : State) : Out3 := .next (s.amcCfg data dimms)

/-- INITIAL_TRAINING_DONE (R341, R342): the rate comes into force with its admission limits. -/
def execInitialTrainingDone (s : State) : Out3 :=
  .next (match s.amc.run with
    | .initial =>
      if !s.on F.CLK_STATUS_MEM_LOCKED then s else
      let changed := s.amc.newRate.any fun r => r != s.f F.AMC_STATUS_RATE
      let rate := s.amc.newRate.getD (s.f F.AMC_STATUS_RATE)
      let s := (s.setF F.AMC_STATUS_RATE rate).modAmc fun a => { a with newRate := none }
      let lim := amcLimit rate s.amcChannels.length
      let s := (s.setF F.AMC_ADMIT_WR_LIMIT lim).setF F.AMC_ADMIT_RD_LIMIT lim
      let s := s.amcChannels.foldl (fun s c => s.setB (F.AMC_c_STATUS_TRAINED c) true) s
      let s := s.trainingEnd.raise 216
      if changed then s.raise 231 else s
    | _ => s)

/-- DIMM_TEMP_CHECK (R341): a drift of more than 10 °C from the last training asks for a full retrain. -/
def execDimmTempCheck (temps : List (Fin 8 × Int)) (s : State) : Out3 :=
  let temps := temps.filter fun x => s.amcChannels.contains x.1.val
  let s := temps.foldl (fun (s : State) (x : Fin 8 × Int) => s.setF (F.AMC_c_STATUS_TEMP x.1) (BitVec.ofInt 8 x.2).toNat) s
  let drift := temps.any fun x => decide (10 < (x.2 - s.amc.temps.getD x.1 x.2).natAbs)
  let s := if s.amc.temps.isEmpty && !temps.isEmpty then s.modAmc fun a => { a with temps := s.amcTemps } else s
  .next (if drift && s.amcState = 2 && s.amc.wantFrom.isNone then
    s.modAmc fun a => { a with wantFrom := some s.time.samples } else s)

/-- TEMP_RETRAIN (R341): the FIFO holds at most 1 MiB, or 1 s has passed. -/
def execTempRetrain (s : State) : Out3 :=
  .next (match s.amc.wantFrom with
    | none => s
    | some t =>
      if s.amcState != 2 then s
      else if s.fifoBytes ≤ 2 ^ 20 || decide (t + 1000000 * s.ticksPerUs ≤ s.time.samples) then s.retrainStart .retrain else s)

/-- FULL_RETRAIN_DONE (R341). -/
def execFullRetrainDone (s : State) : Out3 :=
  .next (match s.amc.run with
    | .retrain => s.trainingEnd
    | _ => s)

/-! ### Errors (R343, R344) -/

/-- ALERT_N (R343): a replay; one within 10 µs of the last is beyond the budget, and the 16th within 1 ms retrains. -/
def execAlertN (c : Fin 8) (s : State) : Out3 :=
  .next (if !s.amcChannels.contains c.val then s
    else
      let us := s.ticksPerUs
      let near (t : Nat) : Bool := (s.amc.replays.any fun x => x.1 = c.val && decide (s.time.samples < x.2 + t * us))
      let beyond := near 10
      let s := ((s.incSat (F.AMC_c_REPLAYS_COUNT c)).raiseLimited 222 1000).modAmc fun a =>
        { a with replays := (c.val, s.time.samples) :: a.replays.filter fun x =>
            x.1 != c.val || decide (s.time.samples < x.2 + 1000 * us) }
      let s := if beyond then (s.incSat (F.AMC_c_OVERRUN_COUNT c)).raise 223 else s
      if s.amcState = 2 && decide (16 ≤ (s.amc.replays.filter fun x => x.1 = c.val).length) then
        (s.modAmc fun a => { a with replays := a.replays.filter fun x => x.1 != c.val }).retrainStart .retrain
      else s)

/-- CORRECTABLE_ERROR (R344). -/
def execCorrectableError (c : Fin 8) (s : State) : Out3 :=
  .next ((s.incSat (F.AMC_c_CE_COUNT c)).raiseLimited 224 1000)

/-- Does a piece of a record hold a byte of the transaction at address `t`? -/
def Piece.holds (t : Nat) : Piece → Bool
  | .elems _ iq addr skip count _ =>
    if iq then inTransaction t (addr + 4 * skip) (4 * count)
    else inTransaction t (addr + 3 * skip / 2) ((3 * (skip + count) + 1) / 2 - 3 * skip / 2)
  | .glow _ addr w _ r _ => inTransaction t addr (4 * w * r)

/-- Mark every record of a list that holds a byte of the transaction at address `t`. -/
def markMem (t : Nat) (l : List Record) : List Record :=
  l.map fun r => if r.pieces.any (Piece.holds t) then { r with flags := r.flags ||| Flag.memerr } else r

/-- What the reader of a bad transaction on channel `c` does with it (R327, R344). -/
def State.ueMark (s : State) (c : Nat) : UeReader → State
  | .data k addr =>
    if (dramPlace s.amcChannels.length addr).1 = c then s.modStream k fun t => { t with formed := markMem addr t.formed } else s
  | .tag k ch => s.modStream k fun t =>
      { t with gather := t.gather.set ch (t.gather.get ch).dropLast, tagGap := t.tagGap.set ch true }
  | .glow ch => s.modGlw ch fun g =>
      match g.forming with
      | f :: fs => { g with forming := { f with flags := f.flags ||| Flag.memerr } :: fs }
      | [] => { g with carry := g.carry ||| Flag.memerr }
  | .dma c => { s with dma := s.dma.set c { s.dma[c] with bad := true } }
  | .bar5 => s.emit .poisoned

/-- UNCORRECTABLE_ERROR (R344). -/
def execUncorrectableError (c : Fin 8) (reader : UeReader) (s : State) : Out3 :=
  .next (((s.incSat (F.AMC_c_UE_COUNT c)).raise 225).ueMark c reader)

/-! ### Slot frames (R330) -/

/-- Slots of a frame by owner: refresh and training, Glow, tags, replay reserve, guaranteed write, guaranteed read, free. -/
def slotRow (rate channels : Nat) : List Nat :=
  let four := channels = 4
  if rate = 2 then [24, if four then 20 else 10, 2, 7, 59, 59, if four then 29 else 39]
  else if rate = 1 then [21, if four then 20 else 10, 2, 7, 51, 51, if four then 23 else 33]
  else [18, if four then 20 else 10, 2, 7, 44, 44, if four then 15 else 25]

/-- SLOT_FRAME (R330): a frame of channel `c` starts with its slots. -/
def execSlotFrame (c : Fin 8) (s : State) : Out3 :=
  .next (if !s.amcChannels.contains c.val then s
    else
      let row := slotRow (s.f F.AMC_STATUS_RATE) s.amcChannels.length
      s.modAmc fun a => { a with slots := (c.val, row) :: a.slots.filter fun x => x.1 != c.val })

/-! ### Self-refresh (R345, R346) -/

/-- Do STANDBY, SLEEP or Fog-signal mode hold the memory in self-refresh (R345, R429)?  A transition to ACTIVE or WATCH does
not. -/
def State.memHeld (s : State) : Bool :=
  decide (2 ≤ s.f F.PWR_STATUS_STATE) && !(match s.rst.trans with
    | some t => decide (t.target ≤ 1)
    | none => false)

/-- The exit from self-refresh starts, with the full retrain after it (R341, R345); the memory synthesiser runs, with the spread
that waited (R197). -/
def State.srExit (s : State) : State :=
  if s.amcState = 3 && !s.on F.AMC_STATUS_ON_BACKUP && s.on F.CLK_STATUS_MEM_LOCKED && !s.memHeld then
    s.memSpread.retrainStart .exit
  else s

/-- The conditions of R345 for self-refresh. -/
def State.srIdle (s : State) : Bool :=
  s.on F.AMC_CFG_SR_EN && s.amcState = 2 && s.capMode 0 = 0 && s.capMode 1 = 0 && (s.glw.get 0).forming.isEmpty &&
  (s.glw.get 1).forming.isEmpty && s.f F.AMC_ADMIT_RD_USED = 0 && s.amc.waiting.isEmpty && s.amc.fifo.isEmpty &&
  (s.dma.all fun d => d.active.isNone) && (s.streams.all fun t => t.formed.all fun r => r.pieces.isEmpty) &&
  decide (150 ≤ s.panelUs)

/-- SELF_REFRESH_ENTER (R345). -/
def execSelfRefreshEnter (s : State) : Out3 := .next (if s.srIdle then s.srEnter else s)

/-- SELF_REFRESH_EXIT (R345). -/
def execSelfRefreshExit (s : State) : Out3 := .next s.srExit

/-- SELF_REFRESH_EXIT_DONE (R345). -/
def execSelfRefreshExitDone (s : State) : Out3 :=
  .next (match s.amc.run with
    | .exit => s.trainingEnd.raise 221
    | _ => s)

/-- MEM_CLK_LOSS (R199, R346).  Initial training goes on after the relock. -/
def execMemClkLoss (s : State) : Out3 :=
  .next (if !s.on F.CLK_STATUS_MEM_LOCKED then s
    else
      let s := (s.setB F.CLK_STATUS_MEM_LOCKED false).raise 34
      let s := s.setB F.AMC_STATUS_ON_BACKUP true
      if s.amcState = 0 || s.amcState = 3 || s.amc.run == .initial then s else s.srEnter)

/-- The memory synthesiser locks: at a start (R191 step 3, R345) with the spread that waits, or after a loss (R346).  The
controller exits self-refresh and retrains. -/
def State.memLock (s : State) : State :=
  if s.on F.CLK_STATUS_MEM_LOCKED || !s.on F.CLK_SYS_CTRL_START || !s.on F.CLK_STATUS_REF_PRESENT then s
  else
    let s := (s.setB F.CLK_STATUS_MEM_LOCKED true).raise 33
    let s := if s.on F.AMC_STATUS_ON_BACKUP then s.setB F.AMC_STATUS_ON_BACKUP false else s.memSpread
    s.srExit

/-- MEM_CLK_RELOCK (R191, R199, R346): after step 2; not in SLEEP, which stops the synthesiser, unless the part is leaving it. -/
def execMemClkRelock (s : State) : Out3 :=
  .next (if !s.good.tclk || (s.f F.PWR_STATUS_STATE = 3 && s.rst.trans.isNone) then s else s.memLock)

/-- BAR5_ACCESS (R347): the address wraps modulo M; memory in training or self-refresh makes the access wait, and a request
ends self-refresh. -/
def execBar5Access (offset : BitVec 28) (len : Nat) (data : Option (List (BitVec 8))) (s : State) : Out3 :=
  let m := s.pair A.AMC_SIZE_LO
  let b : Bar5 := { addr := (s.pair A.AMC_APERTURE_LO / 2 ^ 20 * 2 ^ 20 + offset.toNat) % m, len := len, data := data }
  .next (if s.amcState = 0 then
      (match data with
       | some _ => s
       | none => s.emit (.bytes (List.replicate len 0xFF)))
    else if s.amcState = 2 then s.bar5Do b
    else (s.modAmc fun a => { a with waiting := a.waiting ++ [b] }).srExit)

end Sys2Proof.Machine
end

