-- ==== Sys2Proof/Machine/Bar2.lean ====
section
/-! DEFINITION. On-chip SRAM as BAR2 shows it (R24, R378), and register writes by access type (R5, R6). -/

namespace Sys2Proof.Machine
open Sys2Proof

/-- The writable bits of the register at `a` take those of `data` (R5); other bits and unknown addresses are not touched. -/
def State.writeRW (s : State) (a : Nat) (data : Word) : State :=
  match findReg a with
  | none => s
  | some r => s.setReg a ((s.reg a &&& ~~~r.rw) ||| (data &&& r.rw))

/-- The writable bits of a register pair take those of a 64-bit value (R7). -/
def State.writeRWPair (s : State) (a : Nat) (data : Nat) : State :=
  (s.writeRW a (BitVec.ofNat 32 data)).writeRW (a + 4) (BitVec.ofNat 32 (data / 2 ^ 32))

/-- What a BAR2 read finds at an offset (R24): stored bytes, zero, or bytes whose layout the spec does not give. -/
inductive Bar2Sort where
  | stored | zero | open_
deriving DecidableEq, Repr

/-- Beacon core of an offset in the X/Y region. -/
def xyCore (a : Nat) : Fin 17 := ⟨(a - 0x1A00000) / 0x40000 % 16, Nat.lt_of_lt_of_le (Nat.mod_lt _ (by decide)) (by decide)⟩

/-- The sort of the byte at offset `a`. -/
def State.bar2Sort (s : State) (a : Nat) : Bar2Sort :=
  if a < 0x800000 then .stored
  else if a < 0x1A00000 then .zero
  else if a < 0x1E00000 then (if s.coreState (xyCore a) = 1 then .zero else .stored)
  else if a < 0x2280000 then .stored
  else if a < 0x2B80000 then .open_
  else if a < 0x2C80000 then .zero
  else if a < 0x2C90000 then .open_
  else if a < 0x2DD0000 then .stored
  else if a < 0x2ED0000 then .open_
  else .zero

/-- A byte of a region whose layout the spec does not give: stream staging, the panel tile buffer, Sector mask memory, the
DMA descriptor queues, the PRP lists.  What they hold is in the state; where each byte of it lies is open (log entry 16). -/
def State.bar2Open (s : State) (a : Nat) : Byte :=
  if a < 0x2880000 then Config.bar2Byte a (s.streams.map fun (t : Stream) => (t.formed, t.log))
  else if a < 0x2A80000 then Config.bar2Byte a (s.pnl, s.glw)
  else if a < 0x2B80000 then Config.bar2Byte a (s.sec.masks.map (·.cfgs), s.sec.progs.map (·.cfgs))
  else if a < 0x2C90000 then Config.bar2Byte a (s.dma.map fun (d : Dma) => (d.active, d.queue))
  else Config.bar2Byte a (s.nvq.map (·.cmds))

/-- The byte at offset `a` as BAR2 shows it (R24). -/
def State.bar2Byte (s : State) (a : Nat) : Byte :=
  match s.bar2Sort a with
  | .stored => Mem.read s.sram a
  | .zero => 0
  | .open_ => s.bar2Open a

/-- `n` bytes read through BAR2 from `a` on. -/
def State.bar2Read (s : State) (a n : Nat) : List Byte := (List.range n).map fun i => s.bar2Byte (a + i)

/-- May the host write the byte at offset `a` (R24): Beacon X/Y of a core that does not run? -/
def State.hostMayWrite (s : State) (a : Nat) : Bool :=
  decide (0x1A00000 ≤ a) && decide (a < 0x1E00000) && s.coreState (xyCore a) != 1

/-- May `w` write the byte at offset `a` (R24, R378)?  Drives write the completion queues. -/
def State.bar2May (s : State) (w : Bar2Writer) (a : Nat) : Bool :=
  s.hostMayWrite a || (w == .peer && decide (0x2D90000 ≤ a) && decide (a < 0x2DD0000))

/-- Bytes written through BAR2: each is stored where its writer has the right, else discarded. -/
def State.bar2Write (s : State) (w : Bar2Writer) (a : Nat) : List Byte → State
  | [] => s
  | b :: bs =>
    (if s.bar2May w a then { s with sram := Mem.write s.sram a b } else s).bar2Write w (a + 1) bs

/-- BAR2_WRITE (R24). -/
def execBar2Write (by_ : Bar2Writer) (offset : BitVec 26) (data : List (BitVec 8)) (s : State) : Out3 :=
  .next (s.bar2Write by_ offset.toNat data)

end Sys2Proof.Machine
end

