-- ==== Sys2Proof/Machine/Scalar.lean ====
section
/-! DEFINITION. Class 00b, control and scalar instructions (R98 to R104), and `li` (R115). -/

namespace Sys2Proof.Machine
open Sys2Proof

/-- Core `c` writes `gd` and goes on to the next instruction. -/
def State.aluWrite (s : State) (c : Fin 17) (gd : Fin 16) (v : Word) : State :=
  s.onCore c fun s => (s.modCore c fun k => k.writeG gd v).fallThrough c

/-- As `aluWrite` with an exact result fitted to 32 bits under S, the sticky bits set (R69). -/
def State.aluFit (s : State) (c : Fin 17) (sat : Bool) (gd : Fin 16) (x : Int) : State :=
  s.onCore c fun s =>
    (s.modCore c fun k => (k.stickyFit sat 32 [x]).writeG gd (fitS sat 32 x)).fallThrough c

/-- General register `i` of core `c`. -/
def State.g (s : State) (c : Fin 17) (i : Fin 16) : Word := (s.cores[c]).readG i

/-- 1 or 0 as a word. -/
def flagWord (b : Bool) : Word := if b then 1 else 0

/-- A conditional branch: taken to the branch's address plus `off` words, else on to the next instruction. -/
def State.branch (s : State) (c : Fin 17) (taken : Bool) (off : Word) : State :=
  s.onCore c fun s => if taken then s.transfer c (s.pcOf c + off) else s.fallThrough c

/-- Start a hardware loop (R102): `n` times the `len` instructions that follow; two-word instructions of a Keeper loop count
once. -/
def State.startLoop (s : State) (c : Fin 17) (n : Word) (len : BitVec 10) : State :=
  s.onCore c fun s =>
    let k := s.cores[c]
    let first := k.pc + 4
    let last := s.loopLast c len.toNat
    let beyond := match k.loops with
      | [] => false
      | l :: _ => decide (l.last.toNat < last.toNat)
    if len = 0 || decide (4 ≤ k.loops.length) || beyond || (isKeeper c && k.trapOn) then s.illegal c
    else if n = 0 then (s.loopEnd c last).boundary c
    else
      (s.modCore c fun k =>
        { k.setLB false with
          loops := { first := first, last := last, count := n, clean := true } :: dirty k.loops }).fallThrough c

/-- `nop` (R99). -/
def execNop (core : Fin 17) (s : State) : Out3 :=
  .next (s.onCore core fun s => s.fallThrough core)

/-- `add` (R99). -/
def execAdd (core : Fin 17) (sat : Bool) (gd ga gb : Fin 16) (s : State) : Out3 :=
  .next (s.aluFit core sat gd ((s.g core ga).toInt + (s.g core gb).toInt))

/-- `sub` (R99). -/
def execSub (core : Fin 17) (sat : Bool) (gd ga gb : Fin 16) (s : State) : Out3 :=
  .next (s.aluFit core sat gd ((s.g core ga).toInt - (s.g core gb).toInt))

/-- `mul` (R99). -/
def execMul (core : Fin 17) (sat : Bool) (gd ga gb : Fin 16) (s : State) : Out3 :=
  .next (s.aluFit core sat gd ((s.g core ga).toInt * (s.g core gb).toInt))

/-- `mulh` (R99). -/
def execMulh (core : Fin 17) (gd ga gb : Fin 16) (s : State) : Out3 :=
  .next (s.aluWrite core gd (BitVec.ofInt 32 ((s.g core ga).toInt * (s.g core gb).toInt / 2 ^ 32)))

/-- `and` (R99). -/
def execAnd (core : Fin 17) (gd ga gb : Fin 16) (s : State) : Out3 :=
  .next (s.aluWrite core gd ((s.g core ga) &&& (s.g core gb)))

/-- `or` (R99). -/
def execOr (core : Fin 17) (gd ga gb : Fin 16) (s : State) : Out3 :=
  .next (s.aluWrite core gd ((s.g core ga) ||| (s.g core gb)))

/-- `xor` (R99). -/
def execXor (core : Fin 17) (gd ga gb : Fin 16) (s : State) : Out3 :=
  .next (s.aluWrite core gd ((s.g core ga) ^^^ (s.g core gb)))

/-- `sll` (R99): signed, by bits [4:0] of gb. -/
def execSll (core : Fin 17) (sat : Bool) (gd ga gb : Fin 16) (s : State) : Out3 :=
  .next (s.aluFit core sat gd ((s.g core ga).toInt * 2 ^ ((s.g core gb).toNat % 32)))

/-- `srl` (R99). -/
def execSrl (core : Fin 17) (gd ga gb : Fin 16) (s : State) : Out3 :=
  .next (s.aluWrite core gd ((s.g core ga) >>> ((s.g core gb).toNat % 32)))

/-- `sra` (R99). -/
def execSra (core : Fin 17) (gd ga gb : Fin 16) (s : State) : Out3 :=
  .next (s.aluWrite core gd ((s.g core ga).sshiftRight ((s.g core gb).toNat % 32)))

/-- `slt` (R99). -/
def execSlt (core : Fin 17) (gd ga gb : Fin 16) (s : State) : Out3 :=
  .next (s.aluWrite core gd (flagWord ((s.g core ga).slt (s.g core gb))))

/-- `sltu` (R99). -/
def execSltu (core : Fin 17) (gd ga gb : Fin 16) (s : State) : Out3 :=
  .next (s.aluWrite core gd (flagWord ((s.g core ga).ult (s.g core gb))))

/-- `min` (R99). -/
def execMin (core : Fin 17) (gd ga gb : Fin 16) (s : State) : Out3 :=
  .next (s.aluWrite core gd (if (s.g core gb).slt (s.g core ga) then (s.g core gb) else (s.g core ga)))

/-- `max` (R99). -/
def execMax (core : Fin 17) (gd ga gb : Fin 16) (s : State) : Out3 :=
  .next (s.aluWrite core gd (if (s.g core ga).slt (s.g core gb) then (s.g core gb) else (s.g core ga)))

/-- `abs` (R99). -/
def execAbs (core : Fin 17) (sat : Bool) (gd ga : Fin 16) (s : State) : Out3 :=
  .next (s.aluFit core sat gd (Int.natAbs (s.g core ga).toInt))

/-- `addi` (R99). -/
def execAddi (core : Fin 17) (sat : Bool) (gd ga : Fin 16) (imm : BitVec 15) (s : State) : Out3 :=
  .next (s.aluFit core sat gd ((s.g core ga).toInt + imm.toInt))

/-- `andi` (R99). -/
def execAndi (core : Fin 17) (gd ga : Fin 16) (imm : BitVec 15) (s : State) : Out3 :=
  .next (s.aluWrite core gd ((s.g core ga) &&& zx imm))

/-- `ori` (R99). -/
def execOri (core : Fin 17) (gd ga : Fin 16) (imm : BitVec 15) (s : State) : Out3 :=
  .next (s.aluWrite core gd ((s.g core ga) ||| zx imm))

/-- `xori` (R99). -/
def execXori (core : Fin 17) (gd ga : Fin 16) (imm : BitVec 15) (s : State) : Out3 :=
  .next (s.aluWrite core gd ((s.g core ga) ^^^ zx imm))

/-- `slli` (R99). -/
def execSlli (core : Fin 17) (sat : Bool) (gd ga : Fin 16) (n : BitVec 5) (s : State) : Out3 :=
  .next (s.aluFit core sat gd ((s.g core ga).toInt * 2 ^ n.toNat))

/-- `srli` (R99). -/
def execSrli (core : Fin 17) (gd ga : Fin 16) (n : BitVec 5) (s : State) : Out3 :=
  .next (s.aluWrite core gd ((s.g core ga) >>> n.toNat))

/-- `srai` (R99). -/
def execSrai (core : Fin 17) (gd ga : Fin 16) (n : BitVec 5) (s : State) : Out3 :=
  .next (s.aluWrite core gd ((s.g core ga).sshiftRight n.toNat))

/-- `slti` (R99). -/
def execSlti (core : Fin 17) (gd ga : Fin 16) (imm : BitVec 15) (s : State) : Out3 :=
  .next (s.aluWrite core gd (flagWord ((s.g core ga).slt (sx imm))))

/-- `lui` (R99). -/
def execLui (core : Fin 17) (gd : Fin 16) (imm : BitVec 16) (s : State) : Out3 :=
  .next (s.aluWrite core gd (zx imm <<< 16))

/-- `lli` (R99). -/
def execLli (core : Fin 17) (gd : Fin 16) (imm : BitVec 16) (s : State) : Out3 :=
  .next (s.aluWrite core gd (((s.g core gd) &&& 0xFFFF0000#32) ||| zx imm))

/-- `beq` (R99, R101). -/
def execBeq (core : Fin 17) (ga gb : Fin 16) (off : BitVec 15) (s : State) : Out3 :=
  .next (s.branch core ((s.g core ga) == (s.g core gb)) (wordOff off))

/-- `bne` (R99, R101). -/
def execBne (core : Fin 17) (ga gb : Fin 16) (off : BitVec 15) (s : State) : Out3 :=
  .next (s.branch core ((s.g core ga) != (s.g core gb)) (wordOff off))

/-- `blt` (R99, R101). -/
def execBlt (core : Fin 17) (ga gb : Fin 16) (off : BitVec 15) (s : State) : Out3 :=
  .next (s.branch core ((s.g core ga).slt (s.g core gb)) (wordOff off))

/-- `bge` (R99, R101). -/
def execBge (core : Fin 17) (ga gb : Fin 16) (off : BitVec 15) (s : State) : Out3 :=
  .next (s.branch core (!(s.g core ga).slt (s.g core gb)) (wordOff off))

/-- `bltu` (R99, R101). -/
def execBltu (core : Fin 17) (ga gb : Fin 16) (off : BitVec 15) (s : State) : Out3 :=
  .next (s.branch core ((s.g core ga).ult (s.g core gb)) (wordOff off))

/-- `bgeu` (R99, R101). -/
def execBgeu (core : Fin 17) (ga gb : Fin 16) (off : BitVec 15) (s : State) : Out3 :=
  .next (s.branch core (!(s.g core ga).ult (s.g core gb)) (wordOff off))

/-- `jmp` (R99). -/
def execJmp (core : Fin 17) (off : BitVec 23) (s : State) : Out3 :=
  .next (s.branch core true (wordOff off))

/-- `jal` (R99): links into g15. -/
def execJal (core : Fin 17) (off : BitVec 23) (s : State) : Out3 :=
  .next (s.onCore core fun s =>
    (s.modCore core fun k => k.writeG 15 (k.pc + 4)).transfer core (s.pcOf core + wordOff off))

/-- `jr` (R101). -/
def execJr (core : Fin 17) (ga : Fin 16) (s : State) : Out3 :=
  .next (s.onCore core fun s => s.transfer core (s.g core ga))

/-- `jalr` (R101): the target is the register value before the instruction. -/
def execJalr (core : Fin 17) (gd ga : Fin 16) (s : State) : Out3 :=
  .next (s.onCore core fun s =>
    (s.modCore core fun k => k.writeG gd (k.pc + 4)).transfer core (s.g core ga))

/-- `loop` (R102): the count is ga, unsigned. -/
def execLoop (core : Fin 17) (ga : Fin 16) (len : BitVec 10) (s : State) : Out3 :=
  .next (s.startLoop core (s.g core ga) len)

/-- `loopi` (R102). -/
def execLoopi (core : Fin 17) (count : BitVec 13) (len : BitVec 10) (s : State) : Out3 :=
  .next (s.startLoop core (zx count) len)

/-- The last instruction of the innermost loop body has completed without a transfer, so the PC stands just after it (R102). -/
def execLoopBackEdge (core : Fin 17) (s : State) : Out3 :=
  .next (s.onCore core fun s =>
    match (s.cores[core]).loops with
    | [] => s
    | l :: _ => if s.pcOf core = l.last + BitVec.ofNat 32 (s.instrBytes core l.last) then (s.loopEnd core l.last).boundary core else s)

/-- `movs` (R100). -/
def execMovs (core : Fin 17) (dst src : BitVec 6) (s : State) : Out3 :=
  .next (s.onCore core fun s =>
    if srnOk core dst && srnOk core src then
      (s.modCore core fun k => k.writeSrn dst (k.readSrn src)).fallThrough core
    else s.illegal core)

/-- `movsi` (R100). -/
def execMovsi (core : Fin 17) (dst : BitVec 6) (imm : BitVec 17) (s : State) : Out3 :=
  .next (s.onCore core fun s =>
    if srnOk core dst then (s.modCore core fun k => k.writeSrn dst (sx imm)).fallThrough core else s.illegal core)

/-- `fence` (R66, R104): on the Keeper the store buffer drains; a Beacon core has nothing to wait for. -/
def execFence (core : Fin 17) (s : State) : Out3 :=
  .next (s.onCore core fun s => (if isKeeper core then s.drainAll else s).fallThrough core)

/-- `brk` (R99): BREAK, at its own address. -/
def execBrk (core : Fin 17) (s : State) : Out3 :=
  .next (s.onCore core fun s => s.coreFault core .brk (s.pcOf core))

/-- `rett` (R104): the Keeper restores the loop stack, clears `cst.TRAP` and goes on at `epc`; ILLEGAL on a Beacon core.  With
no trap running the shadow is empty: R104 does not say what it then holds (DESIGN CHOICE, log entry 124). -/
def execRett (core : Fin 17) (s : State) : Out3 :=
  .next (s.onCore core fun s =>
    if isKeeper core then
      let t := (s.cores[core]).epc
      (s.modCore core fun k => ({ k with loops := k.shadow, shadow := [] }).setTrap false).transfer core t
    else s.illegal core)

/-- `amod` (R99): post-modify without an access. -/
def execAmod (core : Fin 17) (x : Fin 8) (imm : BitVec 15) (s : State) : Out3 :=
  .next (s.onCore core fun s => (s.modCore core fun k => k.postMod x (sx imm)).fallThrough core)

/-- `waitq` (R104): go on when QWR[q] differs from ga [15:0], else stall; ILLEGAL on the Keeper. -/
def execWaitq (core : Fin 17) (q : Fin 4) (ga : Fin 16) (s : State) : Out3 :=
  .next (s.onCore core fun s =>
    if isKeeper core then s.illegal core
    else if s.f (F.BCN_n_Qq_STATUS_WR core q) = (s.g core ga).toNat % 65536 then
      s.modCore core fun k =>
        { k with stall := some (.waitq q ((k.readG ga).setWidth 16)), waitFrom := s.time.tRun }
    else s.fallThrough core)

/-- QWR[q] has changed and the core stalled in `waitq` goes on (R104). -/
def execWaitqWake (core : Fin 17) (s : State) : Out3 :=
  .next (match (s.cores[core]).stall with
    | some (.waitq q v) =>
      if s.f (F.BCN_n_Qq_STATUS_WR core q) = v.toNat then s
      else
        (s.modCore core fun k =>
          { k with stall := none, hangFrom := k.hangFrom + (s.time.tRun - k.waitFrom) }).fallThrough core
    | _ => s)

/-- `signal` (R104, R91); ILLEGAL on the Keeper. -/
def execSignal (core : Fin 17) (imm : BitVec 16) (s : State) : Out3 :=
  .next (s.onCore core fun s =>
    if isKeeper core then s.illegal core
    else
      ((s.setF (F.BCN_n_ATTN_CODE core) imm.toNat).setBRaise (F.BCN_n_ATTN_SIGNAL core) (185 + 2 * core.val)).fallThrough
        core)

/-- `li` (R115): a class 11b instruction, ILLEGAL on a Beacon core (R60). -/
def execLi (core : Fin 17) (gd : Fin 16) (imm : BitVec 32) (s : State) : Out3 :=
  .next (s.onCore core fun s =>
    if isKeeper core then (s.modCore core fun k => k.writeG gd imm).fallThrough core 8 else s.illegal core)

end Sys2Proof.Machine
end

