-- ==== Sys2Proof/Machine/KprTl.lean ====
section
/-! DEFINITION. The timeline instructions TL.* (R119 to R139) and the write side of the timeline queues. -/

namespace Sys2Proof.Machine
open Sys2Proof

/-- Byte of Keeper memory or of the coefficient window, as an engine reads it (R65, R135). -/
def State.engineByte (s : State) (a : Nat) : Byte :=
  Mem.read s.sram (if a < 0x80000 then 0x2200000 + a else a - 0x10000000)

/-- `n` such bytes. -/
def State.engineBytes (s : State) (a n : Nat) : List Byte := (List.range n).map fun i => s.engineByte (a + i)

/-- Does the range lie in Keeper memory or in the coefficient window (R122, R135)? -/
def loadRange (a n : Nat) : Bool :=
  a + n ≤ 0x80000 || (0x12000000 ≤ a && a + n ≤ 0x12200000)

/-- Source and length that the descriptor at `a` gives, if R122 accepts the descriptor.  Its bytes 8 to 15, which R135 calls
zero, are not tested (DESIGN CHOICE, log entry 121). -/
def State.loadDesc (s : State) (a : Nat) : Option (Nat × Nat) :=
  if a % 16 != 0 || !loadRange a 16 then none
  else
    let src := ofBytes (s.engineBytes a 4)
    let len := ofBytes (s.engineBytes (a + 4) 4)
    if len % 64 != 0 || len < 64 || 262144 < len || !loadRange src len then none else some (src, len)

/-- A queue entry as it is accepted. -/
def mkEntry (u sel : Nat) (opnd : Word) (table : Option Nat) (t : Long) (imm : Bool) (from_ : Nat) : Entry :=
  { sel := sel, opnd := opnd, table := table, target := t, imm := imm,
    phase := if lampSide u sel then .transit else .queued, from_ := from_, kept := false }

/-- Put an IMM entry ahead of every entry whose element has not come, behind earlier IMM entries (R133). -/
def insertImm (e : Entry) : List Entry → List Entry
  | [] => [e]
  | x :: q => if x.imm || x.phase == .reported then x :: insertImm e q else e :: x :: q

/-- Put an entry into the queue of unit `u` (R127, R133, R142): counted, and as `LAST` when it has a target.  A lamp-side
entry leaves as a return packet (R162, R207). -/
def State.enqueue (s : State) (u : Fin 15) (e : Entry) : State :=
  let q := s.tl.queues[u]
  let s := if e.phase == .transit then s.sendRet (.entry u e.sel) else s
  let s := s.setQueue u (if e.imm then insertImm e q else q ++ [e])
  let s := s.incWrap (F.KPR_TLQ_u_ISSUED_ISSUED u)
  if e.imm then s else s.setPair (A.KPR_TLQ_u_LAST_LO u) e.target.toNat

/-- Start a load (R135): the descriptor has been read, the copy waits its turn. -/
def State.newLoad (s : State) (u sel src len : Nat) : State :=
  let l : TlLoad := { id := s.tl.nextLoad, unit := u, sel := sel, src := src, len := len, done := false, shadow := [] }
  ({ s with tl := { s.tl with loads := s.tl.loads ++ [l], nextLoad := s.tl.nextLoad + 1 } }).incWrap
    F.KPR_TL_LOADS_ISSUED

/-- Accept an entry that met every test: on time it is queued, else it is LATE (R128).  `table` is what the descriptor of a
load says at acceptance (R135). -/
def State.acceptEntry (s : State) (u : Fin 15) (sel : Nat) (opnd : Word) (table : Option (Nat × Nat)) (imm : Bool) :
    State :=
  let t := s.tl.held.getD 0
  if !imm && decide (t.toNat < s.tickNow.toNat + 64000) then s.markLate u sel t
  else
    match table with
    | none => s.enqueue u (mkEntry u sel opnd none t imm s.time.samples)
    | some (src, len) => (s.newLoad u sel src len).enqueue u (mkEntry u sel opnd (some s.tl.nextLoad) t imm s.time.samples)

/-- Issue TL.SET, TL.SETR or TL.LOAD on the Keeper (R120 to R122, R127 to R129).  The traps come in the order NOTGT, SEL,
ORDER, DESC; a full queue stalls the instruction where it stands. -/
def State.tlIssue (s : State) (c : Fin 17) (unit : BitVec 4) (sel : Nat) (opnd : Word) (isLoad imm : Bool) : State :=
  s.onCore c fun s =>
    if !isKeeper c then s.illegal c
    else
      let trap (e : Nat) : State := s.keeperTrap (.tl e) (s.pcOf c)
      if !imm && s.tl.held.isNone then trap 1
      else if h : unit.toNat < 15 then
        let u : Fin 15 := ⟨unit.toNat, h⟩
        let okSel := if isLoad then decide (tableSize u sel != 0) else scalarSel u sel
        if !okSel then trap 2
        else if !imm && decide ((s.tl.held.getD 0).toNat < s.pair (A.KPR_TLQ_u_LAST_LO u)) then trap 3
        else
          let table := if isLoad then s.loadDesc opnd.toNat else none
          if isLoad && table.isNone then trap 4
          else if 256 ≤ counted s.tl.queues[u] then
            let s := (s.setB F.KPR_TL_STATUS_STALLED true).setF F.KPR_TL_STATUS_STALL_UNIT u
            (s.raise 182).modCore c fun k => { k with stall := some (.timeline u sel opnd isLoad imm) }
          else (s.acceptEntry u sel opnd table imm).fallThrough c 8
      else trap 2

/-- Set the held target (R120). -/
def State.hold (s : State) (t : Long) : State :=
  (({ s with tl := { s.tl with held := some t } }).setB F.KPR_TL_STATUS_HELD true).setPair A.KPR_TL_HELD_LO t.toNat

/-- TL.AT (R120). -/
def execTlAt (core : Fin 17) (ga gb : Fin 16) (s : State) : Out3 :=
  .next (s.onCore core fun s =>
    if !isKeeper core then s.illegal core
    else (s.hold ((s.g core gb) ++ (s.g core ga))).fallThrough core 8)

/-- TL.ATD (R120): a trap with no held target. -/
def execTlAtd (core : Fin 17) (delta : BitVec 56) (s : State) : Out3 :=
  .next (s.onCore core fun s =>
    if !isKeeper core then s.illegal core
    else
      match s.tl.held with
      | none => s.keeperTrap (.tl 1) (s.pcOf core)
      | some t => (s.hold (t + delta.setWidth 64)).fallThrough core 8)

/-- TL.SET (R128). -/
def execTlSet (core : Fin 17) (unit : BitVec 4) (sel : BitVec 20) (opnd : BitVec 32) (imm : Bool) (s : State) : Out3 :=
  .next (s.tlIssue core unit sel.toNat opnd false imm)

/-- TL.SETR (R128): the operand is general register `ga`. -/
def execTlSetr (core : Fin 17) (unit : BitVec 4) (sel : BitVec 20) (ga : Fin 16) (imm : Bool) (s : State) : Out3 :=
  .next (s.tlIssue core unit sel.toNat (s.g core ga) false imm)

/-- TL.LOAD (R135): `desc` is the Keeper address of the descriptor. -/
def execTlLoad (core : Fin 17) (unit : BitVec 4) (sel : BitVec 20) (desc : BitVec 32) (imm : Bool) (s : State) : Out3 :=
  .next (s.tlIssue core unit sel.toNat desc true imm)

/-- A place is free in the queue the Keeper stalls on: the instruction is accepted, its lead tested now (R129).  A load
reads its descriptor now (R135); one that R122 no longer accepts traps (log entry 121). -/
def execTlStallEnd (s : State) : Out3 :=
  .next (match (s.cores[keeperNo]).stall with
    | some (.timeline unit sel opnd isLoad imm) =>
      if h : unit < 15 then
        let u : Fin 15 := ⟨unit, h⟩
        if 256 ≤ counted s.tl.queues[u] then s
        else
          let s := (s.setB F.KPR_TL_STATUS_STALLED false).modCore keeperNo fun k => { k with stall := none }
          let table := if isLoad then s.loadDesc opnd.toNat else none
          if isLoad && table.isNone then s.keeperTrap (.tl 4) (s.pcOf keeperNo)
          else (s.acceptEntry u sel opnd table imm).fallThrough keeperNo 8
      else s
    | _ => s)

/-- The first load still to be copied, unless an earlier load of its table is not yet applied (R135). -/
def nextCopy : List TlLoad → List TlLoad → Option TlLoad
  | _, [] => none
  | before, l :: ls =>
    if l.done then nextCopy (l :: before) ls
    else if before.any fun x => decide (x.unit = l.unit) && decide (x.sel = l.sel) then none else some l

/-- The copy of load `id` has finished: an IMM entry that waits for it looks for its safe point from now on (R133). -/
def State.copied (s : State) (u : Fin 15) (id : Nat) : State :=
  { s with tl := { s.tl with queues := s.tl.queues.set u ((s.tl.queues[u]).map fun (e : Entry) =>
      if e.imm && decide (e.table = some id) then { e with from_ := s.time.samples } else e) } }

/-- The load engine finishes a copy: the source as it stands goes into the shadow, `DONE` counts it (R136, R137). -/
def execTlLoadCopyDone (s : State) : Out3 :=
  .next (match nextCopy [] s.tl.loads with
    | none => s
    | some l =>
      let bs := s.engineBytes l.src l.len
      let s := { s with tl := { s.tl with
          loads := s.tl.loads.map fun (x : TlLoad) => if x.id = l.id then { x with done := true, shadow := bs } else x } }
      (if h : l.unit < 15 then s.copied ⟨l.unit, h⟩ l.id else s).incWrap F.KPR_TL_LOADS_DONE)

/-- Flush the queue of unit `u` (R138): entries not yet dealt with are counted in `FLUSHED`, its loads abandoned. -/
def State.flushUnit (s : State) (u : Fin 15) : State :=
  let q := s.tl.queues[u]
  let keep := q.filter fun e => e.phase == .reported
  let s := { s with tl := { s.tl with loads := s.tl.loads.filter fun l => l.unit != u.val } }
  (s.setQueue u keep).incSat (F.KPR_TLQ_u_FLUSHED_FLUSHED u) (counted q - counted keep)

/-- Flush the units of a list named in a mask. -/
def State.flushMask (s : State) (m : BitVec 16) : List (Fin 15) → State
  | [] => s
  | u :: us => (if m.getLsbD u then s.flushUnit u else s).flushMask m us

/-- A write to `KPR_TL_CTRL.FLUSH` (R138). -/
def execTlFlush (units : BitVec 16) (s : State) : Out3 := .next (s.flushMask units (List.finRange 15))

end Sys2Proof.Machine
end

