-- ==== Sys2Proof/Machine/Bcn.lean ====
section
/-! DEFINITION. The Beacon array: dispatch queues and bindings (R70 to R77), posts (R78, R79), faults, hangs and restarts
(R81, R82) and the run controls of R90. -/

namespace Sys2Proof.Machine
open Sys2Proof

/-- Core `n` of the array among the seventeen. -/
def bcn (n : Fin 16) : Fin 17 := ⟨n.val, by omega⟩

/-- Core number `n`, taken modulo 16. -/
def bcnOf (n : Nat) : Fin 17 := ⟨n % 16, by omega⟩

/-- BAR2 offset of X memory (`y` false) or Y memory of core `n` (R24, log entry 13). -/
def xyBase (n : Nat) (y : Bool) : Nat := 0x1A00000 + n * 0x40000 + (if y then 0x20000 else 0)

/-- Change queue `q` of core `c`. -/
def State.modBq (s : State) (c : Fin 17) (q : Fin 4) (g : BQueue → BQueue) : State :=
  s.modCore c fun k => { k with queues := k.queues.set q (g k.queues[q]) }

/-- Raise `BCN_ATTN` of core `n` (R91). -/
def State.attn (s : State) (n : Fin 17) : State := s.raise (185 + 2 * n.val)

/-- Bit `q` of `BCN_n_ATTN.QDROP`. -/
def qdropBit (n q : Nat) : Fld := ⟨(F.BCN_n_ATTN_QDROP n).addr, 1 + q, 1⟩

/-- Drop an entry at its queue (R76). -/
def State.dropEntry (s : State) (n : Fin 17) (q : Fin 4) : State :=
  let s := (s.incSat (F.BCN_n_Qq_DROPS_DROPS n q)).modBq n q fun b => { b with dropsBefore := min (b.dropsBefore + 1) 0xFFFF }
  if s.on (F.BCN_n_Qq_CFG_DROP_EVT n q) then s.setBRaise (qdropBit n q) (185 + 2 * n.val) else s

/-- The 32-byte header of a queue entry (R75). -/
def entryHeader (d : DispItem) (flags : BitVec 24) (dropsBefore page : Nat) : List Byte :=
  bytesOf 8 d.tick.toNat ++ bytesOf 3 flags.toNat ++ bytesOf 1 d.kind ++ bytesOf 2 dropsBefore ++ bytesOf 1 page ++
  bytesOf 1 d.source ++ bytesOf 4 d.payload.length ++ bytesOf 2 d.frac ++ bytesOf 2 0 ++ bytesOf 8 d.param.toNat

/-- Write an output as an entry of queue `q` of core `n` (R75, R76): dropped when the queue or the dispatch buffer is
full, else written whole and only then counted in WR. -/
def State.writeEntry (s : State) (n : Fin 17) (q : Fin 4) (page : Nat) (d : DispItem) (bufferFull : Bool) : State :=
  let b := (s.cores[n]).queues[q]
  let count := s.f (F.BCN_n_Qq_SLOTS_COUNT n q)
  let wr := s.f (F.BCN_n_Qq_STATUS_WR n q)
  let rd := s.f (F.BCN_n_Qq_STATUS_RD n q)
  if bufferFull || decide ((wr + b.wrap - rd) % b.wrap = count) then s.dropEntry n q
  else
    let slot := s.f (F.BCN_n_Qq_CFG_SLOT n q) * 32
    let cut := decide (slot < d.payload.length + 32)
    let flags := d.flags ||| flagIf cut Flag.trunc ||| s.lateFlag 13 d.tick
    let a := xyBase n (s.on (F.BCN_n_Qq_CFG_MEM n q)) + s.f (F.BCN_n_Qq_CFG_BASE n q) * 32 + wr % count * slot
    let bs := entryHeader d flags b.dropsBefore page ++ d.payload.take (slot - 32)
    let s := { s with sram := Mem.writeN s.sram a bs }
    let s := s.modBq n q fun b =>
      { b with dropsBefore := 0, entries := b.entries ++ [(flags, b.dropsBefore, page)] }
    s.setF (F.BCN_n_Qq_STATUS_WR n q) ((wr + 1) % b.wrap)

/-- Does a binding take an output (R70)? -/
def Binding.takes (b : Binding) (d : DispItem) : Bool :=
  b.src = d.src && decide (b.start.toNat ≤ d.tick.toNat) &&
  (match d.key with
   | none => true
   | some (c, q) => b.q = q && b.set_.contains c)

/-- The coefficient page for entries with this `TICK` under the pages of a list, newest first (R72). -/
def pageAt (tick : Long) : List (Long × Nat) → Nat
  | [] => 0
  | p :: ps => if p.1.toNat ≤ tick.toNat then p.2 else pageAt tick ps

/-- Give an output to every binding of a list that takes it; the entry index of each counts on, dropped entries
included.  `full` names the cores whose dispatch buffer is full. -/
def State.dispatchTo (s : State) (d : DispItem) (full : BitVec 16) : List Binding → List Binding → State
  | done, [] => { s with disp := { s.disp with bindings := done.reverse } }
  | done, b :: bs =>
    if b.takes d then
      let n := b.set_.getD (b.index % b.set_.length) 0
      let page := pageAt d.tick b.pages
      (s.writeEntry (bcnOf n) ⟨b.q % 4, Nat.mod_lt _ (by decide)⟩ page d (full.getLsbD (n % 16))).dispatchTo d full
        ({ b with index := b.index + 1 } :: done) bs
    else s.dispatchTo d full (b :: done) bs

/-- The dispatch unit writes the oldest waiting output into the queues bound to its source (R76); `bufferFull` names the
cores whose 16 KiB dispatch buffer is full. -/
def execQueueEntryWrite (bufferFull : BitVec 16) (s : State) : Out3 :=
  .next (if !s.pipeRuns then s else match s.disp.waiting with
    | [] => s
    | d :: ds => ({ s with disp := { s.disp with waiting := ds } }).dispatchTo d bufferFull [] s.disp.bindings)

/-- Flags an entry that RD passes leaves in `FLAGACC` (R77). -/
def accFlags (e : BitVec 24 × Nat × Nat) : BitVec 24 :=
  (e.1 &&& (faultFlags ||| Flag.trunc)) ||| flagIf (e.2.1 != 0) Flag.trunc

/-- A write of RD (R77, R80): bits [15:0] modulo W, forward by at most the entries present; the flags of each passed entry go
to `FLAGACC`.  Every write restarts the hang count (R81). -/
def State.qrdWrite (s : State) (n : Fin 17) (q : Fin 4) (v : Nat) : State :=
  let b := (s.cores[n]).queues[q]
  let w := b.wrap
  if w = 0 then s.modCore n fun c => { c with hangFrom := s.time.tRun }
  else
    let rd := s.f (F.BCN_n_Qq_STATUS_RD n q)
    let have_ := (s.f (F.BCN_n_Qq_STATUS_WR n q) + w - rd) % w
    let ahead := (v % 65536 % w + w - rd) % w
    let k := min ahead have_
    let fl := (b.entries.take k).foldl (fun f e => f ||| accFlags e) 0
    let s := s.setF (F.BCN_n_Qq_STATUS_RD n q) ((rd + k) % w)
    let s := s.modBq n q fun b => { b with entries := b.entries.drop k }
    s.modCore n fun c => { c with flagAcc := c.flagAcc ||| fl, hangFrom := s.time.tRun }

/-- A core writes QRD[q] (R77). -/
def execQrdWrite (core : Fin 16) (q : Fin 4) (value : BitVec 32) (s : State) : Out3 :=
  .next (s.onCore (bcn core) fun s => s.qrdWrite (bcn core) q value.toNat)

/-- A write to POST (R78, R79): queued with `FLAGACC`, which is cleared; with 8 posts waiting the core stalls.  The truth
value says that the core goes on. -/
def State.postWrite (s : State) (n : Fin 17) (a : Word) : State × Bool :=
  if 8 ≤ (s.cores[n]).posts.length then
    (s.modCore n fun k => { k with stall := some (.post a) }, false)
  else
    (s.modCore n fun k =>
      { k with posts := k.posts ++ [{ addr := a, flags := k.flagAcc }], flagAcc := 0, hangFrom := s.time.tRun }, true)

/-- A core posts a descriptor (R78). -/
def execPost (core : Fin 16) (addr : BitVec 32) (s : State) : Out3 :=
  .next (s.onCore (bcn core) fun s => (s.postWrite (bcn core) addr).1)

/-- The 32 descriptor bytes at Y address `a` of core `n`; where the descriptor is not a 32-byte-aligned Y address the spec
says nothing of them: free values (log entry 14). -/
def State.postDesc (s : State) (n : Nat) (a : Nat) : List Byte × State :=
  if a % 32 = 0 && 0x20000 ≤ a && a < 0x40000 then (Mem.readN s.sram (xyBase n true + (a - 0x20000)) 32, s)
  else
    let p := s.draw 256
    (bytesOf 32 p.1.toNat, p.2)

/-- The `len` payload bytes behind a descriptor at Y address `a` of core `n`; what lies outside Y memory is free values (log
entry 14). -/
def State.postBody (s : State) (n a len : Nat) : List Byte × State :=
  let have_ := if a % 32 = 0 && 0x20000 ≤ a && a < 0x40000 then min len (0x40000 - (a + 32)) else 0
  let rest := len - have_
  if rest = 0 then (Mem.readN s.sram (xyBase n true + (a - 0x20000) + 32) len, s)
  else
    let p := s.draw (8 * rest)
    (Mem.readN s.sram (xyBase n true + (a - 0x20000) + 32) have_ ++ bytesOf rest p.1.toNat, p.2)

/-- The stream engine has copied the oldest post of a core (R78, R79): its record (TYPE 0Ah) goes to the streams that take
it, `POSTED` counts it, and a stalled POST takes the place that is free.  The descriptor's `FRAC`, a length of 0 and a payload
outside Y memory are read as log entry 14 says (DESIGN CHOICE, DEDUCED). -/
def State.postCopied (s : State) (core : Fin 16) : State :=
  let n := bcn core
  match (s.cores[n]).posts with
  | [] => s
  | p :: ps =>
    let (d, s) := s.postDesc n p.addr.toNat
    let len := ofBytes ((d.drop 30).take 2) % 4096 * 32
    let (body, s) := s.postBody n p.addr.toNat len
    let tick : Long := BitVec.ofNat 64 (ofBytes (d.take 8))
    let flags := (BitVec.ofNat 24 (ofBytes ((d.drop 24).take 3)) &&& 0x3FFFF#24) ||| p.flags
    let r := { mkRecord 0x0A (0x40 + n.val) flags tick (ofBytes ((d.drop 16).take 8)) body (s.time.samples + 64000) with
      trigTick := BitVec.ofNat 64 (ofBytes ((d.drop 8).take 8)), frac := ofBytes ((d.drop 28).take 2) % 1024 }
    let s := (s.modCore n fun k => { k with posts := ps }).offer (16 + n.val) r
    let s := s.incWrap (F.BCN_n_POSTED_POSTED n)
    match (s.cores[n]).stall with
    | some (.post a) => ((s.modCore n fun k => { k with stall := none }).postWrite n a).1.fallThrough n
    | _ => s

/-- POST_COPIED (R79). -/
def execPostCopied (core : Fin 16) (s : State) : Out3 := .next (s.postCopied core)

/-- A fault of R81 by its code. -/
def faultOfCode (code : Nat) : Option CoreFault :=
  match code with
  | 1 => some .illegal | 2 => some .fetch | 3 => some .daddr | 4 => some .align | 5 => some .caddr | 6 => some .brk
  | 7 => some .hang | _ => none

/-- A Beacon core stops at a faulting instruction (R81). -/
def execBeaconFault (core : Fin 16) (code : BitVec 4) (addr : BitVec 32) (s : State) : Out3 :=
  .next (match faultOfCode code.toNat with
    | none => s
    | some w => if s.coreState (bcn core) = 1 then s.beaconFault (bcn core) w addr else s)

/-- TCLK cycles, at its nominal frequency, since its run stood at `from_` (log entry 35). -/
def State.tclkSince (s : State) (from_ : Nat) : Nat := (s.time.tRun - from_) / s.ticksPerUs

/-- The hang watchdog of a core runs out (R81): `CYCLES` × 256 cycles without a QRD write or POST, time in `waitq` not
counted; 0 disables. -/
def execBeaconHang (core : Fin 16) (s : State) : Out3 :=
  let n := bcn core
  let s := s.settleCore n
  let lim := s.f (F.BCN_n_WDOG_CYCLES n) * 256
  let waiting := match (s.cores[n]).stall with
    | some (.waitq _ _) => true
    | _ => false
  .next (if s.coreState n = 1 && lim != 0 && !waiting &&
      decide (lim ≤ s.tclkSince (s.cores[n]).hangFrom) then
    s.beaconFault n .hang (s.pcOf n) else s)

/-- 10 µs after a fault: automatic restart, unless the fault was BREAK or `AUTORESTART` is off (R82). -/
def execBeaconRestart (core : Fin 16) (s : State) : Out3 :=
  let n := bcn core
  .next (if s.f (bcnState n) = 2 && s.f (F.BCN_n_FAULT_CODE n) != 6 && (s.reg A.BCN_AUTORESTART).getLsbD core then
    s.restartBeacon n else s)

/-- Start core `n` by `BCN_RUN` (R90): a halted core at its entry, a faulted core as R82 restarts it. -/
def State.runCore (s : State) (n : Fin 17) : State :=
  if s.f (bcnState n) = 0 then s.startBeacon n 2 (s.cores[n]).entryPc
  else if s.f (bcnState n) = 2 then s.restartBeacon n
  else s.settleCore n

/-- Apply `g` to every core of a list named in a mask. -/
def State.forMask (s : State) (m : BitVec 16) (g : State → Fin 17 → State) : List (Fin 16) → State
  | [] => s
  | n :: ns => (if m.getLsbD n then g s (bcn n) else s).forMask m g ns

/-- A write to `BCN_RUN` (R90). -/
def execBcnRun (mask : BitVec 16) (s : State) : Out3 := .next (s.forMask mask State.runCore (List.finRange 16))

/-- Halt core `n` at its next instruction boundary (R90): at once, or after the instruction it is held in.  A core that does not
run has no such boundary, and its bit stays 0 (DESIGN CHOICE, log entry 123). -/
def State.haltAsk (s : State) (n : Fin 17) : State :=
  let s := s.settleCore n
  if s.f (bcnState n) != 1 then s
  else if (s.cores[n]).stall.isSome then s.setB (haltBit n) true
  else s.haltCore n

/-- A write to `BCN_HALT` (R90). -/
def execBcnHalt (mask : BitVec 16) (s : State) : Out3 := .next (s.forMask mask State.haltAsk (List.finRange 16))

/-- A write to `BCN_n_WDOG` (R90): the hang count restarts from zero. -/
def execBcnWdogWrite (core : Fin 16) (data : BitVec 32) (s : State) : Out3 :=
  let n := bcn core
  .next ((s.setF (F.BCN_n_WDOG_CYCLES n) data.toNat).modCore n fun k => { k with hangFrom := s.time.tRun, waitFrom := s.time.tRun })

/-- Is queue `q` of core `n` bound? -/
def State.isBound (s : State) (n : Fin 17) (q : Fin 4) : Bool := ((s.cores[n]).queues[q]).bound

/-- A write to a queue's `CFG` or `SLOTS` (R74): discarded with `CFG_BUSY` while the queue is bound. -/
def execQueueCfgWrite (core : Fin 16) (q : Fin 4) (slots : Bool) (data : BitVec 32) (s : State) : Out3 :=
  let n := bcn core
  .next (if s.isBound n q then s.setBRaise (F.BCN_n_ATTN_CFG_BUSY n) (185 + 2 * n.val)
    else if slots then s.setF (F.BCN_n_Qq_SLOTS_COUNT n q) data.toNat
    else s.setReg (A.BCN_n_Qq_CFG n q) (data &&& 0x8FFF1FFF#32))

/-! ### Unit 13: bindings -/

/-- The binding that holds queue `q` of core `n`. -/
def State.bindingOf (s : State) (n q : Nat) : Option Binding :=
  s.disp.bindings.find? fun b => b.q = q && b.set_.contains n

/-- Unbind queue `q` of each core of a list: the ring, WR and RD stay (R71). -/
def State.unbindAll (s : State) (q : Nat) : List Nat → State
  | [] => s
  | n :: ns =>
    let s := s.modBq (bcnOf n) ⟨q % 4, Nat.mod_lt _ (by decide)⟩ fun b => { b with bound := false }
    ((s.setReg (A.BCN_BIND_n_q n q) 0).setReg (A.BCN_CPAGE_n_q n q) 0).unbindAll q ns

/-- Remove the binding that holds queue `q` of core `n`, if there is one. -/
def State.removeBinding (s : State) (n q : Nat) : State :=
  match s.bindingOf n q with
  | none => s
  | some b =>
    ({ s with disp := { s.disp with
        bindings := s.disp.bindings.filter fun x => !(x.q = q && x.set_.contains n) } }).unbindAll q b.set_

/-- Bind queue `q` of each core of a list: WR, RD and drops are zeroed, W computed (R74). -/
def State.bindAll (s : State) (b : Binding) : List Nat → State
  | [] => s
  | n :: ns =>
    let q : Fin 4 := ⟨b.q % 4, Nat.mod_lt _ (by decide)⟩
    let count := s.f (F.BCN_n_Qq_SLOTS_COUNT n q)
    let s := s.modBq (bcnOf n) q fun _ =>
      { bound := true, wrap := count * (65536 / count), dropsBefore := 0, entries := [] }
    let s := (s.setReg (A.BCN_n_Qq_STATUS n q) 0).setReg (A.BCN_n_Qq_DROPS n q) 0
    ((s.setReg (A.BCN_BIND_n_q n q) b.op).setF (F.BCN_CPAGE_n_q_PAGE n q) (pageAt b.start b.pages)).bindAll b ns

/-- Cores a BIND operand names, ascending (R71). -/
def bindCores (n : Nat) (op : Word) : List Nat :=
  if op.getLsbD 4 then (List.range 16).filter fun m => op.getLsbD (16 + m) else [n]

/-- Does the ring of queue `q` of core `n` satisfy R74? -/
def State.ringOk (s : State) (n q : Nat) : Bool :=
  let slot := s.f (F.BCN_n_Qq_CFG_SLOT n q)
  let count := s.f (F.BCN_n_Qq_SLOTS_COUNT n q)
  2 ≤ slot && slot ≤ 2048 && 2 ≤ count && s.f (F.BCN_n_Qq_CFG_BASE n q) * 32 + count * slot * 32 ≤ 0x20000

/-- The lowest reason for which R73 refuses a BIND operand for queue `q` of core `n`; 0 when none holds. -/
def State.bindReason (s : State) (n q : Nat) (op : Word) : Nat :=
  let v := op.toNat
  let src := v % 16
  let blk := bitsOf v 5 3
  let set_ := v / 65536
  let cores := bindCores n op
  let others := s.disp.bindings.filter fun x => !(x.q = q && x.set_.contains n)
  if 0xB ≤ src || blk = 7 || (blk != 0 && src != 1 && src != 2) then 1
  else if bitsOf v 14 2 != 0 then 2
  else if (!op.getLsbD 4 && set_ != 0) || (op.getLsbD 4 && (!cores.contains n || cores.length < 2)) then 3
  else if src = 0 then 0
  else if others.any fun x => x.q = q && x.set_.any cores.contains then 4
  else if 4 ≤ (others.filter fun x => x.src = src).length then 5
  else if !cores.all fun m => s.ringOk m q then 7
  else 0

/-- Record a refusal of unit 13 (R73). -/
def State.refuse13 (e : Entry) (reason : Nat) (s : State) : State :=
  let n := bcnOf (e.sel % 0x40 / 4)
  let s := (s.setF F.BCN_LAST_REFUSE_SEL e.sel).setF F.BCN_LAST_REFUSE_REASON reason
  (s.setB (F.BCN_n_ATTN_BIND_REF n) true).attn n

/-- Effect of a BIND entry at the element labelled `at_` (R71, R73). -/
def bindEff (at_ : Long) (e : Entry) (_ : List Byte) (s : State) : Except Nat State :=
  let n := e.sel / 4
  let q := e.sel % 4
  let r := s.bindReason n q e.opnd
  if r != 0 then .error r
  else
    let s := s.removeBinding n q
    let v := e.opnd.toNat
    if v % 16 = 0 then .ok s
    else
      let b : Binding :=
        { src := v % 16, deal := e.opnd.getLsbD 4, blk := bitsOf v 5 3, pages := [(0, bitsOf v 8 6)],
          set_ := bindCores n e.opnd, q := q, op := e.opnd, start := if e.imm then at_ else e.target, index := 0,
          buf := [], bufTick := 0, bufFlags := 0, bufParam := 0 }
      .ok (({ s with disp := { s.disp with bindings := s.disp.bindings ++ [b] } }).bindAll b b.set_)

/-- A BIND entry reaches its element (R71). -/
def execBind (label : BitVec 64) (s : State) : Out3 :=
  .next (s.applyNext 13 (fun x => x < 0x40) label (bindEff label) State.refuse13)

/-- Set the page of the binding of each core's queue in the mirrors. -/
def State.pageMirrors (s : State) (q page : Nat) : List Nat → State
  | [] => s
  | n :: ns => (s.setF (F.BCN_CPAGE_n_q_PAGE n q) page).pageMirrors q page ns

/-- Effect of a CPAGE entry at the element labelled `at_` (R72, R73): the page of entries from its target on. -/
def cpageEff (at_ : Long) (e : Entry) (_ : List Byte) (s : State) : Except Nat State :=
  let n := e.sel % 0x40 / 4
  let q := e.sel % 4
  let page := e.opnd.toNat % 64
  if e.opnd.toNat / 64 != 0 then .error 2
  else
    match s.bindingOf n q with
    | none => .error 6
    | some b =>
      .ok (({ s with disp := { s.disp with
          bindings := s.disp.bindings.map fun (x : Binding) =>
            if x.q = q && x.set_.contains n then { x with pages := (if e.imm then at_ else e.target, page) :: x.pages } else x } }).pageMirrors q page b.set_)

/-- A CPAGE entry reaches its element (R72). -/
def execCpage (label : BitVec 64) (s : State) : Out3 :=
  .next (s.applyNext 13 (fun x => 0x40 ≤ x) label (cpageEff label) State.refuse13)

end Sys2Proof.Machine
end

