-- ==== Sys2Proof/Machine/Stream.lean ====
section
/-! DEFINITION. The stream engine, unit 10 (R366 to R377, R382 to R385): admission, staging, the release of records, host
rings, and the entries of unit 10. -/

namespace Sys2Proof.Machine
open Sys2Proof

/-! ### Records as bytes (R362, R365, R371) -/

/-- Bytes 0 to 59 of a record's header; `len` is `PAYLOAD_LEN`. -/
def headerBytes (r : Record) (len : Nat) : List Byte :=
  bytesOf 2 0x4A4C ++ bytesOf 1 1 ++ bytesOf 1 r.typ ++ bytesOf 1 r.source ++ bytesOf 3 r.flags.toNat ++ bytesOf 6 r.seq ++
  bytesOf 2 r.stream ++ bytesOf 8 r.tick.toNat ++ bytesOf 2 r.frac ++ bytesOf 2 r.anchor ++ bytesOf 4 len ++
  bytesOf 8 r.trigTick.toNat ++ bytesOf 8 r.param.toNat ++ bytesOf 8 r.drop ++ bytesOf 4 0

/-- The room a record takes in its destination (R371). -/
def occupied (len : Nat) (pcrc : Bool) : Nat := (64 + len + (if pcrc then 4 else 0) + 63) / 64 * 64

/-- A whole record as its destination holds it: header, payload, payload CRC, zero bytes (R371). -/
def recordBytes (r : Record) (pcrc : Bool) : List Byte :=
  let h := headerBytes r r.payload.length
  let b := h ++ bytesOf 4 (crc32c h).toNat ++ r.payload ++ (if pcrc then bytesOf 4 (crc32c r.payload).toNat else [])
  b ++ List.replicate (occupied r.payload.length pcrc - b.length) 0

/-! ### Payload in acquisition memory (R368, R370) -/

/-- Raw codes of a chunk at `addr`, elements `skip` to `skip + count`. -/
def rawCodes (amem : List Host.Cell) (addr skip count : Nat) : List (BitVec 32) :=
  (List.range count).map fun i =>
    let j := skip + i
    BitVec.ofNat 32 (bitsOf (Mem.readLE amem (addr + j / 8 * 12) 12) (12 * (j % 8)) 12)

/-- Does the ring of channel `ch` still hold, from element `skip` on, the chunk that starts at sample `gen` at `addr`? -/
def State.holds (s : State) (ch addr gen skip : Nat) : Bool :=
  let c := s.cap.get (if ch = 0 then 0 else 1)
  c.held.any fun k => k.addr = addr && k.n = gen && decide (k.gone ≤ skip)

/-- Is the Glow array of generation `gen` still whole: no later snapshot forms into its buffer (R370)? -/
def State.glowWhole (s : State) (ch gen : Nat) : Bool :=
  let g := s.glw.get (if ch = 0 then 0 else 1)
  (match g.snap with
   | some p => decide (p.gen = gen)
   | none => false) ||
  (g.forming.isEmpty && (match g.prev with
   | some p => decide (p.gen = gen)
   | none => false))

/-- Whether a piece is still in memory. -/
def State.pieceThere (s : State) : Piece → Bool
  | .elems ch _ addr skip _ gen => s.holds ch addr gen skip
  | .glow ch _ _ _ _ gen => s.glowWhole ch gen

/-- Length of a piece's bytes on its own. -/
def Piece.bytes : Piece → Nat
  | .elems _ iq _ _ count _ => if iq then 4 * count else 0
  | .glow _ _ _ c r _ => 4 * c * r

/-- IQ and Glow bytes of a piece; zeros once it is gone. -/
def State.pieceBytes (s : State) (p : Piece) : List Byte :=
  if !s.pieceThere p then List.replicate p.bytes 0
  else match p with
    | .elems _ iq addr skip count _ => if iq then Mem.readN s.amem (addr + 4 * skip) (4 * count) else []
    | .glow _ addr w c r _ =>
      (List.range r).flatMap fun i => (List.range c).flatMap fun j => bytesOf 4 (displayCell s.amem addr w c i j)

/-- Raw codes of a piece; zeros once it is gone. -/
def State.pieceCodes (s : State) : Piece → List (BitVec 32)
  | .elems ch false addr skip count gen =>
    if s.holds ch addr gen skip then rawCodes s.amem addr skip count else List.replicate count 0
  | _ => []

/-- The payload a record is sent with. -/
def State.payloadOf (s : State) (r : Record) : List Byte :=
  r.payload ++ r.pieces.flatMap s.pieceBytes ++ packRaw (r.pieces.flatMap s.pieceCodes)

/-- Has a chunk of a record of a continuous ring been overwritten (R369, R375)?  Segment slots and Glow buffers give zeros
and `TRUNC` instead (R370). -/
def State.overwritten (s : State) (r : Record) : Bool :=
  r.typ ≤ 2 && r.trigTick = 0 && r.pieces.any fun p => !s.pieceThere p

/-- Flags laid on the samples a record covers while it was held (R15, R23). -/
def State.coverFlags (s : State) (r : Record) : BitVec 24 :=
  r.cover.foldl (fun f c => f ||| (s.sampleFlags (if c.ch = 0 then 0 else 1) c.first c.end_ &&& c.mask)) 0

/-! ### Admission and staging (R372 to R374) -/

/-- Size of staging. -/
def stagingBytes : Nat := 6 * 2 ^ 20

/-- Is stream `k` guaranteed? -/
def State.guar (s : State) (k : Nat) : Bool := s.on (F.STR_s_CFG_GUAR k)

/-- Sum over the streams. -/
def State.sumStreams (s : State) (g : Stream → Nat) : Nat := s.streams.toList.foldl (fun n t => n + g t) 0

/-- Bytes free in the pool (R374). -/
def State.poolFree (s : State) : Nat := stagingBytes - s.sumStreams (·.share) - s.sumStreams (·.pooled)

/-- The share of a guaranteed stream: 60 µs at its rate, in whole 4 KiB (R374). -/
def shareOf (link : Nat) : Nat := (link * 600 + 4095) / 4096 * 4096

/-- A pair that stream `k` may not use: not enabled, or used by another admitted stream (R373). -/
def State.pairBad (s : State) (k q : Nat) : Bool :=
  !s.on (F.NVQ_q_CFG_EN q) ||
  (List.range 64).any fun j => j != k && s.strState j != 0 && s.on (F.STR_s_CFG_DEST j) && (s.f (F.STR_s_CFG_NVQ_MASK j)).testBit q

/-- The CFG test of R373 fails. -/
def State.cfgBad (s : State) (k : Nat) : Bool :=
  (if s.on (F.STR_s_CFG_DEST k) then
    let mask := s.f (F.STR_s_CFG_NVQ_MASK k)
    let stripe := s.f (F.STR_s_RING_STRIPE_LOG2 k)
    mask = 0 || ((List.range 16).any fun q => mask.testBit q && s.pairBad k q) || decide (stripe < 16) || decide (20 < stripe)
  else
    let l := s.f (F.STR_s_RING_RING_LOG2 k)
    decide (l < 20) || decide (40 < l) || s.pair (A.STR_s_RING_BASE_LO k) % 4096 != 0) ||
  (s.guar k && s.f (F.STR_s_RATE_LINK k) = 0)

/-- The result code of an `ADMIT` (R373). -/
def State.admitResult (s : State) (k : Nat) : Nat :=
  if s.strState k != 0 then 4
  else if s.cfgBad k then 5
  else if s.guar k && decide (s.f F.HST_LINK_LIMIT_LIMIT < s.f F.HST_LINK_LIMIT_USED + s.f (F.STR_s_RATE_LINK k)) then 2
  else if s.guar k && decide (s.f F.AMC_ADMIT_RD_LIMIT < s.f F.AMC_ADMIT_RD_USED + s.f (F.STR_s_RATE_MEM k)) then 3
  else 1

/-- A write of `ADMIT` (R366, R373): the counts run from 0; the token bucket starts full (log entry 17). -/
def State.admitStream (s : State) (k : Fin 64) : State :=
  let c := s.admitResult k
  let s := s.setF (F.STR_s_STATUS_RESULT k) c
  if c != 1 then s
  else
    let share := if s.guar k then shareOf (s.f (F.STR_s_RATE_LINK k)) else 0
    let s := if s.guar k then
        (s.setF F.HST_LINK_LIMIT_USED (s.f F.HST_LINK_LIMIT_USED + s.f (F.STR_s_RATE_LINK k))).setF F.AMC_ADMIT_RD_USED
          (s.f F.AMC_ADMIT_RD_USED + s.f (F.STR_s_RATE_MEM k))
      else s
    let s := ((s.setPair (A.STR_s_SEQ_LO k) 0).setPair (A.STR_s_DROPS_LO k) 0).setPair (A.STR_s_CONS_LO k) 0
    let s := s.modStream k fun _ =>
      { Stream.zero with share := share, bucket := share * s.ticksPerUs, bucketAt := s.time.samples }
    s.setF (F.STR_s_STATUS_STATE k) 1

/-- ADMIT (R373). -/
def execStreamAdmit (k : Fin 64) (s : State) : Out3 := .next (s.admitStream k)

/-- A write of `RELEASE` (R366): only an admitted stream that is not enabled gives its reservations back. -/
def State.strRelease (s : State) (k : Fin 64) : State :=
  if s.strState k = 1 then
    let s := if s.guar k then
        (s.setF F.HST_LINK_LIMIT_USED (s.f F.HST_LINK_LIMIT_USED - s.f (F.STR_s_RATE_LINK k))).setF F.AMC_ADMIT_RD_USED
          (s.f F.AMC_ADMIT_RD_USED - s.f (F.STR_s_RATE_MEM k))
      else s
    (s.modStream k fun _ => Stream.zero).setF (F.STR_s_STATUS_STATE k) 0
  else if 2 ≤ s.strState k then s.setF (F.STR_s_STATUS_RESULT k) 4
  else s

/-- STREAM_RELEASE (R366). -/
def execStreamRelease (k : Fin 64) (s : State) : Out3 := .next (s.strRelease k)

/-! ### Release of records (R375) -/

/-- The host link carries data: the link is up and HCLK runs (R23). -/
def State.linkUp (s : State) : Bool := s.on F.HST_STATUS_LINK_UP && s.good.hclk

/-- The token bucket filled up to the present (R374), in bytes times sample periods per microsecond. -/
def State.bucketNow (s : State) (k : Fin 64) : Nat :=
  let t := s.streams[k]
  min (t.bucket + (s.time.samples - t.bucketAt) * s.f (F.STR_s_RATE_LINK k) * 10) (t.share * s.ticksPerUs)

/-- Is a record of `len` bytes conforming (R374)? -/
def State.conforms (s : State) (k : Fin 64) (len : Nat) : Bool := s.guar k && decide (len * s.ticksPerUs ≤ s.bucketNow k)

/-- A record of stream `k` is dropped and counted; `conf` says that it conformed (R375). -/
def State.dropRecord (s : State) (k : Fin 64) (conf : Bool) : State :=
  let s := s.countDrop k
  if conf then (s.setB (F.STR_s_STATUS_GUAR_LOSS k) true).raise 244 else s

/-- Staging room of a record: its share when it conforms, else the pool. -/
def State.stagingFree (s : State) (k : Fin 64) (conf : Bool) : Nat :=
  if conf then (s.streams[k]).share - (s.streams[k]).used else s.poolFree

/-- Hold `n` bytes of staging and, for a conforming record of `len` bytes, spend its tokens. -/
def State.holdStaging (s : State) (k : Fin 64) (conf : Bool) (n len : Nat) : State :=
  let b := s.bucketNow k
  s.modStream k fun t =>
    if conf then { t with used := t.used + n, bucket := b - len * s.ticksPerUs, bucketAt := s.time.samples }
    else { t with pooled := t.pooled + n }

/-- Free `n` bytes of staging: of the share first, then of the pool (log entry 18). -/
def Stream.freeStaging (t : Stream) (n : Nat) : Stream :=
  { t with used := t.used - n, pooled := t.pooled - (n - t.used) }

/-- The pairs of stream `k`, ascending (R379). -/
def State.pairsOf (s : State) (k : Nat) : List Nat := (List.range 16).filter fun q => (s.f (F.STR_s_CFG_NVQ_MASK k)).testBit q

/-- Stripe size of stream `k`. -/
def State.stripeOf (s : State) (k : Nat) : Nat := 2 ^ s.f (F.STR_s_RING_STRIPE_LOG2 k)

/-- LBA size of pair `q`. -/
def State.lbaSize (s : State) (q : Nat) : Nat := if s.on (F.NVQ_q_CFG_LBA4K q) then 4096 else 512

/-- Stripes in the log of stream `k` (R379): pairs times the smallest of their regions. -/
def State.logStripes (s : State) (k : Nat) : Nat :=
  let qs := s.pairsOf k
  let room (q : Nat) : Nat := s.pair (A.NVQ_q_NLBA_LO q) * s.lbaSize q / s.stripeOf k
  match qs with
  | [] => 0
  | q :: r => (q :: r).length * r.foldl (fun m x => min m (room x)) (room q)

/-- The flags and counts a header is formed with (R47, R48, R134, R371). -/
def State.formHeader (s : State) (k : Fin 64) (r : Record) : Record :=
  let t := s.streams[k]
  let wrap := t.wrapSeq && decide (r.seq < 2 ^ 47)
  let gone := r.pieces.any fun p => !s.pieceThere p
  { r with
    flags := r.flags ||| s.coverFlags r ||| flagIf (s.on F.STR_ANCHOR_STATUS_SUSPECT) Flag.suspect ||| s.lateFlag 10 r.tick |||
      flagIf wrap Flag.wrap ||| flagIf gone Flag.trunc
    anchor := if r.typ = 8 then r.anchor else s.f F.STR_ANCHOR_STATUS_INDEX
    drop := if r.staged then r.drop else t.dropsSince
    payload := s.payloadOf r
    pieces := [] }

/-- A snapshot record that left with `TIMELINE_SUSPECT` leaves the flag to the later snapshots of its persistence chain (R318). -/
def State.glwSuspect (s : State) (r : Record) : State :=
  let ch : Fin 2 := if r.source = 0 then 0 else 1
  let own := r.cover.any fun c => (s.glw.get ch).chain.any fun x => x.1 = c.first
  if r.typ = 6 && own then s.modGlw ch fun g => { g with carry := g.carry ||| (r.flags &&& Flag.suspect) } else s

/-- Attributes of stream payload and of DMA data written to the host (R355); every other write has both clear. -/
def State.dataAttr (s : State) : TlpAttr := { noSnoop := s.on F.STR_CTRL_NOSNOOP_PAYLOAD, relaxed := s.on F.STR_CTRL_RO_PAYLOAD }
def plainAttr : TlpAttr := { noSnoop := false, relaxed := false }

/-- Write a record to the host ring or to the log of stream `k` (R371, R376, R379). -/
def State.deliver (s : State) (k : Fin 64) (r : Record) (conf : Bool) : State :=
  let pcrc := s.on F.STR_CTRL_PCRC
  let r := s.formHeader k r
  let s := s.glwSuspect r
  let len := occupied r.payload.length pcrc
  let h := headerBytes r r.payload.length
  let nv := s.on (F.STR_s_CFG_DEST k)
  let at_ := (s.streams[k]).prod
  let wrap := (s.streams[k]).wrapSeq && decide (r.seq < 2 ^ 47)
  let s := if r.staged then s.modStream k fun t => t.freeStaging (min len 4096) else s
  let s := s.holdStaging k conf (if nv then len else 0) (if r.staged then 0 else len)
  let s := s.modStream k fun t =>
    { t with prod := t.prod + len, dropsSince := if r.staged then t.dropsSince else 0, wrapSeq := t.wrapSeq && !wrap,
             log := if nv then t.log ++ recordBytes r pcrc else t.log,
             recs := if nv then t.recs ++ [(at_, len)] else t.recs }
  let s := s.incPair A.STR_RECORDS_LO
  s.emit (.record k at_ r (crc32c h) (if pcrc then some (crc32c r.payload) else none) s.dataAttr)

/-- Room in the destination (R376, R379): the free space of a host ring; an NVMe region only ends under `NV_STOP`. -/
def State.destRoom (s : State) (k : Fin 64) (len : Nat) : Bool :=
  let t := s.streams[k]
  if s.on (F.STR_s_CFG_DEST k) then
    !s.on (F.STR_s_CFG_NV_STOP k) || decide (t.prod + len ≤ s.logStripes k * s.stripeOf k)
  else decide (len + (t.prod - s.pair (A.STR_s_CONS_LO k)) ≤ 2 ^ s.f (F.STR_s_RING_RING_LOG2 k))

/-- The oldest record of stream `k` leaves (R375): delivered, or dropped. -/
def State.releaseHead (s : State) (k : Fin 64) (r : Record) (rest : List Record) : State :=
  let len := occupied (s.payloadOf r).length (s.on F.STR_CTRL_PCRC)
  let conf := s.conforms k len || (r.staged && s.guar k)
  let s := s.modStream k fun t => { t with formed := rest }
  if s.strState k = 3 || s.overwritten r then s.dropRecord k conf
  else if !r.staged && decide (s.stagingFree k conf < min len 4096) then s.dropRecord k conf
  else if !s.destRoom k len then
    (if s.on (F.STR_s_CFG_DEST k) && s.strState k = 2 then (s.setF (F.STR_s_STATUS_STATE k) 3).dropRecord k conf
     else s.dropRecord k conf)
  else s.deliver k r conf

/-- The first record of a list that is not in staging, with those before and after it. -/
def splitStaged : List Record → Option (List Record × Record × List Record)
  | [] => none
  | r :: rs =>
    if !r.staged then some ([], r, rs)
    else match splitStaged rs with
      | none => none
      | some (a, x, b) => some (r :: a, x, b)

/-- A record comes to its release while the link is down (R23): a conforming one of a guaranteed stream stays in staging
while its share has room; any other is dropped. -/
def State.releaseDown (s : State) (k : Fin 64) : State :=
  match splitStaged (s.streams[k]).formed with
  | none => s
  | some (a, r, b) =>
    if s.time.samples < r.due then s
    else
      let len := occupied (s.payloadOf r).length (s.on F.STR_CTRL_PCRC)
      let conf := s.conforms k len
      let n := min len 4096
      if conf && s.strState k != 3 && decide (n ≤ s.stagingFree k true) then
        let r := { r with staged := true, drop := (s.streams[k]).dropsSince }
        (s.holdStaging k true n len).modStream k fun t => { t with formed := a ++ r :: b, dropsSince := 0 }
      else (s.modStream k fun t => { t with formed := a ++ b }).dropRecord k conf

/-- RECORD_RELEASE (R15, R41, R375): the oldest record of a stream, once its hold is over. -/
def execRecordRelease (k : Fin 64) (s : State) : Out3 :=
  .next (if !s.linkUp then s.releaseDown k
    else match (s.streams[k]).formed with
      | [] => s
      | r :: rest => if s.time.samples < r.due then s else s.releaseHead k r rest)

/-! ### Host rings (R376, R377) -/

/-- Bit `k` of `STR_IRQ`. -/
def strIrq (k : Nat) : Fld := ⟨A.STR_IRQ_LO + 4 * (k / 32), k % 32, 1⟩

/-- PRODUCER_UPDATE (R377): at most once per 1 µs. -/
def execProducerUpdate (k : Fin 64) (s : State) : Out3 :=
  let t := s.streams[k]
  let soon := t.prodAt.any fun n => decide (s.time.samples < n + s.ticksPerUs)
  .next (if !s.linkUp || t.prod = t.prodSent || soon then s
    else
      let s := (s.modStream k fun t => { t with prodSent := t.prod, prodAt := some s.time.samples }).emit
        (.hostWrite (s.pair (A.STR_s_PROD_ADDR_LO k) / 8 * 8) (bytesOf 8 t.prod) plainAttr)
      if s.on (F.STR_s_CFG_IRQ k) && decide (s.f (F.STR_s_WMARK_BYTES k) ≤ t.prod - t.notified) then
        ((s.modStream k fun t => { t with notified := t.prod }).setB (strIrq k) true).raise 242
      else s)

/-- A write of the consumer count (R376). -/
def State.consume (s : State) (k : Fin 64) (v : Nat) : State :=
  if v < s.pair (A.STR_s_CONS_LO k) || decide ((s.streams[k]).prod < v) then s.setB (F.STR_s_STATUS_CONS_ERR k) true
  else s.setPair (A.STR_s_CONS_LO k) v

/-- CONSUMER_WRITE (R376). -/
def execConsumerWrite (k : Fin 64) (count : BitVec 64) (s : State) : Out3 := .next (s.consume k count.toNat)

/-- A write of a configuration register (R385): discarded with `CFG_BUSY` unless the stream is FREE. -/
def State.strCfg (s : State) (k : Fin 64) (reg : StrReg) (data : Nat) : State :=
  if s.strState k != 0 then s.setB (F.STR_s_STATUS_CFG_BUSY k) true
  else match reg with
    | .cfg => s.writeRW (A.STR_s_CFG k) (BitVec.ofNat 32 data)
    | .rate => s.writeRW (A.STR_s_RATE k) (BitVec.ofNat 32 data)
    | .ring => s.writeRW (A.STR_s_RING k) (BitVec.ofNat 32 data)
    | .ringBase => s.writeRWPair (A.STR_s_RING_BASE_LO k) data
    | .prodAddr => s.writeRWPair (A.STR_s_PROD_ADDR_LO k) data

/-- STREAM_CFG_WRITE (R385). -/
def execStreamCfgWrite (k : Fin 64) (reg : StrReg) (data : BitVec 64) (s : State) : Out3 := .next (s.strCfg k reg data.toNat)

/-! ### Entries of unit 10 (R366, R367, R369, R382) -/

/-- Record a refusal of unit 10 (R382). -/
def strRefuse (e : Entry) (reason : Nat) (s : State) : State :=
  ((s.setF F.STR_LAST_REFUSE_STREAM e.sel).setF F.STR_LAST_REFUSE_REASON reason).raise 245

/-- The chunks that a ring holds go to a stream whose ring bit has become 1 with `BACKLOG` (R369). -/
def State.feedHeld (s : State) (k : Fin 64) (ch : Fin 2) : State :=
  let cs := (s.cap.get ch).held.filter fun c => !c.seg && decide ((s.cap.get ch).epoch ≤ c.n)
  cs.foldl (fun s c =>
    let l := (s.flt.get ch).log
    let x := c.ref ch
    (if x.iq then cutParts l s.labelOf l.length x else [x]).foldl (fun s p => s.ringAdd k ch x.label p) s) s

/-- One ring of a stream as an entry changes its bit: a bit that falls ends the record in the making, a bit that rises with
`BACKLOG` reads the chunks held. -/
def State.ringChange (s : State) (k : Fin 64) (old new : Word) (ch : Fin 2) : State :=
  if ringBit old ch && !ringBit new ch then s.ringFlush k ch
  else if !ringBit old ch && ringBit new ch && new.getLsbD 13 then s.feedHeld k ch
  else s

/-- The state after `STREAM_EN` (R366). -/
def enState (on : Bool) (st : Nat) : Nat := if st = 0 then 0 else if !on then 1 else if st = 3 then 3 else 2

/-- Effect of `STREAM_EN_k` from target `t` on. -/
def State.streamEn (s : State) (k : Fin 64) (t : Long) (op : Word) : State :=
  let old := match (s.streams[k]).hist with
    | x :: _ => x.2
    | [] => 0
  let s := (s.setReg (A.STR_STREAM_EN_s k) op).setF (F.STR_s_STATUS_STATE k) (enState (op.getLsbD 0) (s.strState k))
  let s := if s.strState k = 0 then s else s.modStream k fun x => { x with hist := (t, op) :: x.hist }
  (s.ringChange k old op 0).ringChange k old op 1

/-- Effect of an entry of unit 10. -/
def strEff (at_ : Long) (e : Entry) (_ : List Byte) (s : State) : Except Nat State :=
  let k : Fin 64 := ⟨e.sel % 64, Nat.mod_lt _ (by decide)⟩
  let t := if e.imm then at_ else e.target
  if e.sel = 0x100 then .ok (s.marker 0x92 t e.opnd.toNat)
  else checked [(bitsOf e.opnd.toNat 14 2 != 0, 2),
      (e.opnd.getLsbD 0 && s.strState k = 0, 3),
      (e.opnd.getLsbD 13 && !e.opnd.getLsbD 1 && !e.opnd.getLsbD 2, 4)]
    (s.streamEn k t e.opnd)

/-- STREAM_EN (R367). -/
def execStreamEn (k : Fin 64) (label : BitVec 64) (s : State) : Out3 :=
  .next (s.applyNext 10 (fun x => x = k.val) label (strEff label) strRefuse)

/-- MARK (R126). -/
def execMark (label : BitVec 64) (s : State) : Out3 :=
  .next (s.applyNext 10 (fun x => x = 0x100) label (strEff label) strRefuse)

/-! ### The link (R354, R384) -/

/-- Lanes of a link width. -/
def linkLanes : LinkWidth → Nat
  | .x4 => 4 | .x8 => 8 | .x16 => 16

/-- `HST_STATUS.RATE` and ten times the GT/s of a link rate. -/
def linkCodes : LinkRate → Nat × Nat
  | .g2_5 => (1, 25) | .g5 => (2, 50) | .g8 => (3, 80) | .g16 => (4, 160) | .g32 => (5, 320) | .g64 => (6, 640)

/-- The link limit in units of 10 MB/s (R354). -/
def linkLimit (rate : LinkRate) (width : LinkWidth) : Nat := 10000 * (linkCodes rate).2 * (linkLanes width) / 10240

/-- LINK_UP (R354). -/
def execLinkUp (rate : LinkRate) (width : LinkWidth) (s : State) : Out3 :=
  let full := rate == .g64 && width == .x16
  let s := (s.setB F.HST_STATUS_LINK_UP true).setF F.HST_STATUS_RATE (linkCodes rate).1
  let s := (s.setF F.HST_STATUS_WIDTH (linkLanes width)).setB F.HST_STATUS_DEGRADED (!full)
  let s := (s.setF F.HST_LINK_LIMIT_LIMIT (linkLimit rate width)).raise 240
  .next (if full then s else s.raise 241)

/-- The number of non-posted requests outstanding is whatever the traffic of the moment makes it, at most 4,096 (R351): a
free value. -/
def State.sampleTags (s : State) : State :=
  let p := s.draw 13
  let n := min p.1.toNat 4096
  (p.2.setF F.HST_TAGS_INUSE n).setF F.HST_TAGS_PEAK (max (p.2.f F.HST_TAGS_PEAK) n)

/-- A write of `HST_TAGS.CLEAR` (R384). -/
def execTagsPeakClear (s : State) : Out3 :=
  let s := s.sampleTags
  .next (s.setF F.HST_TAGS_PEAK (s.f F.HST_TAGS_INUSE))

end Sys2Proof.Machine
end

