-- ==== Sys2Proof/Machine/Dma.lean ====
section
/-! DEFINITION. DMA channels (R356 to R361, R387). -/

namespace Sys2Proof.Machine
open Sys2Proof

/-- Change a DMA channel; its level and activity show in `DMA_n_STATUS`. -/
def State.modDma (s : State) (c : Fin 32) (g : Dma → Dma) : State :=
  let s := { s with dma := s.dma.set c (g s.dma[c]) }
  (s.setF (F.DMA_n_STATUS_LEVEL c) (s.dma[c]).queue.length).setB (F.DMA_n_STATUS_ACTIVE c) (s.dma[c]).active.isSome

/-- A channel without an active descriptor starts its oldest one, unless it is paused (R356, R361). -/
def State.dmaNext (s : State) (c : Fin 32) : State :=
  if s.on (F.DMA_n_STATUS_PAUSED c) || (s.dma[c]).active.isSome then s
  else match (s.dma[c]).queue with
    | [] => s
    | d :: q => s.modDma c fun x => { x with queue := q, active := some d, moved := 0, bad := false }

/-- The descriptor that a write of `START` queues (R356). -/
def State.dmaDesc (s : State) (c : Nat) (v : Nat) : Desc :=
  { src := s.pair (A.DMA_n_SRC_LO c), dst := s.pair (A.DMA_n_DST_LO c), count := (s.reg (A.DMA_n_COUNT c)).toNat,
    srcSp := bitsOf v 1 2, dstSp := bitsOf v 3 2, prio := bitsOf v 5 2, irq := v.testBit 7 }

/-- A write of `DMA_n_CTRL` (R356, R361, R387): `FLUSH`, then `RESUME`, then `START` (log entry 21). -/
def State.dmaCtrl (s : State) (c : Fin 32) (v : Word) : State :=
  let s := s.writeRW (A.DMA_n_CTRL c) v
  let s := if v.getLsbD 9 then s.modDma c fun x => { x with queue := [] } else s
  let s := if v.getLsbD 8 then (s.setB (F.DMA_n_STATUS_PAUSED c) false).dmaNext c else s
  if !v.getLsbD 0 then s
  else if 64 ≤ (s.dma[c]).queue.length then s.setB (F.DMA_n_STATUS_QFULL c) true
  else (s.modDma c fun x => { x with queue := x.queue ++ [s.dmaDesc c v.toNat] }).dmaNext c

/-- DMA_START (R356). -/
def execDmaStart (c : Fin 32) (data : BitVec 32) (s : State) : Out3 := .next (s.dmaCtrl c (data ||| 1))
/-- DMA_RESUME (R361). -/
def execDmaResume (c : Fin 32) (data : BitVec 32) (s : State) : Out3 := .next (s.dmaCtrl c (data ||| 0x100))
/-- DMA_FLUSH (R387). -/
def execDmaFlush (c : Fin 32) (data : BitVec 32) (s : State) : Out3 := .next (s.dmaCtrl c (data ||| 0x200))

/-- Is the range of one side outside its space (R357)? -/
def State.dmaRangeBad (s : State) (sp a n : Nat) : Bool :=
  match sp with
  | 0 => decide (2 ^ 64 < a + n)
  | 1 => decide (0x4000000 < a + n)
  | _ => decide (s.pair A.AMC_SIZE_LO < a + n)

/-- Is a descriptor invalid (R357)? -/
def State.dmaBad (s : State) (d : Desc) : Bool :=
  d.srcSp = 3 || d.dstSp = 3 || d.count = 0 || d.count % 4 != 0 || d.src % 4 != 0 || d.dst % 4 != 0 ||
  s.dmaRangeBad d.srcSp d.src d.count || s.dmaRangeBad d.dstSp d.dst d.count ||
  (d.dstSp = 1 && (List.range d.count).any fun i => !s.hostMayWrite (d.dst + i))

/-- Bytes the source gives; `host` is what a host source delivered. -/
def State.dmaRead (s : State) (d : Desc) (host : List Byte) : List Byte :=
  match d.srcSp with
  | 0 => host
  | 1 => s.bar2Read d.src d.count
  | _ => Mem.readN s.amem d.src d.count

/-- Bytes written to the destination. -/
def State.dmaWrite (s : State) (d : Desc) (bs : List Byte) : State :=
  match d.dstSp with
  | 0 => s.emit (.hostWrite d.dst bs s.dataAttr)
  | 1 => { s with sram := Mem.writeN s.sram d.dst bs }
  | _ => { s with amem := Mem.writeN s.amem d.dst bs }

/-- The first `n` bytes of the active descriptor have moved. -/
def State.dmaMove (s : State) (d : Desc) (n : Nat) (host : List Byte) : State :=
  if n = 0 then s else s.dmaWrite d ((s.dmaRead d host).take n)

/-- A descriptor of channel `c` finishes (R359, R360): registers, completion entry, event, and the next descriptor. -/
def State.dmaFinish (s : State) (c : Fin 32) (d : Desc) (code n : Nat) (forced : Bool) : State :=
  let s := (s.setF (F.DMA_n_LAST_CODE c) code).setB (F.DMA_n_LAST_PWR_FORCED c) forced
  let s := (s.setF (F.DMA_n_LAST_BYTES_BYTES c) n).incWrap (F.DMA_n_STATUS_DONE c)
  let s := s.modDma c fun x => { x with active := none, moved := 0, bad := false }
  let ring := s.pair (A.DMA_n_CPL_LO c) / 1024 * 1024
  let done := s.f (F.DMA_n_STATUS_DONE c)
  let s := if ring = 0 then s
    else s.emit (.hostWrite (ring + done % 64 * 16)
      (bytesOf 4 done ++ bytesOf 4 n ++ bytesOf 1 code ++ bytesOf 1 (bit forced) ++ bytesOf 6 0) plainAttr)
  if code != 0 || d.irq then s.raise (248 + c.val) else s

/-- After a power-down stopped a descriptor the channel pauses; otherwise it goes on (R361). -/
def State.dmaGoOn (s : State) (c : Fin 32) (code : Nat) : State :=
  if code = 7 then (s.modDma c fun x => { x with stopAsked := false }).setB (F.DMA_n_STATUS_PAUSED c) true else s.dmaNext c

/-- Does a descriptor wait for acquisition memory (R357)? -/
def State.dmaWaits (s : State) (d : Desc) : Bool := (d.srcSp = 2 || d.dstSp = 2) && s.amcState != 2

/-- The code a descriptor finishes with (R357, R359): an invalid one 6h, one that met bad data 5h, one with a side in host memory
what befell a host request; 7h only where a power-down asked for a stop and more than 64 KiB remain (R361). -/
def State.dmaCode (s : State) (c : Fin 32) (d : Desc) (code moved : Nat) : Nat :=
  if s.dmaBad d then 6
  else if (s.dma[c]).bad then 5
  else if code = 7 then (if (s.dma[c]).stopAsked && decide (65536 < d.count - moved) then 7 else 0)
  else if 1 ≤ code && code ≤ 4 && (d.srcSp = 0 || d.dstSp = 0) then code
  else 0

/-- DESCRIPTOR_FINISH (R359). -/
def execDescriptorFinish (c : Fin 32) (code : BitVec 4) (moved : Nat) (data : List (BitVec 8)) (s : State) : Out3 :=
  .next (match (s.dma[c]).active with
    | none => s
    | some d =>
      let k := s.dmaCode c d code.toNat moved
      if k != 6 && s.dmaWaits d then s
      else
        let n := if k = 0 then d.count else if k = 6 then 0 else min moved d.count
        let s := (s.dmaMove d n data).dmaFinish c d k n false
        s.dmaGoOn c k)

/-- DMA_STOP_FORCED (R361). -/
def execDmaStopForced (c : Fin 32) (moved : Nat) (data : List (BitVec 8)) (s : State) : Out3 :=
  .next (match (s.dma[c]).active with
    | none => s
    | some d =>
      if !(s.dma[c]).stopAsked then s
      else
        let n := if s.dmaBad d then 0 else min moved d.count
        (((s.dmaMove d n data).dmaFinish c d 7 n true).dmaGoOn c 7).raise 19)

end Sys2Proof.Machine
end

