-- ==== Sys2Proof/Machine/Nvme.lean ====
section
/-! DEFINITION. NVMe direct (R378 to R381, R386): stripes, commands, completions, and the reads of drives through BAR4. -/

namespace Sys2Proof.Machine
open Sys2Proof

/-- Pair number as a small number. -/
def pairNo (q : Nat) : Fin 16 := ⟨q % 16, Nat.mod_lt _ (by decide)⟩

/-- Change a queue pair; `NVQ_q_STATUS.INFLIGHT` follows. -/
def State.modNvq (s : State) (q : Fin 16) (g : Nvq → Nvq) : State :=
  let s := { s with nvq := s.nvq.set q (g s.nvq[q]) }
  s.setF (F.NVQ_q_STATUS_INFLIGHT q) (s.nvq[q]).cmds.length

/-- Commands pair `q` may still issue (R378): none when it is failed or not enabled. -/
def State.nvqRoom (s : State) (q : Fin 16) : Nat :=
  if !s.on (F.NVQ_q_CFG_EN q) || s.on (F.NVQ_q_CFG_FAILED q) then 0
  else min (s.f (F.NVQ_q_CFG_QSIZE_M1 q)) 256 - (s.nvq[q]).cmds.length

/-- Where a position of the log lies (R379): its pair and LBA. -/
def State.logPlace (s : State) (k pos : Nat) : Fin 16 × Nat :=
  let qs := s.pairsOf k
  let size := s.stripeOf k
  let i := pos / size % max (s.logStripes k) 1
  let q := pairNo (qs.getD (i % max qs.length 1) 0)
  (q, s.pair (A.NVQ_q_LBA_LO q) + i / max qs.length 1 * (size / s.lbaSize q) + pos % size / s.lbaSize q)

/-- The submission entry of a Write command (R380); the PRP entries are bus addresses the spec does not give (log
entry 19). -/
def sqEntry (cid nsid slba nlb : Nat) (fua : Bool) (prps : List Byte) : List Byte :=
  bytesOf 4 (1 + cid * 65536) ++ bytesOf 4 nsid ++ bytesOf 16 0 ++ prps ++ bytesOf 8 slba ++
  bytesOf 4 (nlb - 1 + bit fua * 2 ^ 30) ++ bytesOf 12 0

/-- `n` free bytes. -/
def State.drawBytes (s : State) : Nat → List Byte × State
  | 0 => ([], s)
  | n + 1 =>
    let p := s.draw 8
    let q := p.2.drawBytes n
    (p.1 :: q.1, q.2)

/-- One Write command of stream `k` for `data` at log position `pos` (R380): the entry, then the doorbell.  `frees` counts
the staging bytes that go free once the drive has read them. -/
def State.nvIssue (s : State) (k : Fin 64) (pos : Nat) (data : List Byte) (frees : Nat) : State :=
  let p := s.logPlace k pos
  let q := p.1
  let v := s.nvq[q]
  let nlb := data.length / s.lbaSize q
  let fua := s.on (F.STR_s_CFG_FUA k)
  let d := s.drawBytes 16
  let entry := sqEntry v.nextCid (s.f (F.NVQ_q_NSID_NSID q)) p.2 nlb fua d.1
  let s := d.2
  let s := if s.on (F.NVQ_q_CFG_LOC q) then s.emit (.hostWrite (s.pair (A.NVQ_q_SQ_LO q) + v.tail * 64) entry plainAttr)
    else { s with sram := Mem.writeN s.sram (0x2C90000 + q.val * 0x10000 + v.tail * 64) entry }
  let tail := (v.tail + 1) % (s.f (F.NVQ_q_CFG_QSIZE_M1 q) + 1)
  let s := s.modNvq q fun v =>
    { v with cmds := v.cmds ++ [{ cid := v.nextCid, stream := k, at_ := pos, data := data, frees := frees, unread := data.length }],
             tail := tail, nextCid := (v.nextCid + 1) % 65536 }
  (s.emit (.nvmeWrite q v.nextCid p.2 nlb fua)).emit (.doorbell (s.pair (A.NVQ_q_SQDB_LO q)) tail)

/-- Write as much of the current full stripe as its pair has room for, 128 KiB at most per command (R380). -/
def State.nvStripe (s : State) (k : Fin 64) : Nat → State
  | 0 => s
  | fuel + 1 =>
    let t := s.streams[k]
    let size := s.stripeOf k
    let n := min size 131072
    if t.prod < t.written / size * size + size || s.nvqRoom (s.logPlace k t.written).1 = 0 then s
    else
      let s := (s.nvIssue k t.written (t.log.take n) n).modStream k fun t =>
        { t with written := t.written + n, log := t.log.drop n, partly := 0 }
      if (t.written + n) % size = 0 then s else s.nvStripe k fuel

/-- STRIPE_WRITE (R380). -/
def execStripeWrite (k : Fin 64) (s : State) : Out3 :=
  .next (if s.on (F.STR_s_CFG_DEST k) && s.strState k != 0 then s.nvStripe k 8 else s)

/-- Write the whole LBAs that hold data not yet written, the last one filled with zeros, 128 KiB at most per command (R380).
They are written again with the full stripe, so nothing goes free. -/
def State.nvPartial (s : State) (k : Fin 64) : Nat → State
  | 0 => s
  | fuel + 1 =>
    let t := s.streams[k]
    let have_ := t.prod - t.written
    let q := (s.logPlace k t.written).1
    let lba := s.lbaSize q
    let from_ := t.partly / lba * lba
    let upto := min ((have_ + lba - 1) / lba * lba) (from_ + 131072)
    if have_ ≤ t.partly || s.nvqRoom q = 0 then s
    else
      let data := ((t.log.drop from_).take (upto - from_)) ++ List.replicate (upto - have_) 0
      ((s.nvIssue k (t.written + from_) data 0).modStream k fun t => { t with partly := min have_ upto }).nvPartial k fuel

/-- STRIPE_PARTIAL_TIMEOUT (R380): of a stripe that is partly filled. -/
def execStripePartialTimeout (k : Fin 64) (s : State) : Out3 :=
  let t := s.streams[k]
  .next (if !s.on (F.STR_s_CFG_DEST k) || s.strState k = 0 ||
      s.stripeOf k ≤ t.written % s.stripeOf k + (t.prod - t.written) then s
    else s.nvPartial k 8)

/-- Records that lie wholly within a command's bytes count as dropped when it fails (R381). -/
def lostRecs (l : List (Nat × Nat)) (a n : Nat) : Nat := (l.filter fun x => a ≤ x.1 && x.1 + x.2 ≤ a + n).length

/-- Forget the records of stream `k` that no outstanding command and no byte of staging belongs to. -/
def State.trimRecs (s : State) (k : Fin 64) : State :=
  let cmds := s.nvq.toList.flatMap fun v => v.cmds.filter fun c => c.stream = k.val
  let low := cmds.foldl (fun m c => min m c.at_) (s.streams[k]).written
  s.modStream k fun t => { t with recs := t.recs.filter fun x => decide (low < x.1 + x.2) }

/-- A command completes with an error (R381). -/
def State.nvError (s : State) (q : Fin 16) (c : NvCmd) (status : Nat) : State :=
  let k : Fin 64 := ⟨c.stream % 64, Nat.mod_lt _ (by decide)⟩
  let n := if c.frees = 0 then 0 else lostRecs (s.streams[k]).recs c.at_ c.data.length
  let s := (s.incSat (F.NVQ_q_STATUS_ERRS q)).setF (F.NVQ_q_TIMEOUT_LAST_SC q) status
  let s := s.raise 246
  if n = 0 then s else s.countDrop k n

/-- A completion entry (R381): checked against the commands outstanding; its head goes back through `CQDB_q`. -/
def State.nvComplete (s : State) (q : Fin 16) (cid status : Nat) : State :=
  let v := s.nvq[q]
  let size := s.f (F.NVQ_q_CFG_QSIZE_M1 q) + 1
  let head := (v.head + 1) % size
  let s := s.modNvq q fun v => { v with head := head, phase := if head = 0 then !v.phase else v.phase }
  let s := s.emit (.doorbell (s.pair (A.NVQ_q_CQDB_LO q)) head)
  match v.cmds.find? fun c => c.cid = cid with
  | none => s
  | some c =>
    let s := s.modNvq q fun v => { v with cmds := v.cmds.filter fun c => c.cid != cid }
    let s := if status = 0 then s else s.nvError q c status
    s.trimRecs ⟨c.stream % 64, Nat.mod_lt _ (by decide)⟩

/-- NVME_COMPLETION (R381). -/
def execNvmeCompletion (q : Fin 16) (cid : BitVec 16) (status : BitVec 15) (s : State) : Out3 :=
  .next (if s.on (F.NVQ_q_CFG_EN q) then s.nvComplete q cid.toNat status.toNat else s)

/-- Read the completion queue of pair `q` in SRAM while entries with the expected phase stand there (R378). -/
def State.nvPoll (s : State) (q : Fin 16) : Nat → State
  | 0 => s
  | fuel + 1 =>
    let v := s.nvq[q]
    let d := Mem.readLE s.sram (0x2D90000 + q.val * 0x4000 + v.head * 16 + 12) 4
    if d.testBit 16 = v.phase then (s.nvComplete q (d % 65536) (d / 2 ^ 17)).nvPoll q fuel else s

/-- The engine reads the completion queues of the enabled pairs (R378).  Entries of a queue in host memory come by
NVME_COMPLETION. -/
def State.nvPollAll (s : State) : State :=
  (List.finRange 16).foldl (fun (s : State) (q : Fin 16) =>
    if s.on (F.NVQ_q_CFG_EN q) && !s.on (F.NVQ_q_CFG_LOC q) then s.nvPoll q (s.f (F.NVQ_q_CFG_QSIZE_M1 q) + 1) else s) s

/-- NVQ_KICK (R378). -/
def execNvqKick (s : State) : Out3 := .next s.nvPollAll

/-- COMPLETION_POLL (R378). -/
def execCompletionPoll (s : State) : Out3 := .next s.nvPollAll

/-- Streams that use pair `q` stop (R366, R381). -/
def State.stopUsers (s : State) (q : Nat) : State :=
  (List.range 64).foldl (fun s k =>
    if s.strState k = 2 && s.on (F.STR_s_CFG_DEST k) && (s.f (F.STR_s_CFG_NVQ_MASK k)).testBit q then
      s.setF (F.STR_s_STATUS_STATE k) 3
    else s) s

/-- NVME_TIMEOUT (R381). -/
def execNvmeTimeout (q : Fin 16) (s : State) : Out3 :=
  .next (if (s.nvq[q]).cmds.isEmpty || s.f (F.NVQ_q_TIMEOUT_TIMEOUT_MS q) = 0 then s
    else ((s.setB (F.NVQ_q_CFG_FAILED q) true).raise 246).stopUsers q)

/-- Is pair `q` used by an admitted stream (R386)? -/
def State.pairUsed (s : State) (q : Nat) : Bool :=
  (List.range 64).any fun k => s.strState k != 0 && s.on (F.STR_s_CFG_DEST k) && (s.f (F.STR_s_CFG_NVQ_MASK k)).testBit q

/-- A write of a register of pair `q` (R386): discarded while an admitted stream uses the pair.  `EN` = 0 clears `FAILED`
(R381) and forgets the queues (log entry 20). -/
def State.nvqCfg (s : State) (q : Fin 16) (reg : NvqReg) (data : Nat) : State :=
  let w := BitVec.ofNat 32 data
  if s.pairUsed q then s
  else match reg with
    | .cfg =>
      let s := s.writeRW (A.NVQ_q_CFG q) w
      if w.getLsbD 0 then s else (s.setB (F.NVQ_q_CFG_FAILED q) false).modNvq q fun _ => Nvq.zero
    | .nsid => s.writeRW (A.NVQ_q_NSID q) w
    | .sq => s.writeRWPair (A.NVQ_q_SQ_LO q) data
    | .cq => s.writeRWPair (A.NVQ_q_CQ_LO q) data
    | .sqdb => s.writeRWPair (A.NVQ_q_SQDB_LO q) data
    | .cqdb => s.writeRWPair (A.NVQ_q_CQDB_LO q) data
    | .lba => s.writeRWPair (A.NVQ_q_LBA_LO q) data
    | .nlba => s.writeRWPair (A.NVQ_q_NLBA_LO q) data
    | .timeout => s.writeRW (A.NVQ_q_TIMEOUT q) w

/-- NVQ_CFG_WRITE (R386). -/
def execNvqCfgWrite (q : Fin 16) (reg : NvqReg) (data : BitVec 64) (s : State) : Out3 := .next (s.nvqCfg q reg data.toNat)

/-- BAR2 offset of stream staging (R24). -/
def stagingBase : Nat := 0x2280000

/-- Bytes at an offset of BAR4 (R352): staging, whose layout the spec does not give, below 6 MiB, and zero above. -/
def State.bar4Plain (s : State) (a n : Nat) : List Byte :=
  (List.range n).map fun i => if a + i < stagingBytes then s.bar2Byte (stagingBase + a + i) else 0

/-- A drive reads bytes of a command (R380): the command's staging goes free once every byte has been read. -/
def State.bar4Cmd (s : State) (q : Fin 16) (c : NvCmd) (off len : Nat) : State :=
  let d := (c.data.drop off).take len
  let left := c.unread - d.length
  let s := s.modNvq q fun v =>
    { v with cmds := v.cmds.map fun (x : NvCmd) => if x.cid = c.cid then { x with unread := left } else x }
  let s := if 0 < c.unread && left = 0 then
      s.modStream ⟨c.stream % 64, Nat.mod_lt _ (by decide)⟩ fun t => t.freeStaging c.frees
    else s
  s.emit (.bytes d)

/-- BAR4_READ (R352, R380). -/
def execBar4Read (what : Bar4Read) (s : State) : Out3 :=
  .next (match what with
    | .plain a n => s.emit (.bytes (s.bar4Plain a.toNat n))
    | .command q cid off len =>
      match (s.nvq[q]).cmds.find? fun c => c.cid = cid.toNat with
      | some c => s.bar4Cmd q c off len
      | none => let p := s.drawBytes len; p.2.emit (.bytes p.1))

end Sys2Proof.Machine
end

