-- ==== Sys2Proof/Machine/Panel.lean ====
section
/-! DEFINITION. The panel engine (R389 to R401): the link, frames, commits, views, pushes and stops. -/

namespace Sys2Proof.Machine
open Sys2Proof

/-- Change the panel engine. -/
def State.modPnl (s : State) (g : Pnl → Pnl) : State := ({ s with pnl := g s.pnl }).updLtr

/-- `PNL_STATUS.LINK`: 0 off, 1 starting, 2 up, 3 stopped. -/
def State.pnlLink (s : State) : Nat := s.f F.PNL_STATUS_LINK

/-! ### Packets (R390, R392) -/

/-- A DCS long packet: data type, then its bytes. -/
def State.dcsLong (s : State) (bs : List Byte) : State := s.emit (.dsi (0x39 :: bs))

/-- The two big-endian bytes of a DCS parameter (MIPI DCS; log entry 22). -/
def be16 (v : Nat) : List Byte := [BitVec.ofNat 8 (v / 256), BitVec.ofNat 8 v]

/-- The address commands of a rectangle (R390). -/
def State.dcsRect (s : State) (x0 x1 y0 y1 : Nat) : State :=
  (s.dcsLong ([0x2A] ++ be16 x0 ++ be16 x1)).dcsLong ([0x2B] ++ be16 y0 ++ be16 y1)

/-- One row of pixels; the first row of a rectangle starts the write, the others continue it (R390). -/
def State.dcsRow (s : State) (first : Bool) (px : List Byte) : State := s.dcsLong ((if first then 0x2C else 0x3C) :: px)

/-! ### Views -/

/-- Columns and rows of the display array of channel `ch`: the newest snapshot's, else those of the geometry in force. -/
def State.viewSize (s : State) (ch : Fin 2) : Nat × Nat :=
  match (s.glw.get ch).snap with
  | some p => (p.c, p.r)
  | none => (geomC (s.glw.get ch).geom, geomR (s.glw.get ch).geom)

/-- Every tile of a view is owed (R395). -/
def State.oweAll (s : State) (ch : Fin 2) : State := s.owe ch (tilesOf (s.viewSize ch).1 (s.viewSize ch).2)

/-- Every tile of both views is owed. -/
def State.oweBoth (s : State) : State := (s.oweAll 0).oweAll 1

/-- May tiles of view `ch` be sent: enabled, with a complete snapshot (R396)? -/
def State.viewSends (s : State) (ch : Fin 2) : Bool :=
  s.on (F.PNL_ACT_VIEW_n_EN ch) && s.on (F.GLW_n_STATUS_VALID ch)

/-- The owed tiles that a push at place `pos` still sends, as places (R396). -/
def State.toSend (s : State) (pos : Nat) : List Nat :=
  let of (ch : Fin 2) : List Nat := if s.viewSends ch then (s.pnl.owed.get ch).map (512 * ch.val + ·) else []
  (of 0 ++ of 1).filter fun p => decide (pos ≤ p)

/-- Send the pixels of a tile, cut at the panel's edge (R390, R396). -/
def State.tilePixels (s : State) (ch : Fin 2) (t : Nat) (p : Snap) : State :=
  let x0 := s.f (F.PNL_ACT_VIEW_n_X ch) + t % 32 * 64
  let y0 := s.f (F.PNL_ACT_VIEW_n_Y ch) + t / 32 * 64
  let w := min (x0 + 64) (s.f F.PNL_PANEL_WIDTH) - x0
  let h := min (y0 + 64) (s.f F.PNL_PANEL_HEIGHT) - y0
  if w = 0 || h = 0 then s
  else
    let a := s.glwBuf ch (if s.on (F.GLW_n_STATUS_NEWEST ch) then 1 else 0)
    let row (i : Nat) : List Byte := (List.range w).flatMap fun j =>
      colourOf p.lut (displayCell s.amem a p.w p.c (t / 32 * 64 + i) (t % 32 * 64 + j)) p.shift p.log
    let s0 := s.dcsRect x0 (x0 + w - 1) y0 (y0 + h - 1)
    (List.range h).foldl (fun s i => s.dcsRow (i = 0) (row i)) s0

/-! ### Stops and tile boundaries -/

/-- The link starts, with the settings of `PNL_LINK` and any pending spread (R391, R197). -/
def State.pnlStart (s : State) : State :=
  let locked := s.on F.CLK_STATUS_PANEL_LOCKED && s.pnl.linkRate = s.reg A.PNL_LINK
  let s := s.setF F.PNL_STATUS_LINK 1
  if locked then { s with clk := { s.clk with spreadPanel := s.reg A.CLK_SPREAD_PANEL &&& 0xFF#32 } }
  else (s.setB F.CLK_STATUS_PANEL_LOCKED false).modPnl fun p => { p with linkRate := s.reg A.PNL_LINK }

/-- The engine stops: lanes to LP-11, `LINK` as given, `PNL_STOPPED` (R399). -/
def State.pnlStop (s : State) (link : Nat) : State :=
  let s := (s.setF F.PNL_STATUS_LINK link).setB F.PNL_STATUS_PUSHING false
  (s.modPnl fun p => { p with push := false, hostRect := none, stopping := none }).raise 285

/-- Stop at the next tile boundary: now, when no push runs (R399).  A link that is off or stopped has nothing to stop, and
`EN` = 0 leaves it off. -/
def State.pnlHalt (s : State) (link : Nat) : State :=
  let link := if s.on F.PNL_CTRL_EN then link else 0
  if s.pnlLink = 0 then s
  else if s.pnlLink = 3 then s.setF F.PNL_STATUS_LINK link
  else if s.pnl.push then s.modPnl fun p => { p with stopping := some link }
  else s.pnlStop link

/-- A tile boundary: a command that waits is sent (R392), and a stop that waits takes effect (R399).  A link that was enabled
again in the meantime starts after it (R391). -/
def State.tileBoundary (s : State) : State :=
  let s := match s.pnl.dcs with
    | some d => ((s.emit (.dsi d)).modPnl fun p => { p with dcs := none }).setB F.PNL_STATUS_DCS_BUSY false
    | none => s
  match s.pnl.stopping with
  | some l =>
    let s := s.pnlStop l
    if l = 0 && s.on F.PNL_CTRL_EN then s.pnlStart else s
  | none => s

/-- A push has sent its last tile (R396). -/
def State.pushEnd (s : State) : State :=
  let s := (s.modPnl fun p => { p with push := false }).setB F.PNL_STATUS_PUSHING false
  let s := s.incWrap F.PNL_FRAMES_COUNT
  (if s.on F.PNL_CTRL_FRAME_EVT then s.raiseLimited 281 1000 else s).tileBoundary

/-- The tile at place `p` is sent: its owed bit clears with its last row. -/
def State.sendTile (s : State) (p : Nat) : State :=
  let ch : Fin 2 := if p < 512 then 0 else 1
  let t := p % 512
  let s := match (s.glw.get ch).snap with
    | some x => (s.tilePixels ch t x).emit (.tile ch t)
    | none => s
  let s := (s.setOwed ch ((s.pnl.owed.get ch).filter (· != t))).incPair A.PNL_TILES_LO
  (s.modPnl fun x => { x with pos := p + 1 }).tileBoundary

/-- The push goes on by one tile, once its host region is sent; without one left it ends. -/
def State.pushTile (s : State) : State :=
  if !s.pnl.push || s.pnl.hostRect.isSome then s
  else match s.toSend s.pnl.pos with
    | [] => s.pushEnd
    | p :: _ => s.sendTile p

/-- The push goes on to its end or to a stop. -/
def State.pushRest (s : State) : Nat → State
  | 0 => s
  | fuel + 1 => if s.pnl.push then s.pushTile.pushRest fuel else s

/-- PUSH_DONE (R396): the rest of the push is sent.  While a host region is still to be read, its end has not come. -/
def execPushDone (s : State) : Out3 := .next (if s.pnl.hostRect.isSome then s else s.pushRest 1025)

/-! ### Commits (R394) -/

/-- Rectangles (x, y, w, h) that share a pixel. -/
def rectsMeet (a b : Nat × Nat × Nat × Nat) : Bool :=
  decide (a.1 < b.1 + b.2.2.1) && decide (b.1 < a.1 + a.2.2.1) && decide (a.2.1 < b.2.1 + b.2.2.2) &&
  decide (b.2.1 < a.2.1 + a.2.2.2)

/-- Rectangle of the pending view `ch`. -/
def State.viewRect (s : State) (ch : Fin 2) : Nat × Nat × Nat × Nat :=
  (s.f (F.PNL_VIEW_n_X ch), s.f (F.PNL_VIEW_n_Y ch), geomC (s.glw.get ch).geom, geomR (s.glw.get ch).geom)

/-- The pending host rectangle. -/
def State.hostRectOf (s : State) : Nat × Nat × Nat × Nat :=
  (s.f F.PNL_HOST_RECT0_X, s.f F.PNL_HOST_RECT0_Y, s.f F.PNL_HOST_RECT1_W, s.f F.PNL_HOST_RECT1_H)

/-- Why a pending set is refused (R394), the lowest code first; 0 when it is taken. -/
def State.commitErr (s : State) (host : Bool) : Nat :=
  let w := s.f F.PNL_PANEL_WIDTH
  let h := s.f F.PNL_PANEL_HEIGHT
  let en (ch : Fin 2) : Bool := s.on (F.PNL_VIEW_n_EN ch)
  let out (ch : Fin 2) : Bool := en ch && (decide (w ≤ s.f (F.PNL_VIEW_n_X ch)) || decide (h ≤ s.f (F.PNL_VIEW_n_Y ch)))
  let r := s.hostRectOf
  if out 0 || out 1 then 1
  else if en 0 && en 1 && rectsMeet (s.viewRect 0) (s.viewRect 1) then 2
  else if host && (r.2.2.1 = 0 || r.2.2.2 = 0 || decide (w < r.1 + r.2.2.1) || decide (h < r.2.1 + r.2.2.2)) then 3
  else if host && ((en 0 && rectsMeet r (s.viewRect 0)) || (en 1 && rectsMeet r (s.viewRect 1))) then 4
  else if host && decide (s.f F.PNL_HOST_STRIDE_BYTES < 3 * r.2.2.1) then 5
  else 0

/-- A view's shadows come into force: a moved or newly enabled view owes all its tiles (R394). -/
def State.latchView (s : State) (ch : Fin 2) : State :=
  let old := s.reg (A.PNL_ACT_VIEW_n ch)
  let new := s.reg (A.PNL_VIEW_n ch)
  let s := s.setReg (A.PNL_ACT_VIEW_n ch) new
  if old.setWidth 24 != new.setWidth 24 || (new.getLsbD 24 && !old.getLsbD 24) then s.oweAll ch else s

/-- The latch: all of the pending set in force, or none of it. -/
def State.latch (s : State) (host : Bool) : State :=
  let e := s.commitErr host
  let s := (s.modPnl fun p => { p with pend := none }).setB F.PNL_STATUS_PENDING false
  if e != 0 then ((s.setB F.PNL_STATUS_COMMIT_ERR true).setF F.PNL_STATUS_ERR_CODE e).raise 282
  else
    let s := ((s.latchView 0).latchView 1).updLtr
    let r := s.hostRectOf
    if host then s.modPnl fun p =>
      { p with hostRect := some (r.1, r.2.1, r.2.2.1, r.2.2.2, s.pair A.PNL_HOST_ADDR_LO / 64 * 64, s.f F.PNL_HOST_STRIDE_BYTES),
               hostRow := 0 }
    else s

/-- A panel frame starts on a link that is up (R393, R394, R396). -/
def State.frameStart (s : State) : State :=
  if s.pnlLink != 2 then s
  else if s.pnl.push then (s.setB F.PNL_STATUS_OVERRUN true).raiseLimited 283 1000
  else
    let s := match s.pnl.pend with
      | some h => s.latch h
      | none => s
    if s.pnl.hostRect.isSome || !(s.toSend 0).isEmpty then
      (s.modPnl fun p => { p with push := true, pos := 0 }).setB F.PNL_STATUS_PUSHING true
    else s

/-- The frame period is measured from the second frame on. -/
def State.framePeriod (s : State) (us : Nat) : State :=
  let s := if s.pnl.lastFrame.isSome then s.setF F.PNL_TE_PERIOD_US us else s
  s.modPnl fun p => { p with lastFrame := some s.time.samples }

/-- Is the panel engine clocked and out of reset, so that it sees edges and its timer runs (R20, R428)? -/
def State.pnlRuns (s : State) : Bool := s.good.pclk && s.blockRuns 11

/-- TE_EDGE (R393). -/
def execTeEdge (us : BitVec 20) (s : State) : Out3 :=
  .next (if s.on F.PNL_CTRL_TE_EN && s.pnlRuns then ((s.setB F.PNL_STATUS_TE_OK true).framePeriod us.toNat).frameStart else s)

/-- FRAME_TIMER (R393): `us` since the last frame, the internal timer starts one when that is `PNL_FRAME_US`. -/
def execFrameTimer (us : BitVec 20) (s : State) : Out3 :=
  .next (if s.on F.PNL_CTRL_TE_EN || !s.pnlRuns || us.toNat != s.f F.PNL_FRAME_US_US then s
    else (s.framePeriod us.toNat).frameStart)

/-- TE_LOST (R393). -/
def execTeLost (s : State) : Out3 :=
  .next (if s.on F.PNL_CTRL_TE_EN && s.pnlRuns then (s.setB F.PNL_STATUS_TE_OK false).raise 284 else s)

/-- A write of `PNL_COMMIT.GO` (R394): the shadows are pending; a `HOST` asked for before the latch stays asked for. -/
def State.commitGo (s : State) (host : Bool) : State :=
  (s.modPnl fun p => { p with pend := some (host || p.pend.getD false) }).setB F.PNL_STATUS_PENDING true

/-- COMMIT_GO (R394). -/
def execCommitGo (s : State) : Out3 := .next (s.commitGo false)
/-- COMMIT_HOST (R394). -/
def execCommitHost (s : State) : Out3 := .next (s.commitGo true)

/-- HOST_ROW_READ (R397): a row of the host region is sent, or an error ends the region. -/
def execHostRowRead (data : Option (List (BitVec 8))) (s : State) : Out3 :=
  .next (match s.pnl.hostRect with
    | none => s
    | some (x, y, w, h, _, _) =>
      match data with
      | none => (((s.modPnl fun p => { p with hostRect := none }).setB F.PNL_STATUS_HOST_ERR true).raise 282).tileBoundary
      | some d =>
        let i := s.pnl.hostRow
        let s := if i = 0 then s.dcsRect x (x + w - 1) y (y + h - 1) else s
        let s := s.dcsRow (i = 0) (d.take (3 * w) ++ List.replicate (3 * w - d.length) 0)
        if i + 1 < h then s.modPnl fun p => { p with hostRow := i + 1 }
        else (s.modPnl fun p => { p with hostRect := none }).tileBoundary)

/-! ### The link (R391, R392, R399) -/

/-- A write of `PNL_CTRL` (R391, R395, R400).  In WATCH and lower power states the engine stays stopped (R399). -/
def State.pnlCtrl (s : State) (v : Word) : State :=
  let s := s.writeRW A.PNL_CTRL v
  let s := if !v.getLsbD 0 then s.pnlHalt 0
    else if s.pnlLink != 0 then s
    else if s.f F.PWR_STATUS_STATE = 0 then s.pnlStart
    else s.pnlStop 3
  if v.getLsbD 3 then s.oweBoth else s

/-- PANEL_ENABLE (R391). -/
def execPanelEnable (data : BitVec 32) (s : State) : Out3 := .next (s.pnlCtrl (data ||| 1))
/-- PANEL_DISABLE (R391). -/
def execPanelDisable (data : BitVec 32) (s : State) : Out3 := .next (s.pnlCtrl (data &&& 0xFFFFFFFE))
/-- FULL (R395). -/
def execFull (data : BitVec 32) (s : State) : Out3 := .next (s.pnlCtrl (data ||| 8))

/-- The panel synthesiser locks (R191 step 3, R391), with the spread that waits (R197). -/
def State.pnlLocked (s : State) : State :=
  if s.on F.CLK_STATUS_PANEL_LOCKED || !s.on F.CLK_SYS_CTRL_START || !s.on F.CLK_STATUS_REF_PRESENT || !s.good.tclk then s
  else
    let s := (s.setB F.CLK_STATUS_PANEL_LOCKED true).raise 35
    let s := s.modPnl fun p => { p with linkRate := s.reg A.PNL_LINK }
    { s with clk := { s.clk with spreadPanel := s.reg A.CLK_SPREAD_PANEL &&& 0xFF#32 } }

/-- PANEL_LINK_UP (R391): the synthesiser has locked and 100 µs of LP-11 have passed. -/
def execPanelLinkUp (s : State) : Out3 :=
  let s := if s.pnlLink = 1 then s.pnlLocked else s
  .next (if s.pnlLink != 1 || !s.on F.CLK_STATUS_PANEL_LOCKED then s
    else
      let s := if s.on F.PNL_CTRL_TE_ON_CMD then s.emit (.dsi [0x15, 0x35, 0x00]) else s
      let s := (s.setF F.PNL_STATUS_LINK 2).raise 280
      let s := if s.on (F.PNL_ACT_VIEW_n_EN 0) then s.oweAll 0 else s
      if s.on (F.PNL_ACT_VIEW_n_EN 1) then s.oweAll 1 else s)

/-- PANEL_CLK_LOSS (R199, R399): the detectors are disabled in the states that stop the panel (R429). -/
def execPanelClkLoss (s : State) : Out3 :=
  .next (if !s.on F.CLK_STATUS_PANEL_LOCKED || s.f F.PWR_STATUS_STATE != 0 then s
    else ((s.setB F.CLK_STATUS_PANEL_LOCKED false).raise 36).pnlHalt 3)

/-- A stopped link restarts with every tile owed (R399). -/
def State.pnlRestart (s : State) : State :=
  if s.pnlLink = 3 && s.on F.PNL_CTRL_EN then s.pnlStart.oweBoth else s

/-- PANEL_CLK_RELOCK (R399): the link restarts, in ACTIVE. -/
def execPanelClkRelock (s : State) : Out3 :=
  let s := s.pnlLocked
  .next (if s.f F.PWR_STATUS_STATE = 0 && s.on F.CLK_STATUS_PANEL_LOCKED then s.pnlRestart else s)

/-- A write of `PNL_LINK` or `PNL_PANEL` (R391, R400): discarded while the link is not off; a field out of its range keeps
its value. -/
def State.pnlCfg (s : State) (reg : PnlReg) (v : Word) : State :=
  let put (s : State) (x : Fld) (ok : Nat → Bool) : State :=
    let n := bitsOf v.toNat x.lo x.width
    if ok n then s.setF x n else s
  if s.pnlLink != 0 then s.setB F.PNL_STATUS_CFG_BUSY true
  else match reg with
    | .link => put (put s F.PNL_LINK_RATE fun n => 80 ≤ n && n ≤ 250) F.PNL_LINK_LANES fun n => n != 3
    | .panel => put (put s F.PNL_PANEL_WIDTH fun n => 64 ≤ n && n ≤ 2560) F.PNL_PANEL_HEIGHT fun n => 64 ≤ n && n ≤ 1600

/-- PANEL_CFG_WRITE (R391). -/
def execPanelCfgWrite (reg : PnlReg) (data : BitVec 32) (s : State) : Out3 := .next (s.pnlCfg reg data)

/-- The packet of a DCS or generic command of `n` bytes (R392); none for a length the spec does not allow. -/
def dcsPacket (generic : Bool) (bs : List Byte) : Option (List Byte) :=
  let n := bs.length
  if 16 < n then none
  else if generic then some ((if n = 0 then 0x03 else if n = 1 then 0x13 else if n = 2 then 0x23 else 0x29) :: bs)
  else if n = 0 then none
  else some ((if n = 1 then 0x05 else if n = 2 then 0x15 else 0x39) :: bs)

/-- A write of `PNL_DCS_CTRL` (R392).  A command of a length the spec does not allow is discarded like one that comes too
early (log entry 23). -/
def State.dcsCtrl (s : State) (v : Word) : State :=
  let s := s.writeRW A.PNL_DCS_CTRL v
  let data := (List.range 4).flatMap fun i => bytesOf 4 (s.reg (A.PNL_DCS_DATAi i)).toNat
  let len := bitsOf v.toNat 0 5
  if !v.getLsbD 6 then s
  else if s.on F.PNL_STATUS_DCS_BUSY || s.pnlLink != 2 || 16 < len then s.setB F.PNL_STATUS_DCS_DROP true
  else match dcsPacket (v.getLsbD 5) (data.take len) with
    | none => s.setB F.PNL_STATUS_DCS_DROP true
    | some d =>
      if s.pnl.push then (s.modPnl fun p => { p with dcs := some d }).setB F.PNL_STATUS_DCS_BUSY true else s.emit (.dsi d)

/-- DCS_SEND (R392). -/
def execDcsSend (data : BitVec 32) (s : State) : Out3 := .next (s.dcsCtrl (data ||| 0x40))

end Sys2Proof.Machine
end

