-- ==== Sys2Proof/Machine/Fog.lean ====
section
/-! DEFINITION. Entering Fog-signal mode (R438, R439), and what ends with it: cores, streams, DMA descriptors, an image
load, a self-test run (R466) and a patrol slice (R471). -/

namespace Sys2Proof.Machine
open Sys2Proof

/-- Change reset and power control. -/
def State.modRst (s : State) (g : Rst → Rst) : State := { s with rst := g s.rst }

/-- Change the life-cycle engine. -/
def State.modLcs (s : State) (g : Lcs → Lcs) : State := { s with lcs := g s.lcs }

/-- Change self-test. -/
def State.modBst (s : State) (g : Bst → Bst) : State := { s with bst := g s.bst }

/-- `PWR_STATUS.STATE`: 0 ACTIVE, 1 WATCH, 2 STANDBY, 3 SLEEP, 4 FOG. -/
def State.pwrState (s : State) : Nat := s.f F.PWR_STATUS_STATE

/-! ### Self-test -/

/-- Result of test `t` in `BST_RESULT`. -/
def bstRes (t : Nat) : Fld := ⟨A.BST_RESULT, 3 * t, 3⟩

/-- A self-test run ends (R465). -/
def State.bstEnd (s : State) : State :=
  let bad := s.bst.failed
  let s := ((s.modBst fun b => { b with todo := [], failed := false }).setB F.BST_STATUS_BUSY false).setB F.BST_STATUS_WHOLE false
  let s := s.raise 308
  if bad then s.raise 309 else s

/-- A run is cut short: every unfinished test is INCOMPLETE (R466). -/
def State.bstCut (s : State) : State :=
  if !s.on F.BST_STATUS_BUSY then s
  else
    let s := s.bst.todo.foldl (fun s t => s.setF (bstRes t) 3) s
    (s.modBst fun b => { b with failed := b.failed || !b.todo.isEmpty }).bstEnd

/-- A patrol slice is abandoned: INCOMPLETE, its contents restored (R471). -/
def State.patrolCut (s : State) : State :=
  if s.on F.BST_PATROL_STATUS_RUNNING then (s.setB F.BST_PATROL_STATUS_RUNNING false).setF (bstRes 5) 3 else s

/-! ### The parts of R438 -/

/-- A core halts at its next instruction boundary; a stall ends without effect. -/
def State.stopCore (s : State) (c : Fin 17) : State :=
  let s := s.modCore c fun k => { k with stall := none }
  if s.coreState c = 0 || s.coreState c = 2 then s else s.haltCore c

/-- The Keeper and every Beacon core halt (R88 step 1, R438 step 3). -/
def State.haltAll (s : State) : State :=
  (List.finRange 17).foldl (fun s c => s.stopCore c) (s.setB F.KPR_TL_STATUS_STALLED false)

/-- An image load ends with result `r` other than 1h (R458). -/
def State.loadFail (s : State) (r : Nat) : State :=
  let s := (s.setF F.LCS_LOAD_STATUS_RESULT r).setB F.LCS_LOAD_STATUS_BUSY false
  (s.modLcs fun l => { l with load := none }).raise 304

/-- Staging that the held records of a list occupy. -/
def State.heldStaging (s : State) (l : List Record) : Nat :=
  l.foldl (fun n r => if r.staged then n + min (occupied (s.payloadOf r).length (s.on F.STR_CTRL_PCRC)) 4096 else n) 0

/-- Stream `k` ends: records not yet released are discarded (R23). -/
def State.streamEnd (s : State) (k : Fin 64) : State :=
  let held := s.heldStaging (s.streams[k]).formed
  let s := s.modStream k fun t => { (t.freeStaging held) with formed := [], gather := ⟨[], []⟩, hist := [] }
  if 2 ≤ s.strState k then s.setF (F.STR_s_STATUS_STATE k) 1 else s

/-- Every stream ends. -/
def State.streamsEnd (s : State) : State := (List.finRange 64).foldl (fun s k => s.streamEnd k) s

/-- The active descriptor of a channel is forced to stop (R361, R438): how many of its bytes had moved is a free value, and
so are bytes that a host source had delivered. -/
def State.dmaForce (s : State) (c : Fin 32) : State :=
  match (s.dma[c]).active with
  | none => s
  | some d =>
    let p := s.draw 32
    let n := if s.dmaBad d then 0 else p.1.toNat % (d.count / 64 + 1) * 64
    let q := if d.srcSp = 0 then p.2.drawBytes n else ([], p.2)
    (((q.2.dmaMove d n q.1).dmaFinish c d 7 n true).dmaGoOn c 7).raise 19

/-- Acquisition memory enters self-refresh. -/
def State.memSleep (s : State) : State := if s.amcState = 1 || s.amcState = 2 then s.srEnter else s

/-- The panel stops at once. -/
def State.pnlDown (s : State) : State := if s.pnlLink = 0 || s.pnlLink = 3 then s else s.pnlStop 3

/-- Bit `b` of `PWR_FOG_CAUSE`. -/
def fogBit (b : Nat) : Fld := ⟨A.PWR_FOG_CAUSE, b, 1⟩

/-- The first step of R438. -/
def State.fogRecord (s : State) (b : Nat) : State :=
  let s := ((s.setB (fogBit b) true).setF F.PWR_STATUS_STATE 4).updFault
  let s := s.setReg A.PWR_FOG_OPSEC (BitVec.ofNat 32 s.opsec)
  (s.raise 16).logCount 5

/-- A transition in progress is abandoned (R431). -/
def State.transCut (s : State) : State :=
  ((s.modRst fun r => { r with trans := none }).setB F.PWR_STATUS_BUSY false).setB F.PWR_STATUS_DMA_WAIT false

/-- Enter Fog-signal mode with cause bit `b` (R438); a further cause only sets its bit (R439). -/
def State.fogEnter (s : State) (b : Nat) : State :=
  if s.pwrState = 4 then s.setB (fogBit b) true
  else
    let s := (s.wdtFold.fogRecord b).transCut
    let s := s.forceFast
    let s := s.haltAll
    let s := if s.on F.LCS_LOAD_STATUS_BUSY then s.loadFail 9 else s
    let s := s.streamsEnd
    let s := (List.finRange 32).foldl (fun s c => s.dmaForce c) s
    let s := s.memSleep.pnlDown
    s.bstCut.patrolCut

end Sys2Proof.Machine
end

