-- ==== Sys2Proof/Machine/Cal.lean ====
section
/-! DEFINITION. Converter calibration and trims (R166 to R185, unit 11). -/

namespace Sys2Proof.Machine
open Sys2Proof

/-- Change calibration of channel `n`. -/
def State.modCal (s : State) (n : Fin 2) (g : Cal → Cal) : State := { s with cal := s.cal.set n (g (s.cal.get n)) }

/-- The value of a two's complement field `w` bits wide. -/
def signed (v w : Nat) : Int := if v < 2 ^ (w - 1) then (v : Int) else (v : Int) - 2 ^ w

/-- Clamp to a two's complement field `w` bits wide. -/
def clampTo (x : Int) (w : Nat) : Int := max (-(2 ^ (w - 1) : Int)) (min x (2 ^ (w - 1) - 1))

/-- One field of a trim word (R166): OFFSET at 0, GAIN at 10, SKEW at 20. -/
def trimField (w : Word) (lo width : Nat) : Int := signed (bitsOf w.toNat lo width) width

/-- FUSE + BG + USER of one field, before the clamp. -/
def trimSum (a b c : Word) (lo width : Nat) : Int := trimField a lo width + trimField b lo width + trimField c lo width

/-- A trim word of three field values. -/
def packTrim (o g k : Int) : Word := BitVec.ofInt 12 k ++ BitVec.ofInt 10 g ++ BitVec.ofInt 10 o

/-- The trim in force (R166) and how many of its sums were clamped. -/
def trimInForce (fuse bg user : Word) : Word × Nat :=
  let o := trimSum fuse bg user 0 10
  let g := trimSum fuse bg user 10 10
  let k := trimSum fuse bg user 20 12
  (packTrim (clampTo o 10) (clampTo g 10) (clampTo k 12),
   bit (o != clampTo o 10) + bit (g != clampTo g 10) + bit (k != clampTo k 12))

/-- Raise event `i` `k` times. -/
def State.raiseN (s : State) (i : Nat) : Nat → State
  | 0 => s
  | k + 1 => (s.raise i).raiseN i k

/-- Put the trim of slice `sl` of channel `n` in force; a clamped sum sets `CLAMP` and raises `CAL_TRIM_CLAMP` (R166). -/
def State.putTrim (s : State) (n : Fin 2) (sl : Nat) : State :=
  let t := trimInForce (s.reg (A.CAL_n_s_FUSE n sl)) (s.reg (A.CAL_n_s_BG n sl)) (s.reg (A.CAL_n_USER n))
  let s := s.setReg (A.CAL_n_s_TRIM n sl) t.1
  if t.2 = 0 then s else (s.setB (F.CAL_n_STATUS_CLAMP n) true).raiseN 77 t.2

/-- Put the trims of the slices of a list in force. -/
def State.putTrims (s : State) (n : Fin 2) : List Nat → State
  | [] => s
  | x :: xs => (s.putTrim n x).putTrims n xs

/-- `MAPr` byte that shows the slice at position `p` (R184). -/
def mapFld (n p : Nat) : Fld := ⟨A.CAL_n_MAPr n (p / 4), p % 4 * 8, 5⟩

/-- The first lamp block start at or after sample `a`. -/
def blockUp (a : Nat) : Nat := (a + 63) / 64 * 64

/-- Period of the grid of channel `n` in samples (R170). -/
def State.calPeriod (s : State) (n : Fin 2) : Nat := s.f (F.CAL_n_SCHED_PERIOD n) * 4096

/-! ### Windows (R171, R172) -/

/-- A list of spans without the samples from `a` up to, not including, `b`. -/
def cutSpans (a b : Nat) (l : List (Nat × Nat)) : List (Nat × Nat) :=
  l.flatMap fun p => (if p.1 < min a p.2 then [(p.1, min a p.2)] else []) ++
    (if max b p.1 < p.2 then [(max b p.1, p.2)] else [])

/-- Samples from `a` up to, not including, `b` on which no mark with a flag of `f` lies. -/
def unmarked (l : List Mark) (f : BitVec 24) (a b : Nat) : Nat :=
  let spans := l.foldl (fun sp m => if (m.flags &&& f) != 0 then cutSpans m.first (m.end_.getD b) sp else sp) [(a, b)]
  (spans.map fun p => p.2 - p.1).foldl (· + ·) 0

/-- Did the reference or check window hold a frozen sample, or the shadow window too few included ones (R172, R173)? -/
def State.stepUnusable (s : State) (n : Fin 2) (checkEnd : Nat) : Bool :=
  let c := s.cal.get n
  let l := (s.lamp.get n).marks
  let refEnd := c.swapAt + 16000000
  let fz (a b : Nat) : Bool := decide (unmarked l Flag.frozen a b < b - a)
  fz c.swapAt refEnd || fz c.checkAt checkEnd ||
  decide (unmarked l (Flag.ovr ||| Flag.settle ||| Flag.clklost ||| Flag.frozen) refEnd c.checkAt < 28800000)

/-- The reference window of channel `n` ends (R171). -/
def execReferenceWindowEnd (n : Fin 2) (s : State) : Out3 :=
  .next (if s.f (F.CAL_n_STATUS_WINDOW n) = 0 then
      (s.advanceSamples ((s.cal.get n).swapAt + 16000000)).setF (F.CAL_n_STATUS_WINDOW n) 1
    else s)

/-- The check window begins 6,400,000 samples before the next grid point, or with no grid 44,800,000 samples after the
reference window began (R171). -/
def execCheckWindowStart (n : Fin 2) (s : State) : Out3 :=
  let c := s.cal.get n
  let at_ := match c.nextGrid with
    | some g => g - 6400000
    | none => c.swapAt + 44800000
  .next (if s.f (F.CAL_n_STATUS_WINDOW n) = 1 then
      ((s.advanceSamples at_).modCal n fun c => { c with checkAt := at_ }).setF (F.CAL_n_STATUS_WINDOW n) 2
    else s)

/-- The lowest reason for which R174 fails new BG values `bg` of slice `sl`, with the residuals of the verification;
0 when they pass. -/
def State.plausReason (s : State) (n : Fin 2) (sl : Nat) (bg : Word) (residOffset residGain : Nat) : Nat :=
  let old := s.reg (A.CAL_n_s_BG n sl)
  let far (lo w lim : Nat) : Bool := decide (lim < (trimField bg lo w - trimField old lo w).natAbs)
  if (trimInForce (s.reg (A.CAL_n_s_FUSE n sl)) bg (s.reg (A.CAL_n_USER n))).2 != 0 then 1
  else if far 0 10 32 || far 10 10 32 || far 20 12 100 then 2
  else if 16 < residOffset || 8 < residGain then 3
  else 0

/-- The check window of channel `n` ends (R171 to R174).  `bg` holds the new BG values, `lowsig` says that the mean power
was below −40 dBFS (the new SKEW then equals the old one), `residOffset` and `residGain` are the residuals of the
verification in steps. -/
def execCheckWindowEnd (n : Fin 2) (bg : BitVec 32) (lowsig : Bool) (residOffset residGain : Nat) (s : State) : Out3 :=
  let sl := s.f (F.CAL_n_STATUS_RELIEF n)
  .next (if s.f (F.CAL_n_STATUS_WINDOW n) != 2 then s
    else
      let e := (s.cal.get n).checkAt + 6400000
      let s := s.advanceSamples e
      let s := if (s.cal.get n).nextGrid.isNone then s.setF (F.CAL_n_STATUS_WINDOW n) 3 else s
      if (s.cal.get n).outcome != 0 then s
      else if s.stepUnusable n e || s.frozen n || s.slicesOff then s.modCal n fun c => { c with outcome := 1 }
      else
        let s := if lowsig then s.setB (F.CAL_n_STATUS_LOWSIG n) true else s
        let old := s.reg (A.CAL_n_s_BG n sl)
        let bg := if lowsig then old.extractLsb' 20 12 ++ bg.extractLsb' 0 20 else bg
        let r := s.plausReason n sl bg residOffset residGain
        if r = 0 then
          ((s.setReg (A.CAL_n_s_BG n sl) bg).modCal n fun c =>
            { c with outcome := 3, succ := c.succ.set! sl 0, oldBg := old }).putTrim n sl
        else
          let k := ((s.cal.get n).succ.toList.getD sl 0) + 1
          let s := s.modCal n fun c => { c with outcome := 2, succ := c.succ.set! sl k }
          let s := (s.setB (F.CAL_n_STATUS_PLAUS n) true).setF (F.CAL_n_PLAUS_SLICE n) sl
          let s := (s.setF (F.CAL_n_PLAUS_REASON n) r).setF (F.CAL_n_PLAUS_SUCC n) (min k 3)
          (s.incSat (F.CAL_n_PLAUS_COUNT n)).raise (70 + n))

/-! ### Swaps -/

/-- Perform the swap of channel `n` at sample `a` (R168, R169, R173): the relief slice takes its position; a step that was
not checked or not usable is partial.  A slice with three failures in succession is retired instead (R175). -/
def State.swap (s : State) (n : Fin 2) (a : Nat) : State :=
  let r := s.f (F.CAL_n_STATUS_RELIEF n)
  let c := s.cal.get n
  if s.on (F.CAL_n_STATUS_RETIRED n) then s
  else if 3 ≤ c.succ.toList.getD r 0 then
    (((s.setB (F.CAL_n_STATUS_RETIRED n) true).setF (F.CAL_n_STATUS_WINDOW n) 3).logCount 6).raise (72 + n)
  else
    let p := (s.reg (A.CAL_n_STEPS n)).toNat % 16
    let out := s.f (mapFld n p)
    let s := if c.outcome < 2 then
        ((s.setB (F.CAL_n_STATUS_PARTIAL n) true).incSat (F.CAL_n_COUNTS_PARTIAL n)).modCal n fun c =>
          { c with succ := c.succ.set! r 0 }
      else s
    let s := (s.setF (mapFld n p) r).setF (F.CAL_n_STATUS_RELIEF n) out
    let s := (s.incWrap (F.CAL_n_STEPS_STEP n)).setPair (A.CAL_n_LAST_SWAP_LO n) (s.labelOf a).toNat
    let s := (s.modCal n fun c => { c with swapAt := a, outcome := 0 }).setF (F.CAL_n_STATUS_WINDOW n) 0
    (s.addMark n a (some (a + 64)) Flag.calswap).raise (68 + n)

/-- Calibration stops with the slices (R178): what the present step measured or wrote counts for nothing, and the next swap is
partial. -/
def State.calPause (s : State) (n : Fin 2) : State :=
  let r := s.f (F.CAL_n_STATUS_RELIEF n)
  let c := s.cal.get n
  let s := if c.outcome = 3 then (s.setReg (A.CAL_n_s_BG n r) c.oldBg).putTrim n r else s
  s.modCal n fun c => { c with outcome := 1 }

/-- Is channel `n` frozen at sample `a` by the entries of the lamp-side store: does the last `FREEZE` entry up to its label say
so, or without one the freeze in force (R176)? -/
def State.frozenAt (s : State) (n : Fin 2) (a : Nat) : Bool :=
  let es := (s.tl.queues[(11 : Fin 15)]).filter fun e =>
    e.phase == .stored && !e.imm && e.sel = 0 && decide (e.opnd.toNat < 4) && decide (e.target.toNat ≤ (s.labelOf a).toNat)
  match es.getLast? with
  | some e => s.on (F.CAL_n_STATUS_FRZ_EP n) || e.opnd.getLsbD n
  | none => s.frozen n

/-- A swap falls due at sample `a`: performed, or deferred while the channel is frozen (R176); none while the slices do not convert
(R178, R429). -/
def State.swapDue (s : State) (n : Fin 2) (a : Nat) : State :=
  if s.on (F.CAL_n_STATUS_RETIRED n) || s.slicesOff then s
  else if s.frozenAt n a then (s.setB (F.CAL_n_STATUS_DEFER_PEND n) true).raise (74 + n)
  else s.swap n a

/-- A grid point of channel `n` is reached (R170); `arrived` says that the scheduled swap has reached the lamp
(R178). -/
def execSwapGridPoint (n : Fin 2) (arrived : Bool) (s : State) : Out3 :=
  .next (match (s.cal.get n).nextGrid with
    | none => s
    | some g =>
      let s := s.advanceSamples g
      let s := s.modCal n fun c => { c with nextGrid := some (g + s.calPeriod n) }
      if s.on (F.CAL_n_STATUS_RETIRED n) || s.slicesOff then s
      else if !arrived then (s.setB (F.CAL_n_STATUS_MISSED n) true).incSat (F.CAL_n_COUNTS_MISSED n)
      else s.swapDue n g)

/-- The deferred swap is performed at the first lamp block after the last frozen sample (R176). -/
def execDeferredSwapPerform (n : Fin 2) (s : State) : Out3 :=
  .next (if s.on (F.CAL_n_STATUS_DEFER_PEND n) && !s.frozen n && !s.slicesOff then
      let a := blockUp (s.cal.get n).thaw
      ((s.advanceSamples a).setB (F.CAL_n_STATUS_DEFER_PEND n) false).swap n a
    else s)

/-! ### Entries of unit 11 -/

/-- Record a refusal of unit 11 (R178). -/
def calRefuse (e : Entry) (reason : Nat) (s : State) : State :=
  ((s.setF F.CAL_REFUSE_SEL e.sel).setF F.CAL_REFUSE_REASON reason).raise 76

/-- Effect of a `FREEZE` entry (R176). -/
def freezeEff (at_ : Long) (e : Entry) (_ : List Byte) (s : State) : Except Nat State :=
  if e.opnd.toNat / 4 != 0 then .error 1
  else
    let a := s.sampleOf at_
    let s := s.setReg A.CAL_FREEZE e.opnd
    .ok ((s.setFrozen 0 (F.CAL_n_STATUS_FRZ_PRG 0) (e.opnd.getLsbD 0) a).setFrozen 1 (F.CAL_n_STATUS_FRZ_PRG 1)
      (e.opnd.getLsbD 1) a)

/-- FREEZE (R176). -/
def execFreeze (label : BitVec 64) (s : State) : Out3 :=
  .next (s.applyNext 11 (fun x => x = 0) label (freezeEff label) calRefuse)

/-- A user commit of channel `n` at sample `a` (R177): the trims of all slices change, `SETTLE` for 64 ticks. -/
def State.userCommit (s : State) (n : Fin 2) (a : Nat) : State :=
  ((s.setReg (A.CAL_n_USER n) (s.reg (A.CAL_n_USER_STAGE n))).putTrims n (List.range 17)).addMark n a (some (a + 64))
    Flag.settle

/-- Effect of a `ROTATE` entry (R177, R178): a swap comes at the first lamp block start, and a freeze that begins before it defers
it. -/
def rotateEff (at_ : Long) (e : Entry) (_ : List Byte) (s : State) : Except Nat State :=
  let b (i : Nat) : Bool := e.opnd.getLsbD i
  if bitsOf e.opnd.toNat 2 2 != 0 || e.opnd.toNat / 64 != 0 then .error 1
  else if (b 0 && s.on (F.CAL_n_STATUS_RETIRED 0)) || (b 1 && s.on (F.CAL_n_STATUS_RETIRED 1)) then .error 3
  else
    let a := s.sampleOf at_
    let s := if b 4 then s.userCommit 0 a else s
    let s := if b 5 then s.userCommit 1 a else s
    let s := if b 0 || b 1 then s.advanceSamples (blockUp a) else s
    let s := if b 0 then s.swapDue 0 (blockUp a) else s
    .ok (if b 1 then s.swapDue 1 (blockUp a) else s)

/-- ROTATE (R177). -/
def execRotate (label : BitVec 64) (s : State) : Out3 :=
  .next (s.applyNext 11 (fun x => x = 1) label (rotateEff label) calRefuse)

/-- Set the grid of channel `n` from origin `o` (R170). -/
def State.setGrid (s : State) (n : Fin 2) (period o : Nat) : State :=
  (s.setF (F.CAL_n_SCHED_PERIOD n) period).modCal n fun c =>
    { c with nextGrid := if period = 0 then none else some (o + period * 4096) }

/-- Effect of a `SWAP_SCHED` entry (R170, R178). -/
def swapSchedEff (at_ : Long) (e : Entry) (_ : List Byte) (s : State) : Except Nat State :=
  let v := e.opnd.toNat
  let p := v % 2 ^ 20
  if v / 2 ^ 22 != 0 then .error 1
  else if 1 ≤ p && p ≤ 12499 then .error 2
  else if bitsOf v 20 2 = 0 then .error 4
  else
    let o := blockUp (s.sampleOf at_)
    let s := s.setReg A.CAL_SWAP_SCHED e.opnd
    let s := if e.opnd.getLsbD 20 then s.setGrid 0 p o else s
    .ok (if e.opnd.getLsbD 21 then s.setGrid 1 p o else s)

/-- SWAP_SCHED (R170). -/
def execSwapSched (label : BitVec 64) (s : State) : Out3 :=
  .next (s.applyNext 11 (fun x => x = 2) label (swapSchedEff label) calRefuse)

/-! ### Trim loading -/

/-- What a trim load leaves of channel `n`'s registers: the staged user value and the causes of a freeze. -/
def State.trimKeep (s old : State) (n : Fin 2) : State :=
  ((s.setReg (A.CAL_n_USER_STAGE n) (old.reg (A.CAL_n_USER_STAGE n))).setB (F.CAL_n_STATUS_FRZ_EP n)
    (old.on (F.CAL_n_STATUS_FRZ_EP n))).setB (F.CAL_n_STATUS_FRZ_PRG n) (old.on (F.CAL_n_STATUS_FRZ_PRG n))

/-- `TRIM_PENDING` on every sample from now on, until a set is applied. -/
def State.trimPend (s : State) : State :=
  let a := s.time.samples
  ((s.endMark 0 a Flag.trimPending).endMark 1 a Flag.trimPending).addMark 0 a none Flag.trimPending |>.addMark 1 a none
    Flag.trimPending

/-- A trim load starts (R179 step 1, R180): mid-scale trims, `TRIM_PENDING` on every sample. -/
def State.trimLoadStart (s : State) : State :=
  let fails := s.f F.CAL_STATUS_CRC_FAILS
  let t := ((s.resetRange A.CAL_STATUS (A.CAL_n_s_TRIM 2 0)).setF F.CAL_STATUS_CRC_FAILS fails).setF F.CAL_STATUS_TRIM_STATE 1
  let s := (t.trimKeep s 0).trimKeep s 1
  { s with cal := ⟨Cal.zero, Cal.zero⟩, trims := ⟨none, none, 0⟩ }.trimPend

/-- A reset of any kind restarts a load in progress (R180). -/
def State.trimRestart (s : State) : State := if s.f F.CAL_STATUS_TRIM_STATE = 1 then s.trimLoadStart else s

/-- The words of a list of bytes. -/
def wordsOf : Nat → List Byte → List Word
  | 0, _ => []
  | n + 1, bs => BitVec.ofNat 32 (ofBytes (bs.take 4)) :: wordsOf n (bs.drop 4)

/-- The factory set as read from OTP, 144 bytes: header, 34 trim words, CRC-32C (R179, R180).  After the third failure the part is
in Fog-signal mode and reads no more. -/
def execFactoryTrimReadDone (data : List (BitVec 8)) (s : State) : Out3 :=
  .next (if s.f F.CAL_STATUS_TRIM_STATE != 1 || s.trims.factory.isSome || s.f F.CAL_STATUS_CRC_FAILS = 3 then s
    else if data.length = 144 && (crc32c (data.take 140)).toNat = ofBytes (data.drop 140) then
      match wordsOf 35 data with
      | h :: ws => { s.setF F.CAL_STATUS_CRC_FAILS 0 with trims := { s.trims with factory := some (h, ws) } }
      | [] => s
    else
      let s := s.setF F.CAL_STATUS_CRC_FAILS (min 3 (s.f F.CAL_STATUS_CRC_FAILS + 1))
      let s := s.raise 65
      if s.f F.CAL_STATUS_CRC_FAILS = 3 then (s.raise 66).fogEnter 4 else s)

/-- The user-trim block as read from flash, 64 bytes, or none with `BOOT_SRC` = 01b or no block named (R179, R181, R455):
a bad block is read again, up to 3 times in all. -/
def execUserTrimReadDone (data : Option (List (BitVec 8))) (s : State) : Out3 :=
  .next (if s.f F.CAL_STATUS_TRIM_STATE != 1 || s.trims.factory.isNone || s.trims.user.isSome then s
    else
      match (if s.f F.RST_STRAPS_BOOT_USED = 1 then none else data) with
      | none => { s with trims := { s.trims with user := some none } }
      | some d =>
        if d.length = 64 && ofBytes (d.take 4) = 0x5452494D && (crc32c (d.take 60)).toNat = ofBytes (d.drop 60) then
          let a : Word := BitVec.ofNat 32 (ofBytes ((d.drop 4).take 4))
          let b : Word := BitVec.ofNat 32 (ofBytes ((d.drop 8).take 4))
          { s with trims := { s.trims with user := some (some (a, b)) } }
        else if s.trims.tries < 2 then { s with trims := { s.trims with tries := s.trims.tries + 1 } }
        else
          (({ s with trims := { s.trims with tries := 3, user := some none } }).setB F.CAL_STATUS_USER_BAD true).raise 67)

/-- Put one channel's set in force at sample `a` (R168, R170, R179). -/
def State.applySet (s : State) (n : Fin 2) (fuse : List Word) (user : Word) (a : Nat) : State :=
  let s := s.setReg (A.CAL_n_USER n) user
  let s := (List.range 17).foldl (fun s i =>
    (s.setReg (A.CAL_n_s_FUSE n i) (fuse.getD i 0)).setReg (A.CAL_n_s_BG n i) 0) s
  let s := s.putTrims n (List.range 17)
  let s := (List.range 16).foldl (fun s p => s.setF (mapFld n p) p) s
  let s := (s.setF (F.CAL_n_STATUS_RELIEF n) 16).setReg (A.CAL_n_STEPS n) 0
  let s := ((s.setB (F.CAL_n_STATUS_RETIRED n) false).setB (F.CAL_n_STATUS_DEFER_PEND n) false).setReg (A.CAL_n_PLAUS n) 0
  let s := s.setF (F.CAL_n_STATUS_WINDOW n) 0
  let s := s.modCal n fun _ => { Cal.zero with swapAt := a }
  (s.setGrid n 15625 a).endMark n a Flag.trimPending

/-- The complete set is applied at the lamp block that starts at or after `label` (R179 steps 4 and 5); the return lanes bring it
(R213 phase 4). -/
def execTrimSetApplied (label : BitVec 64) (s : State) : Out3 :=
  .next (match s.trims.factory, s.trims.user with
    | some (h, ws), some u =>
      if s.f F.CAL_STATUS_TRIM_STATE != 1 || !s.on F.TTH_STATUS_RET_UP then s
      else
        let s := s.advanceTo label
        let a := blockUp (s.sampleOf label)
        let s := s.advanceSamples a
        let us := u.getD (0, 0)
        let s := (s.applySet 0 (ws.take 17) us.1 a).applySet 1 (ws.drop 17) us.2 a
        let s := (s.setF F.CAL_STATUS_TRIM_STATE (if u.isSome then 3 else 2)).setF F.CAL_STATUS_FUSE_REV h.toNat
        ({ s with trims := ⟨none, none, 0⟩ }).raise 64
    | _, _ => s)

end Sys2Proof.Machine
end

