-- ==== Sys2Proof/Machine/Clk.lean ====
section
/-! DEFINITION. Clock synthesis and references (R22, R186 to R202). -/

namespace Sys2Proof.Machine
open Sys2Proof

/-- Change the clock unit. -/
def State.modClk (s : State) (g : Clk → Clk) : State := { s with clk := g s.clk }

/-- A setting is rejected (R191, R192, R197). -/
def State.cfgErr (s : State) (code : Nat) : State := (s.setF F.CLK_CFG_ERR_CODE code).raise 30

/-- State of the sample synthesiser (R201): 0 off, 1 acquiring at start, 2 locked, 3 holdover, 4 relocking, 5 waiting for
REFIN. -/
def State.scState (s : State) : Nat := s.f F.CLK_SC_STATUS_STATE

/-- What `LOCK_A` does in a state of the sample clock (R198). -/
def lockPin (mode state : Nat) : LockPin :=
  if state = 2 then (if mode = 2 then .released else .pulses) else .low

/-- Enter a state of the sample synthesiser; `LOCK_A` follows it (R198, R201). -/
def State.setSc (s : State) (n : Nat) : State :=
  let s := s.setF F.CLK_SC_STATUS_STATE n
  let p := lockPin (s.f F.CLK_STATUS_MODE) n
  if s.pins.lockA = p then s else ({ s with pins := { s.pins with lockA := p } }).emit (.lockA p)

/-- A domain's clock-good signal (R20, R22). -/
def Good.set (g : Good) (d : Domain) (b : Bool) : Good :=
  match d with
  | .sclk => { g with sclk := b }
  | .tclk => { g with tclk := b }
  | .kclk => { g with kclk := b }
  | .mclk => { g with mclk := b }
  | .hclk => { g with hclk := b }
  | .pclk => { g with pclk := b }
  | .aclk => { g with aclk := b }

/-- Is the clock of domain `d` locked (R22), so that 4,096 stable cycles can follow?  Those that REFIN feeds never lock before
REFIN has been present (R187); HCLK needs the PCIe core of release step 4, and ACLK once lost needs a power-on reset (R199). -/
def State.domainLocked (s : State) (d : Domain) : Bool :=
  match d with
  | .sclk => s.scState = 2 || s.scState = 3
  | .tclk | .kclk => s.on F.CLK_STATUS_ON_BACKUP || s.on F.CLK_STATUS_TOWER_LOCKED
  | .mclk => s.on F.CLK_STATUS_MEM_LOCKED
  | .hclk => s.rst.steps.contains 4
  | .pclk => s.on F.CLK_STATUS_PANEL_LOCKED
  | .aclk => s.on F.CLK_STATUS_ACLK_OK && !s.pins.por

/-- The clock of domain `d` becomes good and the domain's reset is released (R22). -/
def execDomainClockGood (d : Domain) (s : State) : Out3 :=
  .next (if !s.domainLocked d then s
    else
      let s := { s with good := s.good.set d true }
      match d with
      | .hclk => s.setB F.CLK_STATUS_HCLK_OK true
      | _ => s)

/-! ### The settings of the sample clock -/

/-- The settings the registers hold. -/
def State.scSettings (s : State) : ScSettings :=
  { rdiv := s.f F.CLK_SC_RDIV_RDIV, nint := s.f F.CLK_SC_NINT_NINT, num := (s.reg A.CLK_SC_NUM).toNat,
    den := (s.reg A.CLK_SC_DEN).toNat, exact := s.on F.CLK_SC_CTRL_EXACT, m := s.f F.CLK_SC_MDLL_M }

/-- The first failing check of R192 in its order, 0 when all pass; `sclkIn` says that `SCLK_IN` is present and measured in
14–17.5 GHz. -/
def scCheck (mode ref : Nat) (c : ScSettings) (sclkIn : Bool) : Nat :=
  let den := if c.exact then c.den else 2 ^ 32
  if mode = 1 then
    if c.m < 8 || 64 < c.m then 6
    else if c.m * ref < 14 * 10 ^ 9 || 175 * 10 ^ 8 < c.m * ref then 3
    else 0
  else if mode = 2 then (if sclkIn then 0 else 8)
  else if c.rdiv = 0 || ref < 10000000 * c.rdiv || 250000000 * c.rdiv < ref then 2
  else if c.nint < 32 || 2047 < c.nint then 4
  else if c.exact && (c.den < 2 || c.den ≤ c.num) then 5
  else
    let top := ref * (c.nint * den + c.num)
    let bot := c.rdiv * den
    if top < 14 * 10 ^ 9 * bot || 175 * 10 ^ 8 * bot < top then 3 else 0

/-- The settings `c` against the checks of R192. -/
def State.scCheckNow (s : State) (c : ScSettings) : Nat :=
  scCheck (s.f F.CLK_STATUS_MODE) (s.reg A.CLK_REF_NOM).toNat c s.pins.sclkIn

/-- The held settings go to the lamp and the synthesiser acquires (R191, R196). -/
def State.scSend (s : State) : State :=
  (s.modClk fun c => { c with sent := c.held, held := none, acquire := .start }).setSc 1

/-- Step 4 of R191, once REFIN is present and step 3 is done: the settings of a start are checked again (R192).  In mode 10b
nothing but `SCLK_IN` has to be waited for. -/
def State.scStart (s : State) : State :=
  if !(s.on F.CLK_STATUS_REF_PRESENT && s.on F.CLK_STATUS_TOWER_LOCKED) then s
  else if s.f F.CLK_STATUS_MODE = 2 then
    if s.scState != 0 then s
    else if s.pins.sclkIn then (s.modClk fun c => { c with acquire := .start }).setSc 1
    else s.cfgErr 8
  else match s.clk.held with
    | some (c, _) =>
      if s.clk.acquire != .start then s
      else
        let e := s.scCheckNow c
        if e != 0 then ((s.modClk fun k => { k with held := none, acquire := .none_ }).setSc 0).cfgErr e else s.scSend
    | none => s

/-! ### REFIN -/

/-- REFIN becomes absent (R189, R23, R55): running synthesisers enter holdover, an acquisition waits for REFIN. -/
def State.refAbsent (s : State) : State :=
  let s := ((s.setB F.CLK_STATUS_REF_PRESENT false).setB F.CLK_REF_STATUS_ABSENT_SEEN true).raise 24
  let s := if s.pins.syncOut then (s.setSyncOut false).rangeBit 6 else s
  let s := s.setB F.SEC_RANGE_PHASE_VALID false
  let s := s.modClk fun c =>
    { c with absent := { first := s.time.samples, end_ := none, flags := Flag.refAbsent } :: c.absent }
  let s := s.modClk fun c =>
    { c with holdTower := s.on F.CLK_STATUS_TOWER_LOCKED, holdMem := s.on F.CLK_STATUS_MEM_LOCKED,
             holdPanel := s.on F.CLK_STATUS_PANEL_LOCKED, holdBackup := s.good.tclk }
  if s.f F.CLK_STATUS_MODE = 2 then s
  else if s.scState = 2 then ((s.setSc 3).setB F.CLK_STATUS_SC_HOLDOVER true).raise 29
  else if s.scState = 1 || s.scState = 4 || s.clk.held.isSome then s.setSc 5
  else s

/-- REFIN is present again (R190, R191, R196): a held `APPLY` of a running clock is sent while the pull-in of its holdover goes
on, an acquisition that waited goes on, and a start makes step 4. -/
def State.refBack (s : State) : State :=
  let s := (s.setB F.CLK_STATUS_REF_PRESENT true).raise 25
  let s := s.modClk fun c => { c with absent := c.absent.map fun m =>
    if m.end_.isNone then { m with end_ := some s.time.samples } else m }
  let running := if s.on F.CLK_STATUS_SC_HOLDOVER then 3 else 4
  if s.f F.CLK_STATUS_MODE = 2 then s.scStart
  else match s.clk.held with
    | some x =>
      if s.clk.acquire = .start then (s.setSc 0).scStart
      else (s.modClk fun c => { c with held := none, sent := some x }).setSc running
    | none => if s.scState = 5 then s.setSc (if s.clk.acquire = .start then 1 else running) else s

/-- What is seen of `SCLK_IN` (R192); in mode 10b a clock that was missing when step 4 was due starts when it is there
(R191). -/
def State.seeSclkIn (s : State) (b : Bool) : State :=
  let new := b && !s.pins.sclkIn
  let s := { s with pins := { s.pins with sclkIn := b } }
  if new && s.f F.CLK_STATUS_MODE = 2 then s.scStart else s

/-- A 10 µs presence window ends (R188): `edges` counted, the swing held at 100 mV, the frequency measured in kHz; `SCLK_IN` is
looked at with it. -/
def execRefinWindowEnd (edges : Nat) (seen : ClockInputs) (khz : Nat) (s : State) : Out3 :=
  let s := s.seeSclkIn seen.sclkIn
  let range := decide (9500 ≤ khz) && decide (khz ≤ 525000)
  let good := decide (64 ≤ edges) && seen.swing && range
  let s := (s.setF F.CLK_REF_STATUS_FREQ khz).setB F.CLK_REF_STATUS_RANGE_ERR (!range)
  let s := if range then s else s.raise 26
  let run := if good then min 4 (s.clk.goodRun + 1) else 0
  let s := s.modClk fun c => { c with goodRun := run }
  .next (if !good && s.on F.CLK_STATUS_REF_PRESENT then s.refAbsent
    else if run = 4 && !s.on F.CLK_STATUS_REF_PRESENT then s.refBack
    else s)

/-- A synthesiser in holdover completes its pull-in (R190). -/
def execHoldoverLock (y : Synth) (s : State) : Out3 :=
  .next (if !s.on F.CLK_STATUS_REF_PRESENT then s
    else
      match y with
      | .sample =>
        if s.scState = 3 then (s.setSc 2).setB F.CLK_STATUS_SC_HOLDOVER false else s
      | .tower => s.modClk fun c => { c with holdTower := false }
      | .memory => s.modClk fun c => { c with holdMem := false }
      | .panel => s.modClk fun c => { c with holdPanel := false }
      | .backup => s.modClk fun c => { c with holdBackup := false })

/-! ### Starting -/

/-- The backup clock locks to REFIN; TCLK and KCLK run from it until the tower synthesiser locks (R191 step 1). -/
def execBackupClockLock (s : State) : Out3 :=
  .next (if !s.on F.CLK_STATUS_REF_PRESENT then s
    else (s.modClk fun c => { c with holdBackup := false }).setB F.CLK_STATUS_ON_BACKUP (!s.on F.CLK_STATUS_TOWER_LOCKED))

/-- A write of 1 to `CLK_SYS_CTRL.START` (R191). -/
def execClkStart (s : State) : Out3 :=
  let hz := (s.reg A.CLK_REF_NOM).toNat
  .next (if hz < 10000000 || 500000000 < hz then s.cfgErr 1 else s.setB F.CLK_SYS_CTRL_START true)

/-- Step 3 of R191 can be made, for the tower synthesiser: `START` is set, REFIN present, step 2 done, and no cause of the tower
holds Fog-signal mode (R199). -/
def State.towerMayLock (s : State) : Bool :=
  s.on F.CLK_SYS_CTRL_START && s.on F.CLK_STATUS_REF_PRESENT && s.good.tclk && s.good.kclk &&
  !s.on F.CLK_STATUS_TOWER_LOCKED && !s.on ⟨A.PWR_FOG_CAUSE, 0, 1⟩

/-- The tower synthesiser locks, with the spread written (R197): TCLK switches to it, and a start that waited goes on. -/
def State.towerLock (s : State) : State :=
  if !s.towerMayLock then s
  else
    let s := ((s.setB F.CLK_STATUS_TOWER_LOCKED true).setB F.CLK_STATUS_ON_BACKUP false).raise 31
    (s.modClk fun c => { c with spreadTower := s.reg A.CLK_SPREAD_TOWER &&& 0xFF#32 }).scStart

/-- TOWER_SYNTH_LOCK (R191 step 3): not in STANDBY or SLEEP, which stop the synthesiser (R429). -/
def execTowerSynthLock (s : State) : Out3 := .next (if s.pwrState = 2 || s.pwrState = 3 then s else s.towerLock)

/-- A write to `CLK_REF_NOM` (R191): discarded after `START`. -/
def State.refNom (s : State) (v : Word) : State :=
  if s.on F.CLK_SYS_CTRL_START then s.cfgErr 7 else s.setReg A.CLK_REF_NOM v

/-- REF_NOM_WRITE (R191). -/
def execRefNomWrite (data : BitVec 32) (s : State) : Out3 := .next (s.refNom data)

/-! ### The sample clock -/

/-- A write of 1 to `CLK_SC_CTRL.APPLY` (R192, R196); mode 10b takes the programmed rate at once.  An `APPLY` of a clock that has
not yet locked since its reset is a start, which waits for REFIN and for step 3 of R191 (log entry 128). -/
def State.scApply (s : State) (sclkIn : Bool) : State :=
  let s := { s with pins := { s.pins with sclkIn := sclkIn } }
  let c := s.scSettings
  let e := s.scCheckNow c
  let rate := s.pair A.CLK_SC_RATE_LO
  if e != 0 then s.cfgErr e
  else if s.f F.CLK_STATUS_MODE = 2 then (s.modClk fun k => { k with rate := rate }).scStart
  else
    let starting := s.scState = 0 || s.clk.acquire = .start
    let held := s.modClk fun k => { k with held := some (c, rate), acquire := if starting then .start else k.acquire }
    if !s.on F.CLK_STATUS_REF_PRESENT then held.setSc 5
    else if !starting then s.modClk fun k => { k with sent := some (c, rate) }
    else if s.scState = 1 then held.scSend
    else held.scStart

/-- SC_APPLY (R196). -/
def execScApply (sclkIn : Bool) (s : State) : Out3 := .next (s.scApply sclkIn)

/-- Does a `CLKLOST` interval run (R196, R200)? -/
def State.inClkLost (s : State) : Bool :=
  (s.lamp.get 0).marks.any fun m => m.flags = Flag.clklost && m.end_.isNone

/-- `CLKLOST` on both channels from sample `a` on, `TIMELINE_SUSPECT` on records, and `CLK_SC_LOST` at the first marked
block of the interval (R196, R200, R48). -/
def State.clkLostFrom (s : State) (a : Nat) : State :=
  let s := s.setB F.STR_ANCHOR_STATUS_SUSPECT true
  if s.inClkLost then s
  else
    let s := (s.addMark 0 a none Flag.clklost).addMark 1 a none Flag.clklost
    s.setPair A.CLK_SC_LOST_LO (s.labelOf a).toNat

/-- The settings have arrived: at the first lamp block start the synthesiser reloads (R196); no samples run at a start. -/
def execScRetune (label : BitVec 64) (s : State) : Out3 :=
  .next (match s.clk.sent with
    | none => s
    | some (c, r) =>
      let load (k : Clk) : Clk := { k with set_ := c, sent := none, reload := some r }
      if s.clk.acquire = .start then s.modClk load
      else
        let s := s.advanceTo label
        let a := blockUp (s.sampleOf label)
        let s := ((s.advanceSamples a).clkLostFrom a).modClk fun k => { load k with acquire := .apply }
        ((s.setSc 4).setB F.CLK_STATUS_SC_LOCKED false).setB F.CLK_STATUS_SC_HOLDOVER false)

/-- Can the acquisition lock: in mode 10b `SCLK_IN` is valid (R199), at a start the settings have arrived. -/
def State.scMayLock (s : State) : Bool :=
  (s.scState = 1 || s.scState = 4) &&
  (if s.f F.CLK_STATUS_MODE = 2 then s.pins.sclkIn else s.clk.acquire != .start || s.clk.reload.isSome)

/-- The sample clock is good (R191 step 4, R196, R200): `CLKLOST` ends at the first lamp block start, the programmed rate
is the one sent. -/
def execScLock (label : BitVec 64) (s : State) : Out3 :=
  .next (if !s.scMayLock then s
    else
      let s := s.advanceTo label
      let a := blockUp (s.sampleOf label)
      let s := s.advanceSamples a
      let s := (s.endMark 0 a Flag.clklost).endMark 1 a Flag.clklost
      let s := if s.clk.acquire = .loss then s.incSat F.CLK_SC_STATUS_RELOCKS else s
      let s := s.modClk fun k => { k with rate := k.reload.getD k.rate, reload := none, acquire := .none_ }
      let s := { s with good := { s.good with sclk := true } }
      ((s.setSc 2).setB F.CLK_STATUS_SC_LOCKED true).raise 27)

/-- Sample-clock loss is declared at the sample labelled `t` (R200): every lamp block that holds a tick at or after
t − 64,000 is marked.  A synthesiser that acquires at start goes on acquiring (R192). -/
def State.scLoss (s : State) (t : Long) : State :=
  if s.scState = 0 then s
  else
    let s := s.advanceTo t
    let a := (s.sampleOf t - 64000) / 64 * 64
    let first := !s.inClkLost
    let s := s.clkLostFrom a
    let s := if first then (s.modClk fun k => { k with acquire := if k.acquire = .start then .start else .loss }).raise 28 else s
    let s := s.setSc
      (if s.on F.CLK_STATUS_REF_PRESENT || s.f F.CLK_STATUS_MODE = 2 then (if s.scState = 1 then 1 else 4) else 5)
    (s.setB F.CLK_STATUS_SC_LOCKED false).setB F.CLK_STATUS_SC_HOLDOVER false

/-- `SCLK_IN` fails in mode 10b and the internal VCO takes over (R195, R199). -/
def State.sclkInFail (s : State) (t : Long) : State :=
  if s.f F.CLK_STATUS_MODE = 2 then ({ s with pins := { s.pins with sclkIn := false } }).scLoss t else s

/-- SC_LOSS (R200): in mode 10b the detectors are those of `SCLK_IN`. -/
def execScLoss (label : BitVec 64) (s : State) : Out3 :=
  .next (if s.f F.CLK_STATUS_MODE = 2 then s.sclkInFail label else s.scLoss label)

/-- SCLK_IN_LOSS (R195, R199). -/
def execSclkInLoss (label : BitVec 64) (s : State) : Out3 := .next (s.sclkInFail label)

/-! ### The system clocks -/

/-- The tower synthesiser loses lock (R199): TCLK runs from the backup clock and Fog-signal mode is entered. -/
def execTowerClkLoss (s : State) : Out3 :=
  .next (if s.on F.CLK_STATUS_TOWER_LOCKED then
      (((s.setB F.CLK_STATUS_TOWER_LOCKED false).setB F.CLK_STATUS_ON_BACKUP true).raise 32).fogEnter 0
    else s)

/-- ACLK is out of range, as a counter in the TCLK domain sees (R199): no event, `FAULT_N` asserted. -/
def execAclkLoss (s : State) : Out3 :=
  .next (if !s.good.tclk then s
    else (({ s with good := { s.good with aclk := false } }).setB F.CLK_STATUS_ACLK_OK false).updFault)

/-- The register of a spread setting. -/
def spreadReg : Spread → Nat
  | .tower => A.CLK_SPREAD_TOWER
  | .panel => A.CLK_SPREAD_PANEL
  | .memory => A.CLK_SPREAD_MEM

/-- Is a spread value inside its ranges (R197)? -/
def spreadOk (y : Spread) (v : Nat) : Bool :=
  match y with
  | .memory => v % 4 ≤ 1 && bitsOf v 2 4 ≤ 6
  | _ => v % 4 ≤ 2 && bitsOf v 2 4 ≤ 10

/-- A write to a spread register (R197): discarded whole out of range; memory holds it pending. -/
def State.spreadWrite (s : State) (y : Spread) (v : Word) : State :=
  if !spreadOk y v.toNat then s.cfgErr 9
  else
    match y with
    | .memory => s.setReg A.CLK_SPREAD_MEM ((v &&& 0xFF#32) ||| 0x100#32)
    | _ => s.setReg (spreadReg y) (v &&& 0xFF#32)

/-- SPREAD_WRITE (R197). -/
def execSpreadWrite (y : Spread) (data : BitVec 32) (s : State) : Out3 := .next (s.spreadWrite y data)

/-- The written spread setting takes effect at a minimum of the triangle of a running synthesiser (R197).  The memory
synthesiser takes its value only where it starts (`State.memSpread`), as the others do as well. -/
def execSpreadChange (y : Spread) (s : State) : Out3 :=
  let v := s.reg (spreadReg y) &&& 0xFF#32
  .next (match y with
    | .tower => if s.on F.CLK_STATUS_TOWER_LOCKED then s.modClk fun c => { c with spreadTower := v } else s
    | .panel => if s.on F.CLK_STATUS_PANEL_LOCKED then s.modClk fun c => { c with spreadPanel := v } else s
    | .memory => s)

end Sys2Proof.Machine
end

