-- ==== Sys2Proof/Machine/Kpr.lean ====
section
/-! DEFINITION. The Keeper's run controls (R89), traps (R83), watchdog (R84), restart (R85) and mailbox (R86). -/

namespace Sys2Proof.Machine
open Sys2Proof

/-- The Keeper starts at `pc` with `cst.CAUSE` = `cause`, or halts there while `KPR_CTRL.HALT` is set (R58, R85, R88); a vector
that it may not fetch traps (R101). -/
def State.startKeeper (s : State) (cause : Nat) (pc : Word) : State :=
  let s := (s.modCore keeperNo fun k => k.fresh 16 cause pc).setF F.KPR_STATUS_CAUSE cause
  if s.on F.KPR_CTRL_HALT then (s.setF F.KPR_STATUS_STATE 2).setReg A.KPR_PC pc
  else
    let s := s.setF F.KPR_STATUS_STATE 1
    if fetchOk keeperNo pc then s else s.keeperTrap .fetch pc

/-- A write of 1 to `KPR_CTRL.HALT` (R89): a timeline stall ends without queuing (R139). -/
def State.kprHalt (s : State) : State :=
  let s := s.setB F.KPR_CTRL_HALT true
  if s.f F.KPR_STATUS_STATE != 1 then s
  else ((s.modCore keeperNo fun k => { k with stall := none }).setB F.KPR_TL_STATUS_STALLED false).haltCore keeperNo

/-- KPR_HALT (R89). -/
def execKprHalt (s : State) : Out3 := .next s.kprHalt

/-- A write of 1 to `KPR_CTRL.RESUME` (R89). -/
def State.kprResume (s : State) : State :=
  let s := s.setB F.KPR_CTRL_HALT false
  if s.f F.KPR_STATUS_STATE = 2 then s.setF F.KPR_STATUS_STATE 1 else s

/-- KPR_RESUME (R89). -/
def execKprResume (s : State) : Out3 := .next s.kprResume

/-- KPR_RESTART (R85): a restart with `cst.CAUSE` 2h. -/
def execKprRestart (s : State) : Out3 := .next (s.keeperRestart 2)

/-- SHA3-256 of Keeper memory below `KPR_CODE_END` (R85, R460). -/
def State.codeDigest (s : State) : List Byte := sha3 (Mem.readN s.sram 0x2200000 (s.f F.KPR_CODE_END_END))

/-- KEEPER_RESTART_DONE (R85 steps 3 and 4). -/
def execKeeperRestartDone (s : State) : Out3 :=
  .next (if s.f F.KPR_STATUS_STATE != 3 then s
    else if digest s.codeDigest = s.keeper.codeHash then
      let s := (s.setB F.KPR_STATUS_CODE_OK true).incSat F.KPR_STATUS_RESTARTS
      (s.startKeeper s.keeper.cause (s.cores[keeperNo]).restartPc).raise 177
    else ((s.setB F.KPR_STATUS_CODE_OK false).setF F.KPR_STATUS_STATE 2).fogEnter 3)

/-- A trap of R83 by its code; a TL trap keeps the reason that `KPR_TL_STATUS.ERR` shows. -/
def State.trapOfCode (s : State) (code : Nat) : Option CoreFault :=
  match code with
  | 1 => some .illegal | 2 => some .daddr | 3 => some .align | 4 => some .wprot | 6 => some .brk
  | 8 => some (.tl (s.f F.KPR_TL_STATUS_ERR)) | _ => none

/-- KEEPER_TRAP (R83): only a running Keeper traps. -/
def execKeeperTrap (code : BitVec 4) (addr : BitVec 32) (s : State) : Out3 :=
  .next (match s.trapOfCode code.toNat with
    | none => s
    | some w => if s.f F.KPR_STATUS_STATE = 1 then s.keeperTrap w addr else s)

/-! ### Watchdog -/

/-- KPR_WDT_EXPIRE (R84). -/
def execKprWdtExpire (s : State) : Out3 :=
  .next (if !s.wdtRuns then s
    else
      let s := ((s.wdtReload).setB F.RST_CAUSE_WDT true).raise 11
      (s.raise 178).keeperRestart 3)

/-- Is a period in the range of R84? -/
def wdtOk (p : Nat) : Bool := decide (10 ≤ p) && decide (p ≤ 1000000)

/-- A write of `KPR_WDT_CTRL` (R84): a `PERIOD` out of range leaves the field, and `EN` is judged with the period that
results. -/
def State.wdtCtrl (s : State) (v : Word) : State :=
  if s.on F.KPR_WDT_CTRL_EN then s
  else
    let n := bitsOf v.toNat 1 20
    let p := if wdtOk n then n else s.f F.KPR_WDT_CTRL_PERIOD
    if !v.getLsbD 0 then s.setF F.KPR_WDT_CTRL_PERIOD p
    else if wdtOk p then ((s.setF F.KPR_WDT_CTRL_PERIOD p).setB F.KPR_WDT_CTRL_EN true).wdtReload
    else s

/-- WDT_CTRL_WRITE (R84). -/
def execWdtCtrlWrite (data : BitVec 32) (s : State) : Out3 := .next (s.wdtCtrl data)

/-- A write of `KPR_WDT_KICK` (R84).  While `EN` = 0 there is no count to reload, and `KPR_WDT_LEFT` stays as it is; so at a
Keeper restart (DESIGN CHOICE, log entry 123). -/
def State.wdtKick (s : State) (v : Word) : State :=
  if bitsOf v.toNat 0 16 = 0x5A5A && s.on F.KPR_WDT_CTRL_EN then s.wdtReload else s

/-- WDT_KICK (R84). -/
def execWdtKick (data : BitVec 32) (s : State) : Out3 := .next (s.wdtKick data)

/-! ### Mailbox -/

/-- MBOX_DB_RING (R86). -/
def execMboxDbRing (s : State) : Out3 := .next (s.modKeeper fun k => { k with mbox := true })

/-- A write of `KPR_MBOX_OUT7` by the Keeper (R86). -/
def State.mboxOut7 (s : State) (v : Word) : State := (s.setReg (A.KPR_MBOX_OUTi 7) v).raise 179

/-- MBOX_OUT7_WRITE (R86). -/
def execMboxOut7Write (data : BitVec 32) (s : State) : Out3 := .next (s.mboxOut7 data)

end Sys2Proof.Machine
end

