-- ==== Sys2Proof/Machine/Interval.lean ====
section
/-! DEFINITION. The commands of the interval unit, unit 8 (R289 to R305): stamps and their calibration, the gate, and its timeline
entries. -/

namespace Sys2Proof.Machine
open Sys2Proof

/-! ### Conversion (R292 to R294) -/

/-- u(c) of the two-period calibration, as numerator and denominator (R292). -/
def IvCal.u (k : IvCal) (c : Nat) : Int × Nat :=
  let d := k.c2 - k.c1
  (16384 * d + 16384 * (4 * c - k.c1 : Int), d)

/-- u_cd(c) (R293). -/
def cdU (hits : List Nat) (c : Nat) : Int × Nat :=
  (16384 * 128 + (2 * (hits.take c).foldl (· + ·) 0 + hits.getD c 0 : Nat), 128)

/-- u of code `c` on the interpolator in service.  One without the calibration it would use gives a free value between one
and two SCLK periods. -/
def State.convert (s : State) (ch : IvCh) (c : Nat) : (Int × Nat) × State :=
  let cal := match ch.service.cal with
    | some k => if k.c1 < k.c2 then some (k.u c) else none
    | none => none
  let tab := ch.service.table.map fun h => cdU h c
  match (if ch.cd then tab else cal) with
  | some u => (u, s)
  | none =>
    let (v, s) := s.draw 14
    ((16384 + v.toNat, 1), s)

/-- The stamp of an edge in 1/1,024 sample: nearest, ties toward +∞ (R290). -/
def stampOf (stop : Nat) (u : Int × Nat) : Nat := (roundUp (1024 * stop * u.2 - u.1) u.2).toNat

/-! ### Edges (R289, R290, R296) -/

/-- An edge in the dead time is lost (R289). -/
def State.edgeLost (s : State) (c : Fin 3) (stamp : Nat) : State :=
  let s := ((s.incSat (F.IVU_CH_n_LOST_COUNT c)).setB F.IVU_STATUS_LOST_SEEN true).raiseLimited 160 1000
  s.holdEdge stamp 2 (.edgeLost c stamp)

/-- An edge is stamped (R290): it counts, its channel is dead for a while, a rising edge of C0 or C1 is a Sector event, and it goes
on to the measurements, which take edges in stamp order. -/
def State.edgeStamp (s : State) (c : Fin 3) (rising : Bool) (stop stamp : Nat) : State :=
  let cd := (s.ivu.chans[c]).cd
  let s := s.modIvCh c fun k => { k with dead := stamp + (if c = 2 then 2 else 4) * 16 * 1024 }
  let s := s.incPair (A.IVU_CH_n_EDGES_LO c)
  let n := stamp / 1024
  let absent := s.clk.absent.any fun m => m.touches n (n + 1)
  let s := if c = 2 then s.modIvu fun u => { u with refs := (stamp :: u.refs).take 64 }
    else if rising then s.secEvent (32 + c.val) n (stamp % 1024) (flagIf absent Flag.refAbsent) else s
  s.holdEdge stamp (2 + edgeSource c rising) (.edge c (edgeSource c rising) stop stamp cd)

/-- TRIG_IN_EDGE (R289, R290).  Channel C2 stamps rising edges alone; before `READY` no edge is stamped. -/
def execTrigInEdge (c : Fin 3) (rising : Bool) (stop code : Nat) (s : State) : Out3 :=
  .next (if !s.ivuRuns || !s.on F.IVU_STATUS_READY || (c = 2 && !rising) then s
    else
      let r := s.convert s.ivu.chans[c] code
      let stamp := stampOf stop r.1
      let s := r.2.advanceSamples (stamp / 1024)
      (if stamp < (s.ivu.chans[c]).dead then s.edgeLost c stamp else s.edgeStamp c rising stop stamp).run 0)

/-- COARSE_OVERFLOW (R296): the coarse count of the open measurement reaches 2^32. -/
def execCoarseOverflow (s : State) : Out3 :=
  .next (match s.ivu.meas with
    | none => s
    | some m =>
      let n := m.stop + 16 * 2 ^ 32
      let s := s.advanceSamples n
      if s.ivu.meas.any fun x => x.stop = m.stop then ((s.setB F.IVU_STATUS_OVF_SEEN true).raise 161).ivuEnd 1 n else s)

/-- GATE_OPEN (R297). -/
def execGateOpen (label : BitVec 64) (s : State) : Out3 :=
  let s := s.advanceTo label
  .next ((s.gateSet (s.sampleOf label) true).run 0)

/-- GATE_CLOSE (R296). -/
def execGateClose (label : BitVec 64) (s : State) : Out3 :=
  let s := s.advanceTo label
  .next ((s.gateSet (s.sampleOf label) false).run 0)

/-! ### Calibration (R291 to R294) -/

/-- Spread of a set of codes. -/
def spread (l : List Nat) : Nat := l.foldl max 0 - l.foldl min (l.headD 0)

/-- The reason for which a two-period calibration fails (R292); 0 when it passes. -/
def calFault (d0 : Nat) (one two : List Nat) : Nat :=
  let c1 := one.foldl (· + ·) 0
  let c2 := two.foldl (· + ·) 0
  let d := c2 - c1
  if 4 < spread one || 4 < spread two then 1
  else if c1 < 64 || 5052 < c2 then 2
  else if d = 0 || decide (4 * d0 < 3 * d) || decide (5 * d < 4 * d0) then 3
  else 0

/-- TWO_PERIOD_CALIBRATION (R292): it runs only while REFIN is present. -/
def execTwoPeriodCalibration (c : Fin 3) (one two : List Nat) (s : State) : Out3 :=
  .next (if !s.ivuRuns || !s.on F.CLK_STATUS_REF_PRESENT || one.length != 4 || two.length != 4 then s
    else
      let r := (s.ivu.chans[c]).relief
      let d0 := r.gain.getD (Config.ivuFactory r.id)
      let why := calFault d0 one two
      if why = 0 then
        s.modIvCh c fun k =>
          { k with relief := { k.relief with cal := some ⟨one.foldl (· + ·) 0, two.foldl (· + ·) 0⟩, passed := true, fresh := true,
                                             gain := some (two.foldl (· + ·) 0 - one.foldl (· + ·) 0) } }
      else
        let s := s.modIvCh c fun k => { k with relief := { k.relief with passed := false } }
        ((s.incSat (F.IVU_CH_n_CALFAIL_COUNT c)).setF (F.IVU_CH_n_CALFAIL_REASON c) why).raiseLimited 157 1000)

/-- Has channel `c` a code-density table? -/
def IvCh.hasTable (k : IvCh) : Bool := k.service.table.isSome || k.relief.table.isSome

/-- CODE_DENSITY_TABLE (R293): 2^20 hits make a table. -/
def execCodeDensityTable (c : Fin 3) (hits : List Nat) (s : State) : Out3 :=
  .next (if !s.ivuRuns || hits.foldl (· + ·) 0 != 2 ^ 20 then s
    else
      let s := s.modIvCh c fun k => { k with relief := { k.relief with table := some hits, fresh := true } }
      if s.ivu.chans.all IvCh.hasTable && !s.on F.IVU_STATUS_READY then (s.setB F.IVU_STATUS_READY true).raise 163 else s)

/-- Show the calibration of the interpolator in service (R304): g and z in 1/1,024 unit. -/
def State.showCal (s : State) (c : Fin 3) : State :=
  let k := s.ivu.chans[c]
  let s := s.setB (F.IVU_CH_n_CAL_CD c) k.cd
  let s := s.setB ⟨F.IVU_STATUS_CD.addr, 3 + c, 1⟩ k.cd
  match k.service.cal with
  | none => s
  | some x =>
    let d := x.c2 - x.c1
    let s := s.setF (F.IVU_CH_n_CAL_GAIN c) (roundUp (16384 * 4 * 1024) d).toNat
    s.setReg (A.IVU_CH_n_ZERO c) (BitVec.ofInt 32 (roundUp ((16384 * d - 16384 * x.c1 : Int) * 1024) d))

/-- ROLE_CHANGE (R291, R294): the relief interpolator with a new calibration goes into service, and the method of
conversion is chosen. -/
def execRoleChange (c : Fin 3) (s : State) : Out3 :=
  let s := s.ivuFlush (1024 * s.time.samples)
  let k := s.ivu.chans[c]
  .next (if !s.ivuRuns || !k.relief.fresh || k.usedOpen || decide (1024 * s.time.samples < k.dead) then s
    else
      let only := (s.reg A.IVU_CAL_CTRL).getLsbD 0
      let cd := !(k.relief.passed && !only && s.on F.CLK_STATUS_REF_PRESENT)
      let s := s.modIvCh c fun k =>
        { k with service := { k.relief with fresh := false }, relief := k.service, cd := cd, cdOnly := only }
      let s := s.showCal c
      if cd = k.cd then s else s.raise (if cd then 158 else 159))

/-! ### Entries (R295, R298) -/

/-- The next entry of unit 8, of selector `sel`, reaches its element, the edge labelled `label`; the edges stamped before it come
first.  While a measurement is open there the entry waits for its end (R298). -/
def State.ivuEntry (s : State) (sel : Nat) (label : Long) : State :=
  let s := s.advanceTo label
  let s := s.ivuFlush (1024 * s.sampleOf label)
  if s.ivu.meas.isSome then s.modIvu fun u => { u with waits := u.waits ++ [(sel, label)] } else s.ivuApply sel label

/-- START_SRC (R295). -/
def execStartSrc (label : BitVec 64) (s : State) : Out3 := .next (s.ivuEntry 0 label)
/-- STOP_MASK (R295). -/
def execStopMask (label : BitVec 64) (s : State) : Out3 := .next (s.ivuEntry 1 label)
/-- GATE_CTRL (R297). -/
def execGateCtrl (label : BitVec 64) (s : State) : Out3 := .next (s.ivuEntry 2 label)
/-- STAT_N (R299). -/
def execStatN (label : BitVec 64) (s : State) : Out3 := .next (s.ivuEntry 3 label)
/-- CAL_CTRL (R294). -/
def execCalCtrl (label : BitVec 64) (s : State) : Out3 := .next (s.ivuEntry 4 label)

end Sys2Proof.Machine
end

