-- ==== Sys2Proof/Machine/Evt.lean ====
section
/-! DEFINITION. DEV and EVT (R477 to R486): software events, GPIO, counters, pending bits and MSI-X. -/

namespace Sys2Proof.Machine
open Sys2Proof

/-- SW_EVENT (R479): software events of a list of bits. -/
def State.swEvents (s : State) (mask : Nat) : List Nat → State
  | [] => s
  | k :: ks => (if mask.testBit k then s.raise k else s).swEvents mask ks

/-- SW_EVENT (R479). -/
def execSwEvent (mask : BitVec 4) (s : State) : Out3 := .next (s.swEvents mask.toNat [0, 1, 2, 3])

/-- GPIO_EDGE (R477, R479). -/
def execGpioEdge (pin : Fin 16) (s : State) : Out3 :=
  .next (if (s.reg A.DEV_GPIO_EDGE_EN).getLsbD pin then (s.setB ⟨A.DEV_GPIO_EDGE_SRC, pin, 1⟩ true).raise 4 else s)

/-- EVENT_OCCURRENCE (R481). -/
def execEventOccurrence (i : Fin 314) (s : State) : Out3 := .next (s.raise i)

/-- Does EVT drive a pin (R485), and the level it gives it: any routed source pending, or a pulse in progress. -/
def State.evtLevel (s : State) (pin : Nat) : Bool :=
  if s.f (gpioMode pin) = 1 then
    (List.range 314).any fun i => s.on (evtPend i) && s.on (F.EVT_ROUTE_i_GPIO_EN i) && s.f (F.EVT_ROUTE_i_GPIO i) = pin
  else s.evt.gpioPulse.getLsbD pin

/-- The level the part drives on a pin; none where it drives none (R477, R485). -/
def State.gpioLevel (s : State) (pin : Nat) : Option Bool :=
  if s.f (gpioMode pin) != 0 then some (s.evtLevel pin)
  else if (s.reg A.DEV_GPIO_OE).getLsbD pin then some ((s.reg A.DEV_GPIO_OUT).getLsbD pin)
  else none

/-- A W1C write of a pending word (R484). -/
def State.pendClear (s : State) (w : Nat) (data : Word) : State :=
  (s.setReg (A.EVT_PEND_w w) (s.reg (A.EVT_PEND_w w) &&& ~~~data)).updEvtFault

/-- PEND_CLEAR (R484). -/
def execPendClear (w : Fin 10) (data : BitVec 32) (s : State) : Out3 := .next (s.pendClear w data)

/-- Clear the counter and the saturation bit of source `i` (R482). -/
def State.cntClear (s : State) (i : Nat) : State := (s.setF (F.EVT_CNT_i_COUNT i) 0).setB (evtSat i) false

/-- CNT_CLEAR (R482). -/
def execCntClear (i : Fin 314) (s : State) : Out3 := .next (s.cntClear i)

/-- A write of 1 to `EVT_CTRL.CLR_CNT` (R482). -/
def State.clrCnt (s : State) : State :=
  (List.range 314).foldl (fun s i => s.setF (F.EVT_CNT_i_COUNT i) 0)
    ((List.range 10).foldl (fun s w => s.setReg (A.EVT_SAT_w w) 0) s)

/-- CLR_CNT (R482). -/
def execClrCnt (s : State) : Out3 := .next s.clrCnt

/-- MIN_GAP_EXPIRY (R483): the deferred message is sent, or held under the masks. -/
def execMinGapExpiry (v : Fin 64) (s : State) : Out3 :=
  .next (if s.on (F.EVT_VEC_v_DEFERRED v) then (s.setB (F.EVT_VEC_v_DEFERRED v) false).msixSend v else s)

/-- A held message of vector `v` goes once no mask stops it; inside the minimum gap it is deferred (R483). -/
def State.msixRelease (s : State) (v : Nat) : State := if s.on (pbaBit v) then s.trigger v else s

/-- MSIX_UNMASK (R483). -/
def execMsixUnmask (v : Fin 64) (s : State) : Out3 := .next ((s.setB (F.MSIX_v_CTRL_MASK v) false).msixRelease v)

/-- Has vector `v` a routed source pending? -/
def State.vecPending (s : State) (v : Nat) : Bool :=
  (List.range 314).any fun i => s.on (F.EVT_ROUTE_i_MSIX_EN i) && s.f (F.EVT_ROUTE_i_VECTOR i) = v && s.on (evtPend i)

/-- MSIX_ENABLE (R483): at the change of MSI-X Enable to 1 the vectors with a routed pending source count as triggered; at
the end of the Function Mask held messages go. -/
def execMsixEnable (enable funcMask : Bool) (s : State) : Out3 :=
  let was := s.evt.msixEnable
  let s := { s with evt := { s.evt with msixEnable := enable, funcMask := funcMask } }
  .next ((List.range 64).foldl (fun s v =>
    if !was && enable && s.vecPending v then s.trigger v
    else if enable && !funcMask then s.msixRelease v
    else s) s)

/-- GPIO_PULSE_END (R485). -/
def execGpioPulseEnd (pin : Fin 16) (s : State) : Out3 :=
  .next { s with evt := { s.evt with gpioPulse := s.evt.gpioPulse &&& ~~~(1#16 <<< pin.val) } }

end Sys2Proof.Machine
end

