-- ==== Sys2Proof/Machine/Gauge.lean ====
section
/-! DEFINITION. The Gauge monitor, unit 12 (R402 to R409). -/

namespace Sys2Proof.Machine
open Sys2Proof

/-- Change the Gauge; `GGE_STATUS` follows. -/
def State.modGge (s : State) (g : Gge → Gge) : State :=
  let s := { s with gge := g s.gge }
  let s := s.setB F.GGE_STATUS_URGENT (match s.gge.cur with
    | some c => c.urgent
    | none => false)
  let s := s.setB F.GGE_STATUS_SCANNING (s.reg A.GGE_SCAN_MASK != 0)
  s.setF F.GGE_STATUS_QUEUED s.gge.queue.length

/-- The scan mask in force. -/
def State.scanMask (s : State) : Nat := (s.reg A.GGE_SCAN_MASK).toNat

/-- The enabled input above `last`, wrapping to the lowest one (R403). -/
def nextScan (mask last : Nat) : Option (Fin 32) :=
  let on := (List.finRange 32).filter fun i => mask.testBit i.val
  match on.find? fun i => decide (last < i.val) with
  | some i => some i
  | none => on.head?

/-- Does the test converter drive input `i` (R408)? -/
def State.testOn (s : State) (i : Fin 32) : Bool := s.on F.GGE_TEST_CTRL_EN && s.f F.GGE_TEST_CTRL_INPUT = i.val

/-- The converter starts input `i`. -/
def State.ggeConvert (s : State) (i : Fin 32) (urgent keep : Bool) : State :=
  let t := s.testOn i
  s.modGge fun g => { g with cur := some { input := i, urgent := urgent, test := t, stale := false, keep := keep } }

/-- Start the next urgent request, if one waits. -/
def State.ggeUrgent (s : State) : State :=
  match s.gge.queue with
  | [] => s
  | i :: q => (s.modGge fun g => { g with queue := q }).ggeConvert i true false

/-- The next scan conversion: the aborted input again, else the next of the scan (R403, R404).  After four urgent
conversions no request aborts it. -/
def State.ggeScan (s : State) : State :=
  let keep := decide (4 ≤ s.gge.inRow)
  match s.gge.aborted with
  | some i => (s.modGge fun g => { g with aborted := none }).ggeConvert i false keep
  | none =>
    match nextScan s.scanMask (if s.gge.last = 32 then 31 else s.gge.last) with
    | some i => s.ggeConvert i false keep
    | none => s

/-- Does the converter start conversions: not while ACLK is lost (R23) or the block stands in its reset machine (R427)? -/
def State.ggeRuns (s : State) : Bool := s.on F.CLK_STATUS_ACLK_OK && s.blockRuns 12

/-- An idle converter starts its next conversion (R404). -/
def State.ggeStart (s : State) : State :=
  if s.gge.cur.isSome || !s.ggeRuns then s
  else if !s.gge.queue.isEmpty && decide (s.gge.inRow < 4) then s.ggeUrgent
  else
    let s := s.ggeScan
    if s.gge.cur.isSome then s else s.ggeUrgent

/-! ### Latches (R406) -/

/-- Latch an input into the snapshot registers, and clear it when asked. -/
def State.ggeLatch (s : State) (i : Fin 32) (clear : Bool) : State :=
  let a := s.gge.acc[i]
  let s := (s.setPair A.GGE_SNAP_SUM_LO a.sum.toNat).setReg A.GGE_SNAP_COUNT a.count
  let s := (s.setF F.GGE_SNAP_MINMAX_MIN a.min.toNat).setF F.GGE_SNAP_MINMAX_MAX a.max.toNat
  let s := (s.setB F.GGE_SNAP_MINMAX_RENORM a.renorm).setB F.GGE_SNAP_MINMAX_EMPTY (a.count = 0)
  let s := s.setB F.GGE_SNAP_PEND false
  s.modGge fun g => { g with snap := none, acc := if clear then g.acc.set i GgeAcc.zero else g.acc }

/-- The gap between two conversions: a latch that waits takes place. -/
def State.ggeGap (s : State) : State :=
  match s.gge.snap with
  | some (i, c) => s.ggeLatch i c
  | none => s

/-- A write of `GGE_SNAP` (R406): discarded while a latch waits. -/
def State.ggeSnap (s : State) (i : Fin 32) (clear : Bool) : State :=
  if s.gge.snap.isSome then s
  else
    let s := (s.modGge fun g => { g with snap := some (i, clear) }).setB F.GGE_SNAP_PEND true
    if s.gge.cur.isSome then s else s.ggeGap

/-- SNAP_LATCH (R406). -/
def execSnapLatch (input : Fin 32) (s : State) : Out3 := .next (if s.blockRuns 12 then s.ggeSnap input false else s)
/-- SNAP_CLEAR (R406). -/
def execSnapClear (input : Fin 32) (s : State) : Out3 := .next (if s.blockRuns 12 then s.ggeSnap input true else s)

/-! ### Requests (R404) -/

/-- An urgent request joins the queue of 4, or is dropped. -/
def State.ggePush (s : State) (i : Fin 32) : State :=
  if 4 ≤ s.gge.queue.length then (s.setB F.GGE_STATUS_URG_DROP true).raise 290
  else s.modGge fun g => { g with queue := g.queue ++ [i] }

/-- A request of the host: it aborts a running scan conversion, unless four urgent ones just completed. -/
def State.ggeRequest (s : State) (i : Fin 32) : State :=
  let full := decide (4 ≤ s.gge.queue.length)
  let s := s.ggePush i
  match s.gge.cur with
  | none => s.ggeStart
  | some c =>
    if full || c.urgent || c.keep then s
    else ((s.modGge fun g => { g with cur := none, aborted := some c.input }).ggeGap).ggeStart

/-- URGENT_REQUEST (R404); a block in its reset machine takes no new input (R427). -/
def execUrgentRequest (input : Fin 32) (s : State) : Out3 := .next (if s.blockRuns 12 then s.ggeRequest input else s)

/-! ### Conversions (R405 to R408, R411) -/

/-- A code goes into the accumulator (R406). -/
def GgeAcc.add (a : GgeAcc) (c : BitVec 12) : GgeAcc :=
  let sum := a.sum + c.setWidth 48
  let count := a.count + 1
  let full := count = 0x80000000#32
  { sum := if full then sum >>> 1 else sum, count := if full then 0x40000000 else count, min := if c < a.min then c else a.min,
    max := if a.max < c then c else a.max, renorm := a.renorm || full }

/-- The accumulator of input `i` takes a code. -/
def State.ggeAccumulate (s : State) (i : Fin 32) (c : BitVec 12) : State :=
  let a := (s.gge.acc[i]).add c
  let full := (s.gge.acc[i]).count = 0x7FFFFFFF#32
  let s := s.modGge fun g => { g with acc := g.acc.set i a }
  if full then (s.setB F.GGE_STATUS_RENORM_SEEN true).raise 288 else s

/-- One alarm side (R407): a code beyond an enabled limit makes the input active, and a crossing into alarm sets the bit of
the input and raises the event; a code that is not beyond the limit ends the active state.  An alarm raised in SLEEP on an input
whose `WAKE` is set is a cause to wake (R433). -/
def State.ggeAlarm (s : State) (beyond en wake : Bool) (active bitf : Fld) (event : Nat) : State :=
  if beyond then
    if en && !s.on active then
      let s := ((s.setB active true).setB bitf true).raise event
      if wake && s.f F.PWR_STATUS_STATE = 3 then s.modGge fun g => { g with wake := true } else s
    else s
  else s.setB active false

/-- The alarm limits of input `i` (R407). -/
def State.ggeAlarms (s : State) (i : Fin 32) (c : Nat) : State :=
  let wake := s.on (F.GGE_i_LIMIT_WAKE i)
  let s := s.ggeAlarm (decide (s.f (F.GGE_i_LIMIT_HIGH i) < c)) (s.on (F.GGE_i_LIMIT_EN_HI i)) wake (F.GGE_i_STATE_HI_ACTIVE i)
    ⟨A.GGE_ALARM_HI, i, 1⟩ 286
  s.ggeAlarm (decide (c < s.f (F.GGE_i_LIMIT_LOW i))) (s.on (F.GGE_i_LIMIT_EN_LO i)) wake (F.GGE_i_STATE_LO_ACTIVE i)
    ⟨A.GGE_ALARM_LO, i, 1⟩ 287

/-- The larger of a value and one that may be missing. -/
def maxOpt (o : Option Nat) (c : Nat) : Option Nat := some (match o with
  | none => c
  | some x => max x c)

/-- Distance of a supply code from nominal. -/
def dev (c : Nat) : Nat := ((c : Int) - 2048).natAbs

/-- The code of the larger deviation. -/
def farther (o : Option Nat) (c : Nat) : Option Nat :=
  match o with
  | none => some c
  | some x => if dev x < dev c then some c else some x

/-- The Logbook's share of a conversion (R411): the extremes at once, the histograms at the end of the second. -/
def State.logConversion (s : State) (i : Fin 32) (c : Nat) : State :=
  let at_ := 1280 + 16 * i.val
  let fresh := Mem.readN s.log.live at_ 16 = List.replicate 16 0
  let op := s.opsec
  let s := if fresh || decide (c < Mem.readLE s.log.live at_ 2) then
      s.modLog fun l => { l with live := Mem.writeN (Mem.writeN l.live at_ (bytesOf 2 c)) (at_ + 8) (bytesOf 4 op) } else s
  let s := if fresh || decide (Mem.readLE s.log.live (at_ + 2) 2 < c) then
      s.modLog fun l => { l with live := Mem.writeN (Mem.writeN l.live (at_ + 2) (bytesOf 2 c)) (at_ + 12) (bytesOf 4 op) } else s
  s.modLog fun l =>
    if i.val < 16 then { l with hottest := maxOpt l.hottest c }
    else if i.val < 26 then
      { l with supply := Vector.ofFn fun j => if j.val = i.val - 16 then farther l.supply[j] c else l.supply[j] }
    else if i.val = 26 then { l with rfMax := { l.rfMax with a := maxOpt l.rfMax.a c } }
    else if i.val = 27 then { l with rfMax := { l.rfMax with b := maxOpt l.rfMax.b c } }
    else l

/-- The test result takes a code (R408). -/
def State.ggeTest (s : State) (c : Nat) : State :=
  let s := (s.setF F.GGE_TEST_RESULT_MIN (min c (s.f F.GGE_TEST_RESULT_MIN))).setF F.GGE_TEST_RESULT_MAX
    (max c (s.f F.GGE_TEST_RESULT_MAX))
  let n := s.f F.GGE_TEST_COUNT_COUNT
  let s := s.incSat F.GGE_TEST_COUNT_COUNT
  if n = 255 then s.raise 293 else s

/-- The code of a conversion of input `i` goes where it belongs (R405, R408). -/
def State.ggeResult (s : State) (v : Conv) (c : BitVec 12) : State :=
  if v.test then (if v.stale then s else s.ggeTest c.toNat)
  else
    let s := s.ggeAccumulate v.input c
    let s := if s.f F.LOG_STATUS_STATE = 0 then s else s.logConversion v.input c.toNat
    s.ggeAlarms v.input c.toNat

/-- Is `i` the highest input of the scan? -/
def scanEnd (mask : Nat) (i : Fin 32) : Bool := (List.finRange 32).all fun j => !mask.testBit j.val || decide (j ≤ i)

/-- After a conversion: urgent ones count in a row; a scan conversion moves the scan on (R403, R404). -/
def State.ggeAfter (s : State) (v : Conv) : State :=
  if v.urgent then (s.modGge fun g => { g with cur := none, inRow := g.inRow + 1 }).raise 289
  else
    let s := s.modGge fun g => { g with cur := none, inRow := 0, last := v.input }
    if s.on F.GGE_EVT_CTRL_SCAN_EVT && scanEnd s.scanMask v.input then s.raiseLimited 292 1000 else s

/-- CONVERSION_DONE (R405): the running conversion completes with a code and the next one starts.  The Gauge stops while ACLK
is lost (R23). -/
def execConversionDone (code : BitVec 12) (s : State) : Out3 :=
  .next (if !s.on F.CLK_STATUS_ACLK_OK then s
    else
      let s := s.ggeStart
      match s.gge.cur with
      | none => s
      | some v => (((s.ggeResult v code).ggeAfter v).ggeGap).ggeStart)

/-- TEST_CTRL_WRITE (R408). -/
def State.ggeTestCtrl (s : State) (v : Word) : State :=
  let s := s.writeRW A.GGE_TEST_CTRL v
  let s := ((s.setF F.GGE_TEST_RESULT_MIN 0xFFF).setF F.GGE_TEST_RESULT_MAX 0).setF F.GGE_TEST_COUNT_COUNT 0
  let s := s.setB F.GGE_STATUS_TEST_ON (s.on F.GGE_TEST_CTRL_EN)
  s.modGge fun g => { g with cur := g.cur.map fun c => { c with stale := true } }

/-- TEST_CTRL_WRITE (R408). -/
def execTestCtrlWrite (data : BitVec 32) (s : State) : Out3 := .next (s.ggeTestCtrl data)

/-! ### Entries of unit 12 (R403, R404, R409) -/

/-- Record a refusal of unit 12. -/
def ggeRefuse (e : Entry) (reason : Nat) (s : State) : State :=
  let s := (s.setF F.GGE_LAST_REFUSE_SEL e.sel).setF F.GGE_LAST_REFUSE_REASON reason
  (s.setB F.GGE_STATUS_REFUSED true).raise 291

/-- Effect of an entry of unit 12; the conversion that runs is not affected, and an idle converter starts at once. -/
def ggeEff (e : Entry) (_ : List Byte) (s : State) : Except Nat State :=
  if e.sel = 0 then .ok ((s.setReg A.GGE_SCAN_MASK e.opnd).modGge id).ggeStart
  else checked [(decide (32 ≤ e.opnd.toNat), 2)] (s.ggePush ⟨e.opnd.toNat % 32, Nat.mod_lt _ (by decide)⟩).ggeStart

/-- SCAN_MASK (R403). -/
def execScanMask (label : BitVec 64) (s : State) : Out3 := .next (s.applyNext 12 (fun x => x = 0) label ggeEff ggeRefuse)

/-- URGENT (R404). -/
def execUrgent (label : BitVec 64) (s : State) : Out3 := .next (s.applyNext 12 (fun x => x = 1) label ggeEff ggeRefuse)

end Sys2Proof.Machine
end

