-- ==== Sys2Proof/Machine/Logbook.lean ====
section
/-! DEFINITION. The Logbook (R410 to R416) and the SMBus target (R415, R442). -/

namespace Sys2Proof.Machine
open Sys2Proof

/-! ### Operating seconds (R411) -/

/-- `v` clamped to `0 … hi` after dividing by `d` from `lo` on. -/
def histBin (c lo d hi : Nat) : Nat := min ((c - lo) / d) hi

/-- Count a bin, when the histogram's inputs were converted. -/
def State.countBin (s : State) (base : Nat) (bin : Option Nat) : State :=
  match bin with
  | none => s
  | some b => s.liveInc (base + 4 * b)

/-- Step 1 of R411. -/
def State.histograms (s : State) : State :=
  let l := s.log
  let s := s.countBin 64 (l.hottest.map fun c => histBin c 384 40 63)
  let s := s.countBin 320 (l.rfMax.a.map fun c => histBin c 768 64 31)
  let s := s.countBin 448 (l.rfMax.b.map fun c => histBin c 768 64 31)
  (l.supply.toList.zipIdx).foldl (fun s x => s.countBin (576 + 64 * x.2) (x.1.map fun c => histBin c 1648 50 15)) s

/-- OPERATING_SECOND (R411): held while ACLK is lost, and before the load has given the count its start. -/
def execOperatingSecond (s : State) : Out3 :=
  .next (if !s.on F.CLK_STATUS_ACLK_OK || s.f F.LOG_STATUS_STATE = 0 then s
    else
      let s := s.histograms
      let s := s.modLog fun l =>
        { l with hottestLast := l.hottest, hottest := none, rfMax := ⟨none, none⟩, supply := Vector.replicate 10 none }
      let s := s.liveInc 8
      let n := s.live 8
      let s := s.setReg A.LOG_OPSEC (BitVec.ofNat 32 n)
      if n % 600 = 0 then s.logCommit 0 else s)

/-! ### Commits (R412, R413) -/

/-- A write of `LOG_CTRL.COMMIT` (R412). -/
def State.hostCommit (s : State) : State :=
  let soon := match s.log.lastCommit with
    | some t => decide (s.opsec < t + 10)
    | none => false
  if soon then s else s.logCommit 4

/-- LOG_COMMIT (R412). -/
def execLogCommit (s : State) : Out3 := .next s.hostCommit

/-- The slot after `n`. -/
def State.nextSlot (s : State) : State := s.setF F.LOG_NEXT_SLOT ((s.f F.LOG_NEXT_SLOT + 1) % 256)

/-- A flash write has ended: a commit that waits is made. -/
def State.writeEnd (s : State) : State :=
  let s := s.setB F.LOG_STATUS_WRITING false
  if s.on F.LOG_STATUS_PENDING then (s.setB F.LOG_STATUS_PENDING false).commitNow s.log.pendCause else s

/-- The history is erased after the commit that a clear with scope bit 3 waits for: every slot but the one just written
(R416). -/
def State.historyErase (s : State) (slot : Nat) : State :=
  if s.log.eraseNext then
    (s.modLog fun l => { l with eraseNext := false, erase := (List.range 256).filter (· != slot) }).setB F.LOG_STATUS_ERASING true
  else s

/-- SLOT_WRITE_DONE (R413). -/
def execSlotWriteDone (ok : Bool) (s : State) : Out3 :=
  .next (if !s.on F.LOG_STATUS_WRITING then s
    else
      let slot := s.f F.LOG_NEXT_SLOT
      let others (l : Log) := l.slots.filter fun x => x.1 != slot
      if ok then
        let s := s.modLog fun l => { l with slots := (slot, l.staging) :: others l }
        (((s.nextSlot).historyErase slot).raise 297).writeEnd
      else
        let s := (s.modLog fun l => { l with slots := others l, tries := l.tries + 1 }).nextSlot
        if 3 ≤ s.log.tries then ((s.setB F.LOG_STATUS_FAIL true).raise 298).writeEnd else s.slotStart)

/-- ERASE_SECTOR_DONE (R413). -/
def execEraseSectorDone (s : State) : Out3 :=
  .next (match s.log.erase with
    | [] => s
    | e :: es =>
      let s := s.modLog fun l => { l with erase := es, slots := l.slots.filter fun x => x.1 != e }
      if es.isEmpty then s.setB F.LOG_STATUS_ERASING false else s)

/-- Is an image valid (R414)? -/
def imageValid (m : List Host.Cell) : Bool :=
  Mem.readLE m 0 4 = 0x4B42474C && Mem.readLE m 4092 4 = (crc32c (Mem.readN m 0 4092)).toNat

/-- The valid image with the highest `LOG_SEQ`, and its slot. -/
def newestImage (l : List (Nat × List Host.Cell)) : Option (Nat × List Host.Cell) :=
  l.foldl (fun b x =>
    if !imageValid x.2 then b
    else match b with
      | none => some x
      | some y => if Mem.readLE y.2 4 4 < Mem.readLE x.2 4 4 then some x else b) none

/-- Add the events that came during the load (R411). -/
def State.addDeltas (s : State) : State :=
  let s' := (s.log.delta.zipIdx).foldl (fun s x => if x.1 = 0 then s else s.liveInc (1216 + 4 * x.2) x.1) s
  s'.modLog fun l => { l with delta := List.replicate 8 0 }

/-- LOGBOOK_LOAD_DONE (R414): the load that step 3 of the release started ends (R425). -/
def execLogbookLoadDone (answers : Bool) (s : State) : Out3 :=
  .next (if !s.log.loading || !s.on F.CLK_STATUS_ACLK_OK then s
    else
      let s := s.modLog fun l => { l with loading := false }
      let s := match (if answers then newestImage s.log.slots else none) with
        | some (slot, m) =>
          ((s.modLog fun l => { l with live := m }).setReg A.LOG_SEQ (BitVec.ofNat 32 (Mem.readLE m 4 4))).setF F.LOG_NEXT_SLOT
            ((slot + 1) % 256)
        | none => (s.modLog fun l => { l with live := [] }).setReg A.LOG_SEQ 0
      let s := s.setF F.LOG_STATUS_STATE (if answers then 1 else 2)
      let s := (s.liveInc 12).addDeltas
      let s := (s.setReg A.LOG_OPSEC (BitVec.ofNat 32 (s.live 8))).setReg A.LOG_CYCLES (BitVec.ofNat 32 (s.live 12))
      (s.logCommit 3).raise 296)

/-! ### Reading (R415) -/

/-- The image committed `age` commits before the staging image, if the history holds it and the flash answers. -/
def State.imageAt (s : State) (age : Nat) : Option (List Host.Cell) :=
  let seq := (s.reg A.LOG_SEQ).toNat
  if s.f F.LOG_STATUS_STATE = 2 then none else (s.log.slots.find? fun x => decide (age ≤ seq) && imageValid x.2 && Mem.readLE x.2 4 4 = seq - age).map (·.2)

/-- A write of `LOG_CURSOR` (R415). -/
def State.logCursor (s : State) (age : Nat) : State :=
  let s := s.setF F.LOG_CURSOR_AGE age
  if age = 0 then
    let s := (s.setReg A.LOG_WIN_SEQ (s.reg A.LOG_SEQ)).modLog fun l => { l with winSeq := none }
    (s.setB F.LOG_STATUS_WIN_READY true).setB F.LOG_STATUS_WIN_VALID true
  else (s.modLog fun l => { l with winSeq := some age }).setB F.LOG_STATUS_WIN_READY false

/-- CURSOR_WRITE (R415). -/
def execCursorWrite (age : BitVec 8) (s : State) : Out3 := .next (s.logCursor age.toNat)

/-- WINDOW_COPY_DONE (R415): an age beyond the history clears `WIN_VALID`, and the window reads zero. -/
def execWindowCopyDone (s : State) : Out3 :=
  .next (match s.log.winSeq with
    | none => s
    | some age =>
      let m := s.imageAt age
      let img := m.getD []
      let s := (s.modLog fun l => { l with winSeq := none, win := img }).setReg A.LOG_WIN_SEQ (BitVec.ofNat 32 (Mem.readLE img 4 4))
      ((s.setB F.LOG_STATUS_WIN_VALID m.isSome).setB F.LOG_STATUS_WIN_READY true).raise 301)

/-- The byte that the window shows. -/
def State.windowByte (s : State) (off : Nat) : Byte :=
  if s.f F.LOG_CURSOR_AGE = 0 then Mem.read s.log.staging off
  else if s.on F.LOG_STATUS_WIN_VALID then Mem.read s.log.win off
  else 0

/-! ### Clearing (R416) -/

/-- `LOG_NONCE` as bytes. -/
def State.nonce (s : State) : List Byte := (List.range 8).flatMap fun i => bytesOf 4 (s.reg (A.LOG_NONCEi i)).toNat

/-- A new nonce in eight words from `a` on: free values from the TRNG, and zero once a health test has failed (R453). -/
def State.trngWords (s : State) (a : Nat) : State :=
  (List.range 8).foldl (fun s i =>
    let p := s.draw 32
    p.2.setReg (a + 4 * i) (if s.on F.LCS_STATUS_TRNG_FAIL then 0 else p.1)) s

/-- A new `LOG_NONCE` (R416). -/
def State.newNonce (s : State) : State := s.trngWords (A.LOG_NONCEi 0)

/-- A clear attempt ends with result `r`. -/
def State.clearEnd (s : State) (r : Nat) : State := ((s.setF F.LOG_STATUS_CLR_RESULT r).raise 299).newNonce

/-- A write of `LOG_CTRL.CLEAR` (R416). -/
def State.logClear (s : State) : State :=
  if s.on F.LOG_STATUS_CLR_BUSY then s.clearEnd 8
  else
    let n := s.nonce
    (s.modLog fun l => { l with clear := some (Mem.readN l.cmd 0 4096, n) }).setB F.LOG_STATUS_CLR_BUSY true

/-- LOG_CLEAR (R416). -/
def execLogClear (s : State) : Out3 := .next s.logClear

/-- Bytes `a` to `b − 1` of a command. -/
def cut (c : List Byte) (a b : Nat) : List Byte := (c.drop a).take (b - a)

/-- Are all bytes of a list zero? -/
def allZero (c : List Byte) : Bool := c.all (· = 0)

/-- The result of the check (R416), in the order of the codes. -/
def State.clearResult (s : State) (c nonce : List Byte) : Nat :=
  let slot := (c.getD 4 0).toNat
  let key : BitVec 256 := if slot = 0 then s.lcs.otp.owner.a else if slot = 1 then s.lcs.otp.owner.b else 0
  let pub := cut c 64 1376
  if ofBytes (cut c 0 4) != 0x524C434C || 16 ≤ (c.getD 5 0).toNat || !allZero (cut c 6 8) || !allZero (cut c 48 64) ||
    !allZero (cut c 3796 4096) then 2
  else if !programmed key || !s.lcs.otp.grants [1, 2] then 3
  else if digest (sha3 pub) != key then 4
  else if ofBytes (cut c 8 16) != s.pair A.DEV_SERIAL_LO then 5
  else if cut c 16 48 != nonce || s.on F.LCS_STATUS_TRNG_FAIL then 6
  else if !Config.mldsaVerify pub (sha3 (cut c 0 64)) (cut c 1376 3796) then 7
  else 1

/-- Zero a range of the live image. -/
def State.zeroLive (s : State) (a n : Nat) : State :=
  s.modLog fun l => { l with live := Mem.writeN l.live a (List.replicate n 0) }

/-- An accepted clear (R416). -/
def State.clearApply (s : State) (scope : Nat) : State :=
  let s := if scope.testBit 0 then s.zeroLive 64 1152 else s
  let s := if scope.testBit 1 then s.zeroLive 1280 512 else s
  let s := if scope.testBit 2 then s.zeroLive 1216 32 else s
  let s := (s.liveInc 24).setLive 20 s.opsec
  (s.modLog fun l => { l with eraseAll := l.eraseAll || scope.testBit 3 }).logCommit 2

/-- CLEAR_CHECK_DONE (R416). -/
def execClearCheckDone (s : State) : Out3 :=
  .next (match s.log.clear with
    | none => s
    | some (c, n) =>
      let r := s.clearResult c n
      let s := (s.modLog fun l => { l with clear := none }).setB F.LOG_STATUS_CLR_BUSY false
      (if r = 1 then s.clearApply (c.getD 5 0).toNat else s).clearEnd r)

/-! ### SMBus (R415, R442) -/

/-- SMBUS_CURSOR_SET (R415): AGE and offset; an image of the history goes into the SMBus window buffer. -/
def execSmbusCursorSet (word : BitVec 16) (s : State) : Out3 :=
  let age := bitsOf word.toNat 0 8
  let img := (s.imageAt age).getD []
  .next (s.modLog fun l => { l with smbAge := age, smbOff := bitsOf word.toNat 8 7, smbBuf := if age = 0 then [] else img })

/-- SMBUS_BLOCK_READ (R415). -/
def execSmbusBlockRead (s : State) : Out3 :=
  let l := s.log
  .next ((s.modLog fun l => { l with smbOff := (l.smbOff + 1) % 128 }).emit
    (.bytes (Mem.readN (if l.smbAge = 0 then l.staging else l.smbBuf) (32 * l.smbOff) 32)))

/-- SEQ_LOW_READ (R415). -/
def execSeqLowRead (s : State) : Out3 := .next (s.emit (.readData ((s.reg A.LOG_SEQ).toNat % 65536)))
/-- SEQ_HIGH_READ (R415). -/
def execSeqHighRead (s : State) : Out3 := .next (s.emit (.readData ((s.reg A.LOG_SEQ).toNat / 65536)))

/-- IDENTITY_READ (R442): the device and revision registers and the serial number. -/
def execIdentityRead (s : State) : Out3 :=
  .next (s.emit (.bytes ([A.DEV_ID, A.DEV_REV, A.DEV_SERIAL_LO, A.DEV_SERIAL_HI].flatMap fun a => bytesOf 4 (s.reg a).toNat)))

/-- TEMPERATURE_READ (R442): the hottest junction of the last complete operating second in 1/16 °C. -/
def execTemperatureRead (s : State) : Out3 :=
  .next (s.emit (.readData (match s.log.hottestLast with
    | some c => (BitVec.ofInt 16 ((c : Int) - 1024)).toNat
    | none => 0x8000)))

/-- STATE_READ (R442). -/
def execStateRead (s : State) : Out3 :=
  .next (s.emit (.readData (s.f F.PWR_STATUS_STATE + 8 * bit (!s.pins.faultN) + 16 * s.f F.PWR_FOG_CAUSE_CAUSE +
    512 * bit (s.on F.PWR_THERM_HOT))))

/-- CAUSE_READ (R442). -/
def execCauseRead (s : State) : Out3 := .next (s.emit (.readData ((s.reg A.RST_CAUSE).toNat % 65536)))

end Sys2Proof.Machine
end

