-- ==== Sys2Proof/Machine/Load.lean ====
section
/-! DEFINITION. Program images (R87, R88, R455 to R459) and measurements (R460, R461). -/

namespace Sys2Proof.Machine
open Sys2Proof

/-! ### Life-cycle state (R446 to R448) -/

/-- `LCS_STATUS` and `LCS_SVN` show the fuses (R472). -/
def State.lcsShow (s : State) : State :=
  let o := s.lcs.otp
  let s := (s.setF F.LCS_STATUS_STATE o.state).setF F.LCS_STATUS_PENDING o.pend
  let s := s.setF F.LCS_STATUS_SLOT_PROG (bit (programmed o.owner.a) + 2 * bit (programmed o.owner.b))
  (s.setF F.LCS_STATUS_SLOT_REVOKED o.revoked.toNat).setF F.LCS_SVN_OTP o.svn

/-! ### The container (R455 to R457) -/

/-- A little-endian field of a byte list. -/
def fieldOf (c : List Byte) (a n : Nat) : Nat := ofBytes (cut c a (a + n))

/-- A segment of the table (R457). -/
structure Seg where
  typ : Nat
  flag : Nat
  mask : Nat
  off : Nat
  len : Nat
  data : Nat
deriving DecidableEq, Repr

/-- Segment `i` of a container. -/
def segAt (c : List Byte) (i : Nat) : Seg :=
  let a := 4096 + 16 * i
  { typ := fieldOf c a 1, flag := fieldOf c (a + 1) 1, mask := fieldOf c (a + 2) 2, off := fieldOf c (a + 4) 4,
    len := fieldOf c (a + 8) 4, data := fieldOf c (a + 12) 4 }

/-- The segments of a container. -/
def segsOf (c : List Byte) : List Seg := (List.range (fieldOf c 6 2)).map (segAt c)

/-- Size of the memory a segment goes to (R87). -/
def segRoom (g : Seg) : Nat :=
  match g.typ with
  | 1 | 2 => 0x80000
  | 3 | 4 => 0x200000
  | 5 => 0x20000
  | _ => 0

/-- Is a table entry wrong by itself (R457)? -/
def segBad (c : List Byte) (g : Seg) : Bool :=
  g.typ = 0 || decide (6 < g.typ) || (if g.typ = 5 then decide (1 < g.flag) else g.flag != 0 || g.mask != 0) ||
  g.len % (if g.typ = 6 then 8 else 64) != 0 || g.data % 64 != 0 || decide (c.length < g.data + g.len) ||
  (g.typ != 6 && decide (segRoom g < g.off + g.len))

/-- Do two segments go to one memory? -/
def sameMem (a b : Seg) : Bool :=
  if a.typ ≤ 2 then b.typ ≤ 2
  else if a.typ = 5 then b.typ = 5 && a.flag = b.flag && (a.mask &&& b.mask) != 0
  else a.typ != 6 && a.typ = b.typ

/-- Do the destinations of two segments overlap? -/
def segsMeet (a b : Seg) : Bool := sameMem a b && decide (a.off < b.off + b.len) && decide (b.off < a.off + a.len)

/-- Does a segment overlap a later one? -/
def anyMeet : List Seg → Bool
  | [] => false
  | g :: gs => gs.any (segsMeet g) || anyMeet gs

/-- The PIPE entries of a container: unit, selector, operand (R457). -/
def pipeOf (c : List Byte) : List (Nat × Nat × Nat) :=
  ((segsOf c).filter (·.typ = 6)).flatMap fun g => (List.range (g.len / 8)).map fun i =>
    let w := fieldOf c (g.data + 8 * i) 4
    (bitsOf w 20 4, bitsOf w 0 20, fieldOf c (g.data + 8 * i + 4) 4)

/-- Is the container malformed (R456, R457)? -/
def containerBad (c : List Byte) : Bool :=
  let gs := segsOf c
  let ks := gs.filter (·.typ = 1)
  let kend := match ks with
    | k :: _ => k.len
    | [] => 0
  let pipe := pipeOf c
  fieldOf c 0 4 != 0x4A33494D || fieldOf c 4 2 != 1 || gs.isEmpty || decide (256 < gs.length) ||
  !allZero (cut c 13 16) || !allZero (cut c 30 32) || !allZero (cut c 192 224) || !allZero (cut c 3956 4096) ||
  decide (c.length < 4096 + 16 * gs.length) || gs.any (segBad c) || ks.length != 1 || ks.any (·.off != 0) ||
  gs.any (fun g => g.typ = 2 && decide (g.off < kend)) || anyMeet gs ||
  pipe.any (fun p => decide (15 ≤ p.1) || !scalarSel p.1 p.2.1) ||
  (List.range 15).any fun u => decide (256 < (pipe.filter fun p => p.1 = u).length)

/-- Is a range of the flash inside the Logbook's last 1 MiB, or beyond the flash? -/
def reachesLog (size a n : Nat) : Bool := decide (size < a + n + 2 ^ 20)

/-- Is the flash boot header malformed (R455)? -/
def bootBad (b : List Byte) (size : Nat) : Bool :=
  let addr := fieldOf b 4 4
  let len := fieldOf b 8 4
  let user := fieldOf b 12 4
  b.length != 64 || fieldOf b 0 4 != 0x4A464253 || addr % 65536 != 0 || decide (len < 8192) || decide (2 ^ 24 < len) ||
  user % 64 != 0 || !allZero (cut b 16 60) || fieldOf b 60 4 != (crc32c (b.take 60)).toNat || reachesLog size addr len ||
  (user != 0 && reachesLog size user 64)

/-- `n` bytes of a list, zeros where it ends early. -/
def padTo (c : List Byte) (n : Nat) : List Byte := c.take n ++ List.replicate (n - c.length) 0

/-- The container as the load reads it, and whether the source itself is malformed. -/
def State.containerOf (s : State) (host : Bool) (boot : List Byte) (size : Nat) (c : List Byte) : List Byte × Bool :=
  let n := s.f F.LCS_LOAD_LEN_BYTES
  if host then (padTo c n, decide (n < 8192) || decide (2 ^ 24 < n))
  else (padTo c (fieldOf boot 8 4), bootBad boot size)

/-! ### The load (R88) -/

/-- Post FIFOs drain (R88 step 1). -/
def State.drainPosts (s : State) : State :=
  (List.finRange 16).foldl (fun s n => ((List.range 8).foldl (fun s _ => s.postCopied n) s)) s

/-- A load starts (R88 step 1): the cores halt, the Keeper's stores drain, and no image is loaded. -/
def State.loadStart (s : State) (host : Bool) : State :=
  let s := (s.setB F.LCS_LOAD_STATUS_BUSY true).modLcs fun l =>
    { l with load := some { host := host }, hostWait := false, imageKey := none }
  let s := s.haltAll.drainPosts.dropHeld.drainAll
  let s := (s.setF F.KPR_STATUS_STATE 0).setB F.KPR_LOAD_STATUS_LOADED false
  ((s.setReg A.BCN_STATE 0).setReg A.BCN_HALT 0).setF F.LCS_SVN_IMAGE 0

/-- A write of `LCS_LOAD_CTRL` (R459). -/
def State.loadGo (s : State) (v : Word) : State :=
  let s := s.setB F.LCS_LOAD_CTRL_SRC (v.getLsbD 1)
  if !v.getLsbD 0 then s
  else if s.on F.LCS_LOAD_STATUS_BUSY || s.pwrState = 4 then s.setB F.LCS_LOAD_STATUS_LOAD_DROP true
  else s.loadStart (v.getLsbD 1)

/-- LOAD_GO (R459). -/
def execLoadGo (data : BitVec 32) (s : State) : Out3 := .next (s.loadGo (data ||| 1))

/-- Step 2 of R88: queues are emptied and bindings removed. -/
def State.loadFlush (s : State) : State :=
  let n := (List.finRange 15).foldl (fun n u => n + ((s.tl.queues[u]).filter fun e => e.phase != .reported).length) 0
  let s := (s.flushMask 0x7FFF (List.finRange 15)).setF F.KPR_LOAD_STATUS_FLUSHED (min n 0xFFFF)
  let s := s.disp.bindings.foldl (fun s b => s.unbindAll b.q b.set_) s
  { s with disp := { s.disp with bindings := [] } }

/-- Where a segment's bytes go in the SRAM, one start for each copy. -/
def segBases (g : Seg) : List Nat :=
  match g.typ with
  | 1 | 2 => [0x2200000 + g.off]
  | 3 => [0x1E00000 + g.off]
  | 4 => [0x2000000 + g.off]
  | 5 => ((List.range 16).filter g.mask.testBit).map fun n => xyBase n (g.flag = 1) + g.off
  | _ => []

/-- Step 3 of R88: segments are written, in table order, as far as `got` bytes of data were read. -/
def State.loadSegs (s : State) (c : List Byte) (got : Nat) : List Seg → State
  | [] => s
  | g :: gs =>
    let bs := (cut c g.data (g.data + g.len)).take got
    let s := { s with sram := (segBases g).foldl (fun m a => Mem.writeN m a bs) s.sram }
    (if g.typ = 1 then s.setF F.KPR_CODE_END_END g.len else s).loadSegs c (got - g.len) gs

/-- The digest of R456: the segment table, then the data in table order. -/
def containerDigest (c : List Byte) : List Byte :=
  let gs := segsOf c
  sha3 (cut c 4096 (4096 + 16 * gs.length) ++ gs.flatMap fun g => cut c g.data (g.data + g.len))

/-- Hash that a signing key names, when the key is permitted (R447). -/
def Otp.imageHash (o : Otp) (key : Nat) : Option (BitVec 256) :=
  match key with
  | 0 => if o.grants [1, 3] then some o.vendor else none
  | 1 => if o.grants [1, 2] && o.usable 0 then some o.owner.a else none
  | 2 => if o.grants [1, 2] && o.usable 1 then some o.owner.b else none
  | _ => none

/-- The result of the checks of step 4 (R458), the lowest code. -/
def State.loadCheck (s : State) (c : List Byte) : Nat :=
  let o := s.lcs.otp
  let key := cut c 224 1536
  let pub := digest (sha3 key)
  if !(o.grants [1, 3] || o.grants [1, 2]) then 4
  else match o.imageHash (fieldOf c 12 1) with
    | none => 5
    | some h =>
      if !programmed h || pub != h then 5
      else if fieldOf c 8 4 < o.svn then 6
      else if containerDigest c != cut c 160 192 then 7
      else if !Config.mldsaVerify key (sha3 (c.take 224)) (cut c 1536 3956) then 8
      else 1

/-- Set measurement `m` (R460, R472). -/
def State.setMeas (s : State) (m : Nat) (d : List Byte) : State :=
  (List.range 8).foldl (fun s i => s.setReg (A.LCS_MEAS_m_i m i) (BitVec.ofNat 32 (fieldOf d (4 * i) 4))) s

/-- Measurement `m` as bytes. -/
def State.meas (s : State) (m : Nat) : List Byte :=
  (List.range 8).flatMap fun i => bytesOf 4 (s.reg (A.LCS_MEAS_m_i m i)).toNat

/-- The measurements of a load (R460). -/
def State.measure (s : State) (c : List Byte) : State :=
  let o := s.lcs.otp
  let s := (s.setMeas 0 (sha3 (c.take 224))).setMeas 1 s.codeDigest
  let m2 := Config.measureM2 o.state (s.f F.LCS_STATUS_FUSE_REV) o.svn o.revoked.toNat [o.vendor, o.owner.a, o.owner.b]
  let s := (s.setMeas 2 (bytesOf 32 m2.toNat)).setMeas 3 (List.replicate 32 0)
  s.modKeeper fun k => { k with codeHash := digest s.codeDigest }

/-- Step 5 of R88: the PIPE entries are queued with target L. -/
def State.loadPipe (s : State) (l : Long) : List (Nat × Nat × Nat) → State
  | [] => s
  | (u, sel, op) :: ps =>
    (if h : u < 15 then s.enqueue ⟨u, h⟩ (mkEntry u sel (BitVec.ofNat 32 op) none l false s.time.samples) else s).loadPipe l ps

/-- The vectors of the header go to the cores (R456). -/
def State.loadVectors (s : State) (c : List Byte) : State :=
  let w (a : Nat) : Word := BitVec.ofNat 32 (fieldOf c a 4)
  let s := s.modCore keeperNo fun k => { k with entryPc := w 16, trapPc := w 20, restartPc := w 24 }
  (List.finRange 16).foldl (fun s n =>
    s.modCore (bcn n) fun k => { k with entryPc := w (32 + 8 * n.val), restartPc := w (36 + 8 * n.val) }) s

/-- Step 6 of R88: the cores start. -/
def State.loadCores (s : State) (c : List Byte) : State :=
  let s := (s.setB F.KPR_CTRL_HALT false).setF F.KPR_STATUS_RESTARTS 0
  let s := s.startKeeper 0 (s.cores[keeperNo]).entryPc
  s.forMask (BitVec.ofNat 16 (fieldOf c 28 2)) (fun s n => s.startBeacon n 0 (s.cores[n]).entryPc) (List.finRange 16)

/-- An image load sets every `KPR_TLQ_u_LAST` to the load tick (R142). -/
def State.lastAll (s : State) (l : Long) : State :=
  (List.range 15).foldl (fun s u => s.setPair (A.KPR_TLQ_u_LAST_LO u) l.toNat) s

/-- A verified image runs (R88 steps 5 and 6). -/
def State.loadRun (s : State) (c : List Byte) : State :=
  let l := s.tickNow + 64000
  let s := (s.measure c).setPair A.KPR_LOAD_TICK_LO l.toNat
  let s := (((s.loadPipe l (pipeOf c)).lastAll l).loadVectors c).loadCores c
  let s := (s.setF F.LCS_LOAD_STATUS_RESULT 1).setB F.LCS_LOAD_STATUS_BUSY false
  let s := (s.setF F.LCS_SVN_IMAGE (fieldOf c 8 4)).setB F.KPR_LOAD_STATUS_LOADED true
  (s.modLcs fun x => { x with load := none, imageKey := some (fieldOf c 12 1) }).raise 181

/-- A refused source: under `BOOT_SRC` 10b a flash load falls back to a host push (R424, R458). -/
def State.loadRefused (s : State) (host : Bool) (r : Nat) : State :=
  let fall := !host && s.f F.RST_STRAPS_BOOT_USED = 2
  (s.loadFail r).modLcs fun l => { l with hostWait := fall }

/-- A container that was found, as step 1 of R88 left it. -/
def State.loadFound (s : State) (host : Bool) (c : List Byte) (got : Option Nat) : State :=
  let s := s.loadFlush
  let s := s.loadSegs c (got.getD c.length) (segsOf c)
  if got.isSome then s.loadRefused host 2
  else
    let r := s.loadCheck c
    if r = 1 then s.loadRun c
    else if r = 4 then s.loadFail 4
    else (s.loadFail r).fogEnter 3

/-- IMAGE_LOAD_DONE (R88, R458). -/
def execImageLoadDone (source : LoadData) (s : State) : Out3 :=
  .next (match s.lcs.load with
    | none => s
    | some l =>
      match source with
      | .absent => s.loadRefused l.host 2
      | .found boot size c got =>
        let p := s.containerOf l.host boot size c
        if p.2 || containerBad p.1 then s.loadRefused l.host 3 else s.loadFound l.host p.1 got)

/-! ### Measurements and reports (R460, R461) -/

/-- M3 takes 32 bytes. -/
def State.extendNow (s : State) (d : List Byte) : State := s.setMeas 3 (sha3 (s.meas 3 ++ d))

/-- A write of `LCS_EXT_CTRL.EXTEND` (R460): applied after a report in progress. -/
def State.lcsExtend (s : State) : State :=
  let d := (List.range 8).flatMap fun i => bytesOf 4 (s.reg (A.LCS_EXT_DATAi i)).toNat
  if s.lcs.att.isSome then s.modLcs fun l => { l with extends_ := l.extends_ ++ [d] } else s.extendNow d

/-- EXTEND (R460). -/
def execExtend (s : State) : Out3 := .next s.lcsExtend

/-- A report request ends without a report (R461). -/
def State.attFail (s : State) : State :=
  ((s.setF F.LCS_ATT_STATUS_RESULT 2).modLcs fun l => { l with report := [] }).raise 303

/-- A write of `LCS_ATT_CTRL.GO` (R461, R452): while a report is being built a further request changes nothing (log
entry 25). -/
def State.lcsAttest (s : State) : State :=
  if s.lcs.att.isSome then s
  else if !s.lcs.otp.grants [1, 2] || !s.on F.LCS_STATUS_ID_READY || s.lcs.otp.pend != 0 then s.attFail
  else
    let nonce := (List.range 8).flatMap fun i => bytesOf 4 (s.reg (A.LCS_ATT_NONCEi i)).toNat
    let meas := s.meas 0 ++ s.meas 1 ++ s.meas 2 ++ s.meas 3
    (s.setB F.LCS_ATT_STATUS_BUSY true).modLcs fun l => { l with att := some { nonce := nonce, meas := meas } }

/-- ATTEST (R461). -/
def execAttest (s : State) : Out3 := .next s.lcsAttest

/-- Bytes 0 to 1,535 of a report (R461). -/
def State.reportBody (s : State) (a : LcsAtt) : List Byte :=
  let o := s.lcs.otp
  let slots := s.f F.LCS_STATUS_SLOT_PROG + 4 * o.revoked.toNat
  let key := match s.lcs.imageKey with
    | some k => k
    | none => 255
  bytesOf 4 0x41545352 ++ bytesOf 2 1 ++ bytesOf 1 o.state ++ bytesOf 1 (s.f F.LCS_STATUS_FUSE_REV) ++
  bytesOf 8 (s.pair A.DEV_SERIAL_LO) ++ bytesOf 4 o.svn ++ bytesOf 4 (s.f F.LCS_SVN_IMAGE) ++ bytesOf 1 key ++
  bytesOf 1 slots ++ bytesOf 6 0 ++ a.nonce ++ a.meas ++ padTo (Config.mldsaPublic o.seed) 1312 ++ bytesOf 32 0

/-- REPORT_BUILT (R461): the signed report is in the buffer, and extends that waited are applied. -/
def execReportBuilt (s : State) : Out3 :=
  .next (match s.lcs.att with
    | none => s
    | some a =>
      let body := s.reportBody a
      let rep := body ++ padTo (Config.mldsaSign s.lcs.otp.seed (sha3 body)) 2420
      let s := (s.setF F.LCS_ATT_STATUS_RESULT 1).setB F.LCS_ATT_STATUS_BUSY false
      let todo := s.lcs.extends_
      let s := (s.modLcs fun l => { l with att := none, extends_ := [], report := Mem.writeN [] 0 rep }).raise 303
      todo.foldl (fun s d => s.extendNow d) s)

end Sys2Proof.Machine
end

