-- ==== Sys2Proof/Machine/Frame.lean ====
section
/-! DEFINITION. What travels on a Tether lane (R204 to R207): 66-bit blocks with their sync headers and scrambler, frames with
their trailer checks, and the packet of a lamp block pair. -/

namespace Sys2Proof.Machine
open Sys2Proof

/-! ### Blocks (R205) -/

/-- The sync header of a block in column `col`. -/
def syncHeader (col : Nat) : BitVec 2 := if col = 0 then 0b10 else 0b01

/-- Is a received header a sync violation? -/
def syncViolation (h : BitVec 2) : Bool := h = 0b00 || h = 0b11

/-- A payload in the order in which its bits are sent: least significant first. -/
def sendOrder (w : Long) : List Bool := (List.range 64).map w.getLsbD

/-- The payload whose bits came in this order. -/
def payloadOf (bs : List Bool) : Long := BitVec.ofNat 64 (bs.foldr (fun b n => bit b + 2 * n) 0)

/-- What the scrambler x^58 + x^39 + 1 adds to a bit, from the 58 scrambled bits before it, newest in bit 0. -/
def scrambleTap (h : BitVec 58) : Bool := xor (h.getLsbD 38) (h.getLsbD 57)

/-- The last 58 bits after one more. -/
def shiftIn (h : BitVec 58) (b : Bool) : BitVec 58 := (h <<< 1) ||| (if b then 1 else 0)

/-- The self-synchronous scrambler: the bits sent, and its memory after them. -/
def scramble (h : BitVec 58) : List Bool → List Bool × BitVec 58
  | [] => ([], h)
  | b :: bs =>
    let o := xor b (scrambleTap h)
    let r := scramble (shiftIn h o) bs
    (o :: r.1, r.2)

/-- The descrambler at the other end, whose memory is the bits as received. -/
def descramble (h : BitVec 58) : List Bool → List Bool × BitVec 58
  | [] => ([], h)
  | b :: bs =>
    let r := descramble (shiftIn h b) bs
    (xor b (scrambleTap h) :: r.1, r.2)

/-- The errors of the payloads of one lane after its descrambler, from the errors on the lane.  Being linear, the descrambler
makes them from the flipped bits alone; `h` are those among the last 58 bits before. -/
def descrambleErrs (h : BitVec 58) : List Long → List Long × BitVec 58
  | [] => ([], h)
  | w :: ws =>
    let p := if h = 0 && w = 0 then (0, 0) else let d := descramble h (sendOrder w); (payloadOf d.1, d.2)
    let r := descrambleErrs p.2 ws
    (p.1 :: r.1, r.2)

/-! ### Checks of a frame (R206) -/

/-- One bit of the CRC-16: polynomial 1021h, not reflected. -/
def crc16Bit (r : BitVec 16) : BitVec 16 := if r.getLsbD 15 then (r <<< 1) ^^^ 0x1021#16 else r <<< 1

/-- The CRC-16 over bytes from register `r` on: FFFFh for a frame, 0 for its errors. -/
def crc16 (r : BitVec 16) (bs : List Byte) : BitVec 16 :=
  bs.foldl (fun r b => (List.range 8).foldl (fun r _ => crc16Bit r) (r ^^^ (b ++ 0#8 : BitVec 16))) r

/-- One bit of the CRC-8: polynomial 07h. -/
def crc8Bit (r : BitVec 8) : BitVec 8 := if r.getLsbD 7 then (r <<< 1) ^^^ 0x07#8 else r <<< 1

/-- The CRC-8 over bytes, from register 00h on. -/
def crc8 (bs : List Byte) : BitVec 8 :=
  bs.foldl (fun r b => (List.range 8).foldl (fun r _ => crc8Bit r) (r ^^^ b)) 0

/-- Even parity of the bits of a word: true when their number is odd. -/
def oddBits (w : Long) : Bool := (sendOrder w).foldl xor false

/-- Does the CRC-16 of a frame's words, from register `r` on, meet its trailer?  It covers every packet word, least significant
byte first, and trailer bytes 2 to 7. -/
def crc16Meets (r : BitVec 16) (ws : List Long) : Bool :=
  let t := ws.getLastD 0
  crc16 r (ws.dropLast.flatMap (fun w => bytesOf 8 w.toNat) ++ (bytesOf 8 t.toNat).drop 2) = t.setWidth 16

/-- Does the CRC-8 of a trailer meet its bits [55:0]? -/
def crc8Meets (t : Long) : Bool := crc8 ((bytesOf 8 t.toNat).take 7) = (t >>> 56).setWidth 8

/-- Do the payload bits of logical lane `l` of `n` differ from their parity bit in the trailer?  The last lane sends the
trailer itself, which its parity leaves out. -/
def parityMiss (n : Nat) (ws : List Long) (l : Nat) : Bool :=
  let own := (List.range 16).foldl (fun p c => if n * c + l + 1 = 16 * n then p else xor p (oddBits (ws.getD (n * c + l) 0))) false
  own != (ws.getLastD 0).getLsbD (16 + l)

/-- What the receiver finds in one Tether frame (R206, R209): its CRC-16, the lanes whose parity mismatches, its CRC-8, the
sync violations and the eye margin of lanes, by logical lane. -/
structure FrameCheck where
  ok : Bool
  parity : BitVec 32
  crc8 : Bool
  sync : List (Nat × Nat)
  margins : List (Nat × Nat)
deriving DecidableEq, Repr

/-- What the checks find in a frame of `n` logical lanes whose words arrive with the errors `es`, and with `sync` violations.
A frame as sent meets its checks; they are linear, so the errors alone decide, from CRC register 0 on (log entry 126). -/
def checkErrs (n : Nat) (es : List Long) (sync margins : List (Nat × Nat)) : FrameCheck :=
  if es.all (· = 0) then { ok := true, parity := 0, crc8 := true, sync := sync, margins := margins }
  else
    { ok := crc16Meets 0 es,
      parity := BitVec.ofNat 32 ((List.range n).foldl (fun v l => v + bit (parityMiss n es l) * 2 ^ l) 0),
      crc8 := crc8Meets (es.getLastD 0), sync := sync, margins := margins }

/-! ### Lanes (R204) -/

/-- The physical lane that carries logical lane `l` when the lanes of `skip` are skipped (R204). -/
def physLane (total skip l : Nat) : Nat := ((List.range total).filter fun i => !skip.testBit i).getD l total

/-- What a physical lane transmits (R204). -/
inductive LaneUse where
  | data (l : Nat)          -- logical lane l
  | prbs31                  -- kept trained, able to take data at the next frame boundary
deriving DecidableEq, Repr

/-- The use of physical lane `p` when `n` logical lanes skip the lanes of `skip` (R204). -/
def laneUse (total n skip p : Nat) : LaneUse :=
  match (List.range n).find? fun l => physLane total skip l = p with
  | some l => .data l
  | none => .prbs31

/-- Number under which the error counters of a physical lane stand (R215). -/
def laneNo (ret : Bool) (p : Nat) : Nat := if ret then 40 + p else p

/-- Payload errors of physical lane `p`, by column. -/
def laneErrs (errs : List BlockErr) (p : Nat) : List Long :=
  (List.range 16).map fun c => errs.foldl (fun w e => if e.lane = p && e.col.val = c then w ^^^ e.payload else w) 0

/-- Sync violations of physical lane `p`: headers that arrive as 00b or 11b. -/
def laneSyncs (errs : List BlockErr) (p : Nat) : Nat :=
  ((List.range 16).filter fun c =>
    syncViolation (errs.foldl (fun h e => if e.lane = p && e.col.val = c then h ^^^ e.header else h) (syncHeader c))).length

/-- The tail that lane number `k` left in its receiver's descrambler. -/
def tailOf (tails : List (Nat × BitVec 58)) (k : Nat) : BitVec 58 :=
  match tails.find? fun x => x.1 = k with
  | some x => x.2
  | none => 0

/-- The errors of one frame of `n` logical lanes on `total` physical ones: of its words, word w in column w div n on logical
lane w mod n; the sync violations; and the tails that its data lanes leave. -/
def frameErrs (ret : Bool) (total n skip : Nat) (tails : List (Nat × BitVec 58)) (errs : List BlockErr) :
    List Long × List (Nat × Nat) × List (Nat × BitVec 58) :=
  let lanes := (List.range n).map fun l =>
    let p := physLane total skip l
    descrambleErrs (tailOf tails (laneNo ret p)) (laneErrs errs p)
  let words := (List.range 16).flatMap fun c => lanes.map fun x => x.1.getD c 0
  let sync := (List.range n).filterMap fun l =>
    let v := laneSyncs errs (physLane total skip l)
    if v = 0 then none else some (l, v)
  let left := lanes.zipIdx.filterMap fun x =>
    if x.1.2 = 0 then none else some (laneNo ret (physLane total skip x.2), x.1.2)
  (words, sync, left ++ tails.filter fun x => decide (40 ≤ x.1) != ret)

/-! ### The packet of a lamp block pair (R207) -/

/-- Sixty-four codes in twelve words, packed as a raw payload (R365). -/
def codeWords (codes : List (BitVec 12)) : List Long :=
  let v := codes.zipIdx.foldl (fun v x => v + x.1.toNat * 2 ^ (12 * x.2)) 0
  (List.range 12).map fun i => BitVec.ofNat 64 (v / 2 ^ (64 * i))

/-- The codes of twelve words. -/
def wordCodes (ws : List Long) : List (BitVec 12) :=
  let v := ws.zipIdx.foldl (fun v x => v + x.1.toNat * 2 ^ (64 * x.2)) 0
  (List.range 64).map fun i => BitVec.ofNat 12 (v / 2 ^ (12 * i))

/-- A packet header: type, length in words, and the bits that the type gives. -/
def packetHeader (typ len bits : Nat) : Long := BitVec.ofNat 64 (typ + len * 2 ^ 8 + bits * 2 ^ 16)

/-- The 16 bits that report one comparator for the lamp block at `n` (R159). -/
def Cmp.reportBits (x : Cmp) (n : Nat) : Nat :=
  let held := x.holds.any fun h => decide (h.1 < n + 64) && decide (n < h.2)
  let one (o : Option Nat) : Nat := match o with
    | some p => p % 64 + 64
    | none => 0
  match x.reports.find? fun r => r.block = n with
  | some r => one r.rise + one r.fall * 2 ^ 7 + bit r.multi * 2 ^ 14 + bit held * 2 ^ 15
  | none => bit held * 2 ^ 15

/-- The label jump that the lamp block at `n` holds: the position of its sync tick, and V (R150). -/
def State.jumpIn (s : State) (n : Nat) : Option (Nat × Long) :=
  match s.time.syncs.find? fun p => decide (n ≤ p.sample) && decide (p.sample < n + 64) with
  | some p => some (p.sample - n, p.label)
  | none => none

/-- The words of a lamp block pair (types 01h and 06h). -/
def State.pairWords (s : State) (n : Nat) (a b : List (BitVec 12)) : List Long :=
  let flags := (s.sampleFlags 0 n (n + 64)).toNat + (s.sampleFlags 1 n (n + 64)).toNat * 2 ^ 24
  let reports := (s.lamp.a.cmp0.reportBits n) + (s.lamp.a.cmp1.reportBits n) * 2 ^ 16 +
    (s.lamp.b.cmp0.reportBits n) * 2 ^ 32 + (s.lamp.b.cmp1.reportBits n) * 2 ^ 48
  let body := [s.labelOf n, BitVec.ofNat 64 reports] ++ codeWords a ++ codeWords b
  match s.jumpIn n with
  | none => packetHeader 0x01 27 flags :: body
  | some j => packetHeader 0x06 29 flags :: (body ++ [BitVec.ofNat 64 j.1, j.2])

/-- The codes of the block pairs of a frame as received: `es` are the errors of its words, which follow one another from
word 0 on.  A frame that fails no check in spite of errors delivers them. -/
def State.receivePairs (s : State) (n : Nat) (es : List Long) :
    List (List (BitVec 12) × List (BitVec 12)) → List (List (BitVec 12) × List (BitVec 12))
  | [] => []
  | p :: ps =>
    let ws := s.pairWords n p.1 p.2
    let got := List.zipWith (· ^^^ ·) ws es
    (wordCodes ((got.drop 3).take 12), wordCodes ((got.drop 15).take 12)) :: s.receivePairs (n + 64) (es.drop ws.length) ps

end Sys2Proof.Machine
end

