-- ==== Sys2Proof/Machine/Tether.lean ====
section
/-! DEFINITION. The Tether die-to-die link (R203 to R216). -/

namespace Sys2Proof.Machine
open Sys2Proof

/-- Change the Tether. -/
def State.modTth (s : State) (g : Tth → Tth) : State := { s with tth := g s.tth }

/-! ### Lanes (R204, R214) -/

/-- Marks of the forward data lanes, bits 0 to 33. -/
def State.fwdBad (s : State) : Nat := (s.pair A.TTH_FWD_BAD_LO) % 2 ^ 34

/-- Set them; spares left follow (R215). -/
def State.setFwdBad (s : State) (m : Nat) : State :=
  let s := (s.setReg A.TTH_FWD_BAD_LO (BitVec.ofNat 32 m)).setF F.TTH_FWD_BAD_HI_BAD (m / 2 ^ 32)
  let bad := ((List.range 34).filter fun i => m.testBit i).length
  s.setF F.TTH_STATUS_FWD_SPARES (2 - bad)

/-- Marks of the return lanes. -/
def State.retBad (s : State) : Nat := s.f F.TTH_RET_BAD_BAD

/-- Set them. -/
def State.setRetBad (s : State) (m : Nat) : State :=
  let bad := ((List.range 3).filter fun i => m.testBit i).length
  (s.setF F.TTH_RET_BAD_BAD m).setB F.TTH_STATUS_RET_SPARE (bad = 0)

/-- What physical lane `p` of a direction transmits (R204): data under the map in force, or PRBS31. -/
def State.laneSends (s : State) (ret : Bool) (p : Nat) : LaneUse :=
  if ret then laneUse 3 2 s.tth.retMap p else laneUse 34 32 s.tth.fwdMap p

/-- Change the error counters of lane number `k`. -/
def modLane (k : Nat) (g : LaneErr → LaneErr) : List LaneErr → List LaneErr
  | [] => [g { lane := k, attr := 0, sync := 0, margin := 0 }]
  | x :: xs => if x.lane = k then g x :: xs else x :: modLane k g xs

/-- Count an attributed failure. -/
def State.laneAttr (s : State) (k : Nat) : State :=
  s.modTth fun t => { t with lanes := modLane k (fun x => { x with attr := min (x.attr + 1) 0xFFFF }) t.lanes }

/-- Count sync violations. -/
def State.laneSync (s : State) (k n : Nat) : State :=
  s.modTth fun t => { t with lanes := modLane k (fun x => { x with sync := min (x.sync + n) 0xFFFF }) t.lanes }

/-- Show a margin. -/
def State.laneMargin (s : State) (k m : Nat) : State :=
  s.modTth fun t => { t with lanes := modLane k (fun x => { x with margin := m }) t.lanes }

/-! ### Failure -/

/-- Entries still in transit are never applied (R212): they leave their queues, counted in `TTH_RET_DISCARD`. -/
def State.dropTransit (s : State) : List (Fin 15) → State
  | [] => s
  | u :: us =>
    let q := s.tl.queues[u]
    let keep := q.filter fun e => e.phase != .transit
    let s := s.incSat F.TTH_RET_DISCARD_COUNT (q.length - keep.length)
    ((s.setQueue u keep).incWrap (F.KPR_TLQ_u_DONE_DONE u) (counted q - counted keep)).dropTransit us

/-- The lamp stops receiving the return link (R158, R165); the event is lost while the forward link is down. -/
def State.returnLost (s : State) : State :=
  if s.on F.LMP_GLOBAL_STATUS_RETURN_OK then
    let s := (s.setB F.LMP_GLOBAL_STATUS_RETURN_OK false).modTth fun t => { t with lost := true }
    if s.on F.TTH_STATUS_FWD_UP then s.raise 52 else s
  else s

/-- A direction has failed beyond its spares (R212); the other one may have failed before it. -/
def State.tthFailed (s : State) (ret : Bool) : State :=
  if s.on F.TTH_STATUS_FAILED && !s.on (if ret then F.TTH_STATUS_RET_UP else F.TTH_STATUS_FWD_UP) then s
  else
    let s := (s.setB F.TTH_STATUS_FAILED true).raise 91
    let s := if ret then (s.setB F.TTH_STATUS_RET_UP false).returnLost else s.setB F.TTH_STATUS_FWD_UP false
    let s := (s.dropTransit (List.finRange 15)).modTth fun t => { t with unacked := [] }
    (s.forceFast).fogEnter 1

/-- Logical lane `l` of a direction is declared failing (R209, R210, R211): its physical lane gets a soft mark, the switch
frame is the 16th from the present frame count, and 3 successive return frames carry the switch request; with no spare left
the direction has failed. -/
def State.laneFail (s : State) (ret : Bool) (l : Nat) (preventive : Bool) : State :=
  let t := s.tth
  let p := if ret then physLane 3 t.retMap l else physLane 34 t.fwdMap l
  let bad := if ret then s.retBad else s.fwdBad
  if bad.testBit p then s
  else
    let s := s.raise (if ret then 83 else 81)
    let s := if preventive then s.raise 87 else s
    let s := { s with bst := { s.bst with softTether := s.bst.softTether ||| 2 ^ laneNo ret p } }
    let s := s.logCount 2
    let spares := if ret then s.f F.TTH_STATUS_RET_SPARE else s.f F.TTH_STATUS_FWD_SPARES
    let s := if ret then s.setRetBad (bad ||| 2 ^ p) else s.setFwdBad (bad ||| 2 ^ p)
    if spares = 0 then s.tthFailed ret
    else
      let f := (if ret then t.retFrames else t.frame) + 16
      let s := (if spares = 1 then s.raise 88 else s).sendRet (.switch_ ret f) 3
      s.modTth fun t => if ret then { t with retSwitch := some f } else { t with fwdSwitch := some f }

/-- The lane a failed frame is attributed to (R209). -/
def attributed (c : FrameCheck) (n : Nat) : Option Nat :=
  let bad := (List.range n).filter fun i => c.parity.getLsbD i
  if !c.crc8 then some (n - 1)
  else match bad with
    | [l] => some l
    | _ => none

/-- Count the sync violations and margins of a frame. -/
def State.countLanes (s : State) (ret : Bool) (c : FrameCheck) : State :=
  let ph (l : Nat) : Nat := laneNo ret (if ret then physLane 3 s.tth.retMap l else physLane 34 s.tth.fwdMap l)
  let s := c.sync.foldl (fun s x => s.laneSync (ph x.1) x.2) s
  c.margins.foldl (fun s x => s.laneMargin (ph x.1) x.2) s

/-- Successive frames with the margin below 0.12 UI, by logical lane (R209): 0.12 UI is 30.72 of 256. -/
def lowRuns (c : FrameCheck) (n : Nat) (old : List (Nat × Nat)) : List (Nat × Nat) :=
  (List.range n).filterMap fun l =>
    match c.margins.find? (·.1 = l) with
    | some x => if x.2 ≤ 30 then some (l, (lookupNat old l).getD 0 + 1) else none
    | none => none

/-- Test the lanes of a direction on frame number `f` (R209, R211). -/
def State.testLanes (s : State) (ret : Bool) (n f : Nat) (c : FrameCheck) : State :=
  let s := s.countLanes ret c
  let at_ := if c.ok then none else attributed c n
  let old := if ret then s.tth.retAttrs else s.tth.attrs
  let log := (old.filter fun x => decide (f < x.2 + 256)) ++ (match at_ with
    | some l => [(l, f)]
    | none => [])
  let s := match at_ with
    | some l => s.laneAttr (laneNo ret (if ret then physLane 3 s.tth.retMap l else physLane 34 s.tth.fwdMap l))
    | none => s
  let runs := lowRuns c n (if ret then s.tth.retLow else s.tth.lowRun)
  let s := s.modTth fun t =>
    if ret then { t with retAttrs := log, retLow := runs } else { t with attrs := log, lowRun := runs }
  let fails (l : Nat) : Bool :=
    decide (4 ≤ (lookupNat c.sync l).getD 0) || decide (3 ≤ (log.filter fun x => x.1 = l).length)
  let prev (l : Nat) : Bool := s.on F.TTH_CTRL_PREV_EN && decide (1024 ≤ (lookupNat runs l).getD 0)
  (List.range n).foldl (fun s l =>
    if fails l then s.laneFail ret l false
    else if prev l then s.laneFail ret l true
    else s) s

/-! ### Frames -/

/-- Block pairs of a forward frame whose frame count is `f` (R207). -/
def framePairs (f : Nat) : Nat := if f % 2 = 0 then 16 else 17

/-- Block pairs that the next forward frame carries: none converted at or after a pause of acquisition (R432), and none in
Fog-signal mode (R429). -/
def State.pairsNext (s : State) : Nat :=
  match s.rst.paused with
  | some a => min (framePairs s.tth.frame) ((a - s.tth.rx) / 64)
  | none => if s.slicesOff then 0 else framePairs s.tth.frame

/-- Take the reports of lamp-side entries that a forward frame carries (R129, R162). -/
def State.takeReports (s : State) : List (Fin 15) → State
  | [] => s
  | u :: us =>
    let q := s.tl.queues[u]
    let keep := q.filter fun e => e.phase != .reported
    ((s.setQueue u keep).incWrap (F.KPR_TLQ_u_DONE_DONE u) (counted q - counted keep)).takeReports us

/-- Largest magnitude of a code (R164): −2,048 counts as 2,048. -/
def peakOf (l : List (BitVec 12)) : Nat := l.foldl (fun m x => max m x.toInt.natAbs) 0

/-- Update `LMP_n_PEAK` with the codes of the block from sample `n` on: those converted since its last clear. -/
def State.updPeak (s : State) (ch : Fin 2) (n : Nat) (codes : List (BitVec 12)) : State :=
  s.setF (F.LMP_n_PEAK_PEAK ch) (max (s.f (F.LMP_n_PEAK_PEAK ch)) (peakOf (codes.drop ((s.lamp.get ch).peakFrom - n))))

/-- Update both channels' peaks with the blocks from sample `n` on. -/
def State.updPeaks (s : State) (n : Nat) : List (List (BitVec 12) × List (BitVec 12)) → State
  | [] => s
  | p :: ps => ((s.updPeak 0 n p.1).updPeak 1 n p.2).updPeaks (n + 64) ps

/-- The tower is done with the reports of comparator `c` for the lamp block at `n`: taken, or lost with the block (R208). -/
def State.dropReport (s : State) (ch c : Fin 2) (n : Nat) : State :=
  s.modCmp ch c fun x =>
    { x with reports := x.reports.filter fun r => decide (n < r.block), holds := x.holds.filter fun h => decide (n + 64 < h.2) }

/-- The tower takes the report of comparator `c` for the lamp block at `n` (R159): its rise is an event of Sector source 28 to
31 (R258). -/
def State.takeReport (s : State) (n : Nat) (ch c : Fin 2) : State :=
  let t := match (s.cmp ch c).reports.find? fun r => r.block = n with
    | some r => (match r.rise with
      | some p => s.secEvent (28 + 2 * ch + c) (n + p) 0 (s.sampleFlags ch (n + p) (n + p + 1))
          none none (n + p) ch
      | none => s)
    | none => s
  t.dropReport ch c n

/-- The tower takes a lamp block pair (R12, R149, R208): its comparator reports, unless it is one that the tower inserts, and
each channel's samples to the raw tap. -/
def State.takePair (s : State) (inserted : Bool) (a b : List (BitVec 12)) : State :=
  let n := s.tth.rx
  let s := s.modTth fun t => { t with rx := n + 64 }
  let each (g : State → Fin 2 → Fin 2 → State) : State := g (g (g (g s 0 0) 0 1) 1 0) 1 1
  let s := if inserted then each fun s ch c => s.dropReport ch c n else each fun s ch c => s.takeReport n ch c
  if s.pipeRuns then s.rawBlock n a b else s

/-- The tower takes block pairs. -/
def State.takePairs (s : State) (inserted : Bool) : List (List (BitVec 12) × List (BitVec 12)) → State
  | [] => s
  | (a, b) :: ps => (s.takePair inserted a b).takePairs inserted ps

/-- For a discarded frame the tower inserts a `GAP` block for each block it would have held (R208). -/
def State.gapFrame (s : State) (pairs : Nat) : State :=
  let n := s.tth.rx
  let e := n + 64 * pairs
  let s := (s.gapMark 0 n e).gapMark 1 n e
  let s := s.incSat F.TTH_GAP_BLOCKS_COUNT pairs
  let l := s.labelOf n
  let s := s.modTth fun t => { t with gapFrom := t.gapFrom.orElse fun _ => some l }
  let z := List.replicate 64 (0 : BitVec 12)
  s.takePairs true (List.replicate pairs (z, z))

/-- Has the switch frame of a direction come? -/
def State.switchDue (s : State) (ret : Bool) : Bool :=
  match (if ret then s.tth.retSwitch else s.tth.fwdSwitch) with
  | some f => decide (f ≤ if ret then s.tth.retFrames else s.tth.frame)
  | none => false

/-- At the switch frame both dies apply the new lane map (R210, R211). -/
def State.laneSwitch (s : State) (ret : Bool) : State :=
  if !s.switchDue ret then s
  else if ret then (s.modTth fun t => { t with retMap := s.retBad, retSwitch := none, retAttrs := [], retLow := [] }).raise 84
  else
    let s := match s.tth.gapFrom with
      | some l => s.setPair A.TTH_LAST_SWITCH_LO l.toNat
      | none => s
    (s.modTth fun t => { t with fwdMap := s.fwdBad, fwdSwitch := none, gapFrom := none, attrs := [], lowRun := [] }).raise 82

/-- LANE_SWITCH (R210): a frame that arrives at its switch frame finds the map applied, with this command or without. -/
def execLaneSwitch (ret : Bool) (s : State) : Out3 := .next (s.laneSwitch ret)

/-- `k` block pairs of 64 codes each, from a list. -/
def fitPairs (k : Nat) (pairs : List (List (BitVec 12) × List (BitVec 12))) : List (List (BitVec 12) × List (BitVec 12)) :=
  let fit (l : List (BitVec 12)) : List (BitVec 12) := (List.range 64).map fun i => l.getD i 0
  (List.range k).map fun i => let p := pairs.getD i ([], []); (fit p.1, fit p.2)

/-- What a good frame brings beside its block pairs (R150, R207, R211): the entry reports, the acknowledgement of the return
packets received in order, and the last label jump. -/
def State.takePackets (s : State) : State :=
  let s := s.modTth fun t =>
    { t with gapFrom := if t.fwdSwitch.isNone then none else t.gapFrom,
             unacked := t.unacked.dropWhile (·.got), jumpSeen := t.jump.isSome }
  s.takeReports (List.finRange 15)

/-- A forward frame arrives (R206 to R210): a frame that passes its CRC-16 delivers its packets; one that fails is discarded.
The lamp forms no frame for a tower that trains, sleeps or has lost the link. -/
def execForwardFrame (lanes : FrameLanes) (pairs : List (List (BitVec 12) × List (BitVec 12))) (s : State) : Out3 :=
  .next (if !s.on F.TTH_STATUS_FWD_UP || s.tth.asleep then s
    else
      let s := s.laneSwitch false
      let k := s.pairsNext
      let sent := fitPairs k pairs
      let n := s.tth.rx
      let s := if k = 0 then s else s.advanceSamples (n + 64 * k + 383)
      let f := s.tth.frame
      let (es, sync, tails) := frameErrs false 34 32 s.tth.fwdMap s.tth.tails lanes.errors
      let c := checkErrs 32 es sync lanes.margins
      let s := (s.incPair A.TTH_FRAMES_LO).modTth fun t => { t with frame := f + 1, tails := tails }
      let s := s.updPeaks n sent
      let s := if c.ok then
          (s.takePairs false (if es.all (· = 0) then sent else s.receivePairs n es sent)).takePackets
        else ((s.gapFrame k).incSat F.TTH_CRC_ERRS_COUNT).raiseLimited 86 1000
      s.testLanes false 32 f c)

/-- The active forwarded clock lane fails (R210, R212): the receivers move to lane 1, and `TTH_LAST_SWITCH` shows the first
`GAP` block of the interruption. -/
def execClockLaneFail (s : State) : Out3 :=
  let lane := s.f F.TTH_STATUS_CLK_LANE
  let s := s.setF F.TTH_FWD_BAD_HI_CLK_BAD (s.f F.TTH_FWD_BAD_HI_CLK_BAD ||| 2 ^ lane)
  .next (if s.f F.TTH_FWD_BAD_HI_CLK_BAD = 3 then s.tthFailed false
    else
      let s := (s.setF F.TTH_STATUS_CLK_LANE 1).raise 85
      s.setPair A.TTH_LAST_SWITCH_LO ((s.tth.gapFrom.getD (s.labelOf s.tth.rx)).toNat))

/-- Put up to `room` packets that wait for a transmission into return frame number `f`; `ok` says that it arrives.  The lamp
takes a packet once and discards it when it comes again (R211). -/
def carryPackets (f : Nat) (ok : Bool) : Nat → List RetPkt → List RetPkt
  | 0, ps => ps
  | _, [] => []
  | room + 1, p :: ps =>
    if p.due = 0 then p :: carryPackets f ok (room + 1) ps
    else { p with sentAt := p.sentAt.orElse fun _ => some f, due := p.due - 1, got := p.got || ok } :: carryPackets f ok room ps

/-- A return frame reaches the lamp (R206, R211): it carries up to 15 packets of two words, which a good one delivers, with the
acknowledgement of a label jump (R150). -/
def execReturnFrame (lanes : FrameLanes) (s : State) : Out3 :=
  let s := s.laneSwitch true
  let f := s.tth.retFrames
  let (es, sync, tails) := frameErrs true 3 2 s.tth.retMap s.tth.tails (lanes.errors.map fun e => { e with lane := e.lane - 40 })
  let c := checkErrs 2 es sync lanes.margins
  let s := s.modTth fun t => { t with retFrames := f + 1, tails := tails, unacked := carryPackets f c.ok 15 t.unacked }
  let s := if c.ok then s.modTth fun t => if t.jumpSeen then { t with jump := none, jumpSeen := false } else t
    else s.incSat F.TTH_RET_ERRS_CRC
  .next (s.testLanes true 2 f c)

/-- Is a packet due to be sent again (R211): not acknowledged 4 return frames after its transmission? -/
def RetPkt.again (p : RetPkt) (now : Nat) : Bool :=
  match p.sentAt with
  | some f => decide (p.due = 0) && decide (f + 4 ≤ now)
  | none => false

/-- Every packet that has gone 4 return frames without acknowledgement is sent again (R211). -/
def execReturnResend (s : State) : Out3 :=
  .next (if !s.on F.TTH_STATUS_RET_UP then s
    else
      let now := s.tth.retFrames
      let n := (s.tth.unacked.filter fun p => p.again now).length
      (s.modTth fun t => { t with
        unacked := t.unacked.map fun p => if p.again now then { p with sentAt := some now, due := 1 } else p }).incSat
        F.TTH_RET_ERRS_RESENT n)

/-- No valid return frame reaches the lamp for 1 µs (R212); a sleep packet suspends the test (R433). -/
def execReturnLinkTimeout (s : State) : Out3 :=
  .next (if s.tth.asleep || !s.on F.TTH_STATUS_RET_UP then s else s.tthFailed true)

/-! ### Training -/

/-- Start training from phase 1 (R213): fused marks apply, the per-lane counters start again. -/
def State.trainStart (s : State) : State :=
  let fwdF := s.pair A.TTH_FWD_FUSE_LO % 2 ^ 34
  let s := (s.setFwdBad (s.fwdBad ||| fwdF)).setRetBad (s.retBad ||| s.f F.TTH_RET_BAD_FUSE)
  let s := ((s.setB F.TTH_STATUS_TRAINING true).setB F.TTH_STATUS_FWD_UP false).setB F.TTH_STATUS_RET_UP false
  s.modTth fun t =>
    { t with phase := 1, attempt := 1, lanes := [], attrs := [], retAttrs := [], lowRun := [], retLow := [], tails := [],
             fwdSwitch := none, retSwitch := none, savedFwd := s.fwdBad, savedRet := s.retBad, savedSoft := s.bst.softTether }

/-- A write of 1 to `TTH_CTRL.RETRAIN` (R213). -/
def execRetrain (s : State) : Out3 := .next ((s.trainStart).raise 89)

/-- A training attempt ran out of spares (R213): repeated up to 3 times in all with the marks it began with, then given
up. -/
def State.trainAgain (s : State) : State :=
  let s := (s.setFwdBad s.tth.savedFwd).setRetBad s.tth.savedRet
  let s := { s with bst := { s.bst with softTether := s.tth.savedSoft } }
  if s.tth.attempt < 3 then s.modTth fun t => { t with phase := 1, attempt := t.attempt + 1 }
  else
    let s := (s.modTth fun t => { t with phase := 0 }).setB F.TTH_STATUS_TRAINING false
    (s.raise 90).fogEnter 1

/-- Soft marks that training adds (R213, R214). -/
def State.softMark (s : State) (m : Nat) : State := { s with bst := { s.bst with softTether := s.bst.softTether ||| m } }

/-- A free value raises the peak of channel `ch`: codes that no frame brought to the tower count at the lamp all the same
(R164). -/
def State.freePeak (s : State) (ch : Fin 2) : State :=
  let p := s.draw 12
  p.2.setF (F.LMP_n_PEAK_PEAK ch) (max (p.2.f (F.LMP_n_PEAK_PEAK ch)) (min p.1.toNat 2048))

/-- Blocks lost while the link trained are `GAP` blocks, up to those not yet due at the tower (R213).  Acquisition that has not
begun has lost none: its first block is the first the tower takes (R226, R437); nor has a pause, from its stop on (R432), or
Fog-signal mode. -/
def State.gapUntilNow (s : State) : State :=
  let due := s.time.samples - 383
  let k := match s.rst.paused with
    | some a => (min due a - s.tth.rx) / 64
    | none => if s.slicesOff then 0 else (due - s.tth.rx) / 64
  if k != 0 then
    if (s.flt.get 0).grids.isEmpty && (s.flt.get 1).grids.isEmpty && s.tth.rx = 0 then
      s.modTth fun t => { t with rx := 64 * k }
    else ((s.freePeak 0).freePeak 1).gapFrame k
  else s

/-- The link is up (R213 phase 4). -/
def State.tthUp (s : State) : State :=
  let s := ((s.setB F.TTH_STATUS_FWD_UP true).setB F.TTH_STATUS_RET_UP true).setB F.TTH_STATUS_TRAINING false
  let s := s.modTth fun t => { t with phase := 0, fwdMap := s.fwdBad, retMap := s.retBad, asleep := false }
  let s := s.setB F.LMP_GLOBAL_STATUS_RETURN_OK true
  let s := if s.tth.lost then (s.modTth fun t => { t with lost := false }).raise 53 else s
  (s.gapUntilNow).raise 80

/-- Lanes of a mark set. -/
def lanesIn (total m : Nat) : Nat := ((List.range total).filter fun i => m.testBit i).length

/-- Mark the lanes that failed a training phase; the last spare may go with them (R213, R216). -/
def State.trainMarks (s : State) (ret : Bool) (b : Nat) : State :=
  let had := if ret then s.f F.TTH_STATUS_RET_SPARE else s.f F.TTH_STATUS_FWD_SPARES
  let s := if ret then (s.setRetBad (s.retBad ||| b % 8)).softMark (b % 8 * 2 ^ 40)
    else (s.setFwdBad (s.fwdBad ||| b)).softMark b
  let has := if ret then s.f F.TTH_STATUS_RET_SPARE else s.f F.TTH_STATUS_FWD_SPARES
  if had != 0 && has = 0 then s.raise 88 else s

/-- A training phase ends (R213); `bad` are the physical lanes of its direction that failed it.  Phase 1 needs the backup clock
and phase 2 the sample clock. -/
def execTrainingPhaseDone (bad : BitVec 34) (margins : List (Nat × Nat)) (s : State) : Out3 :=
  .next (match s.tth.phase with
    | 1 =>
      if !s.good.tclk then s
      else
        let s := s.trainMarks true bad.toNat
        if 1 < lanesIn 3 s.retBad then s.trainAgain else s.modTth fun t => { t with phase := 2 }
    | 2 =>
      if !s.good.sclk then s
      else
        let s := s.trainMarks false bad.toNat
        let s := margins.foldl (fun s x => s.laneMargin x.1 x.2) s
        if 2 < lanesIn 34 s.fwdBad then s.trainAgain else s.modTth fun t => { t with phase := 3 }
    | 3 => s.tthUp
    | _ => s)

end Sys2Proof.Machine
end

