-- ==== Sys2Proof/Machine/ResetOps.lean ====
section
/-! DEFINITION. What each reset returns to its reset value, part by part (R437), and the life-cycle engine's answer to a
reset. -/

namespace Sys2Proof.Machine
open Sys2Proof

/-! ### Parts (the rows of R437) -/

/-- The streams, `NVQ_*`, unit 10 enables and staging. -/
def State.resetStreams (s : State) : State :=
  let s := ((s.resetRange 0xD02000 0xD0E000).resetRange 0xD40000 0xE00000)
  let s := (s.setF F.AMC_ADMIT_RD_USED 0).setF F.HST_LINK_LIMIT_USED 0
  { s with streams := Vector.replicate 64 Stream.zero, nvq := Vector.replicate 16 Nvq.zero }

/-- The DMA channels and queues. -/
def State.resetDma (s : State) : State :=
  { s.resetRange 0xD01000 0xD02000 with dma := Vector.replicate 32 Dma.zero }

/-- HST, with the latches of R7. -/
def State.resetHst (s : State) : State :=
  let s := s.resetRange 0xD00000 0xD01000
  { s with time := { s.time with latch := [], staged := [] } }

/-- PCIe configuration space and the MSI-X table. -/
def State.resetPcie (s : State) : State :=
  let s := s.resetRange 0xD0E000 0xD0F000
  { s with evt := { s.evt with msixEnable := false, funcMask := false, lastMsg := [] },
           rst := { s.rst with d3hot := false, pme := false, pmeEn := false } }

/-- EVT, with the DEV registers that share its reset (R477, R486). -/
def State.resetEvt (s : State) : State :=
  let s := ((s.resetRange 0x1300000 0x1303000).resetRange 0 A.DEV_SCRATCH).resetRange (A.DEV_SCRATCH + 4) 0x100000
  { s with evt := { s.evt with lastMsg := [], gpioPulse := 0, lastRaise := [] } }

/-- The panel settings. -/
def State.resetPnl (s : State) : State :=
  { s.resetRange 0xE00000 0xF00000 with pnl := Pnl.zero }

/-- Units 2 and 3.  The log of what IQ records show is the stream engine's, and data captured before is read by it
(R368). -/
def State.resetFlt (s : State) : State :=
  let z (f : Flt) : Flt := { Flt.zero with log := f.log }
  let s := (s.dropHeldOut 0).dropHeldOut 1
  { s.resetRange 0x600000 0x700000 with flt := ⟨z s.flt.a, z s.flt.b⟩ }

/-- Units 4 and 5, with the spectra on their way to Glow. -/
def State.resetLns (s : State) : State :=
  { s.resetRange 0x700000 0x800000 with lns := ⟨Lns.zero, Lns.zero⟩, specs := ⟨[], []⟩ }

/-- Unit 6 and the tower side of unit 14: the `TRIG_OUT` sources and the tick registers are not the Sector unit's.  A pulse on
`XTRIG` ends (R285). -/
def State.resetSec (s : State) : State :=
  let s := (s.resetRange 0x800000 0x80F000).resetRange 0x840000 (A.SEC_IO_TRIGOUTn_SRC 0)
  let s := s.resetRange (A.SEC_IO_TRIGOUTn_SRC 0 + 8) 0x900000
  let ignore := if s.pins.xtrigLow then s.time.samples + 256 else s.sec.xignore
  { s.setXtrig false with sec := { Sec.zero with examined := s.time.samples, xignore := ignore } }

/-- The interpolators' last accepted gains and the measurement count, which only power-on reset clears (R292, R300). -/
def Ivu.kept (u : Ivu) : Ivu :=
  let gain (id : Nat) : Option Nat := (u.chans.toList.flatMap fun c => [c.service, c.relief]).findSome? fun i =>
    if i.id = id then i.gain else none
  let keep (i : Interp) : Interp := { i with gain := gain i.id }
  { Ivu.zero with total := u.total,
                  chans := Ivu.zero.chans.map fun (c : IvCh) => { c with service := keep c.service, relief := keep c.relief } }

/-- Unit 8.  The level at `IVU_GATE` stays; its polarity is active high again. -/
def State.resetIvu (s : State) : State :=
  let level := (s.ivu.gateAt (sclkUp s.time.samples)).2 != (s.reg A.IVU_GATE_CTRL).getLsbD 1
  { ((s.dropHeldOut 2).dropHeldOut 3).resetRange 0x900000 0xA00000 with
    ivu := { s.ivu.kept with gates := if level then [(0, true)] else [] } }

/-- Unit 7; the buffers it stores to are part of the memory configuration. -/
def State.resetGlw (s : State) : State :=
  let s := ((s.resetRange 0xA00000 (A.GLW_n_BUF0_LO 0)).resetRange (A.GLW_n_SAT_COUNT 0) (A.GLW_n_BUF0_LO 1))
  { s.resetRange (A.GLW_n_SAT_COUNT 1) 0xB00000 with glwSet := GlwSet.zero, glw := ⟨Glw.zero, Glw.zero⟩ }

/-- Unit 9 and the capture FIFO; a capture that ends gives its reserved write rate back (R331). -/
def State.resetCap (s : State) : State :=
  let s := (((s.resetRange 0xC00200 0xC00300).resetRange 0xC40000 0xC80000).resetRange A.AMC_FIFO (A.AMC_FIFO + 4)).resetRange
    A.AMC_LAST_REFUSE (A.AMC_LAST_REFUSE + 4)
  { s.setF F.AMC_ADMIT_WR_USED 0 with cap := ⟨CapCh.zero, CapCh.zero⟩, amc := { s.amc with incoming := [], fifo := [] } }

/-- A core in reset: the vectors of the image stay with it. -/
def Core.reset (k : Core) (n : Nat) : Core :=
  { Core.zero n with entryPc := k.entryPc, restartPc := k.restartPc, trapPc := k.trapPc }

/-- The Beacon cores, their queues and unit 13. -/
def State.resetBcn (s : State) : State :=
  let s := (s.resetRange 0xB02000 0xB10000).resetRange 0xB40000 0xB80000
  { s with cores := Vector.ofFn fun (i : Fin 17) => if isKeeper i then s.cores[i] else (s.cores[i]).reset i.val,
           disp := ⟨[], []⟩ }

/-- The Keeper's state: everything of the KPR block below the watchdog, its cycle count with it (R89).  A held target is the
timeline's (R437). -/
def State.resetKeeper (s : State) : State :=
  let s := s.resetRange A.KPR_CTRL A.KPR_WDT_CTRL
  { s with time := { s.time with kcyc := ⟨0, 0, !s.good.sclk⟩ }, cores := s.cores.set keeperNo ((s.cores[keeperNo]).reset 16),
           keeper := { s.keeper with storeBuf := [], mbox := false, cause := 0 } }

/-- The whole KPR block. -/
def State.resetKpr (s : State) : State :=
  let s := s.resetKeeper
  { s.resetRange 0xB00000 0xB01000 with keeper := Keeper.zero }

/-- Timeline queues, held target, `KPR_TL_*` and windows; the lamp-side stores keep their entries until the image load
empties them (R426), but the queues' registers no longer count them (R142). -/
def State.resetTimeline (s : State) : State :=
  let kept (u : Fin 15) : List Entry :=
    ((s.tl.queues[u]).filter fun e => lampSide u e.sel).map fun e => { e with kept := true }
  let s := (s.resetRange 0xB01000 0xB02000)
  let s := { s with tl := { Timeline.zero with queues := Vector.ofFn kept } }
  (List.finRange 15).foldl (fun s u => s.updLevel u) s

/-- The settings of units 0 and 1 and the `TRIG_OUT` sources, with the entries in their stores; an overload episode ends, and
the freeze it made with it (R176). -/
def State.resetLamp (s : State) : State :=
  let s := (s.setFrozen 0 (F.CAL_n_STATUS_FRZ_EP 0) false s.time.samples).setFrozen 1 (F.CAL_n_STATUS_FRZ_EP 1) false s.time.samples
  let s := ((s.flushUnit 0).flushUnit 1)
  let io := (s.tl.queues[(14 : Fin 15)]).filter fun e => !lampSide 14 e.sel || e.phase == .reported
  let n := counted s.tl.queues[(14 : Fin 15)] - counted io
  let s := (s.setQueue 14 io).incSat (F.KPR_TLQ_u_FLUSHED_FLUSHED 14) n
  let ret := s.on F.LMP_GLOBAL_STATUS_RETURN_OK
  let s := (s.resetRange 0x300000 0x400000).resetRange (A.SEC_IO_TRIGOUTn_SRC 0) (A.SEC_IO_TRIGOUTn_SRC 0 + 8)
  let s := (s.setB F.LMP_GLOBAL_STATUS_RETURN_OK ret).updPending
  let keep (l : Lamp) : Lamp := { Lamp.zero with marks := l.marks }
  ({ s with lamp := ⟨keep s.lamp.a, keep s.lamp.b⟩,
            tower := ⟨⟨[], none, false, [(0, 0x100)]⟩, ⟨[], none, false, [(0, 0x100)]⟩⟩ }).updPins

/-! ### What a reset does at the life-cycle engine -/

/-- A new `LCS_NONCE` (R451, R453). -/
def State.lcsNonce (s : State) : State := s.trngWords (A.LCS_NONCEi 0)

/-- Fuses and flags that no reset returns: the Tether fuse marks (R214) and the spares that soft repairs gave back
(R467). -/
def State.carryFuses (s old : State) : State :=
  let s := (s.setPair A.TTH_FWD_FUSE_LO (old.pair A.TTH_FWD_FUSE_LO)).setF F.TTH_RET_BAD_FUSE (old.f F.TTH_RET_BAD_FUSE)
  s.setF F.BST_SRAM_REPAIRS_FREE (old.f F.BST_SRAM_REPAIRS_FREE + old.f F.BST_SRAM_REPAIRS_SOFT)

/-! ### Fog causes and FAULT_N (R440, R441) -/

/-- The force of FAST on the pins ends at the reset that clears its cause (R158). -/
def State.unforce (s : State) : State := ((s.setB (toForced 0) false).setB (toForced 1) false).updPins

/-- Clear the causes `l` a reset clears; with none left the part leaves Fog-signal mode and its release takes it to
ACTIVE. -/
def State.fogClear (s : State) (l : List Nat) : State :=
  let hot := s.on F.PWR_THERM_HOT
  let s := l.foldl (fun s b => if b = 2 && hot then s else s.setB (fogBit b) false) s
  (if s.pwrState = 4 && s.f F.PWR_FOG_CAUSE_CAUSE = 0 then (s.setF F.PWR_STATUS_STATE 0).unforce else s).updFault

/-- Set a cause bit and, where EVT runs on, raise `RST_CAUSE` (R421, R445). -/
def State.causeBit (s : State) (x : Fld) : State := (s.setB x true).raise 11

/-! ### Power-on reset and the `RESET_N` scope (R421, R422, R437) -/

/-- Power-on reset: everything but OTP, the fuses and the flash; the input pins keep their levels and `out`, `free` and
the queue are the model's own. -/
def State.porReset (s : State) : State :=
  let p := State.reset.pins
  let t := { State.reset with
    log := { Log.zero with slots := s.log.slots }, lcs := { Lcs.zero with otp := s.lcs.otp }, free := s.free,
    ivu := { Ivu.zero with gates := s.resetIvu.ivu.gates }, out := s.out, pending := s.pending,
    pins := { p with resetN := s.pins.resetN, perstN := s.pins.perstN, pwrWarnN := s.pins.pwrWarnN, por := true,
                     faultN := s.pins.faultN, xtrigHeld := s.pins.xtrigHeld } }
  ((t.carryFuses s).setB F.PWR_STATUS_WARN (!s.pins.pwrWarnN)).updFault

/-- POWER_ON_RESET (R421, R422). -/
def execPowerOnReset (s : State) : Out3 := .next s.porReset

/-- Registers that the `RESET_N` scope keeps: the cause, the PWR registers, `DEV_SCRATCH`, the Gauge, the Logbook and the
BST results. -/
def keptPin (a : Nat) : Bool :=
  a = A.DEV_SCRATCH || a = A.RST_CAUSE || (0x100100 ≤ a && a < 0x100200) || (0xF00000 ≤ a && a < 0x1100000) ||
  (A.BST_STATUS ≤ a && a < A.BST_REPAIR) || (A.BST_PATROL_STATUS ≤ a && a < 0x1200400)

/-- The `RESET_N` scope (R421). -/
def State.pinScope (s : State) : State :=
  let z := State.reset
  let t := { z with
    regs := s.regs.filter fun r => keptPin r.1,
    sram := s.sram, time := { Time.zero with tcyc := { s.time.tcyc with unsure := true } }, good := { z.good with aclk := s.good.aclk },
    pins := { z.pins with resetN := s.pins.resetN, perstN := s.pins.perstN, pwrWarnN := s.pins.pwrWarnN,
                          por := s.pins.por, faultN := s.pins.faultN, xtrigHeld := s.pins.xtrigHeld },
    gge := s.gge, log := s.log, ivu := s.resetIvu.ivu, lcs := { Lcs.zero with otp := s.lcs.otp },
    bst := { s.bst with burn := none, blocks := [], softTether := 0 },
    rst := { Rst.zero with steps := s.rst.steps.filter (· ≤ 1) }, free := s.free, out := s.out, pending := s.pending }
  let t := ((t.carryFuses s).setF F.BST_SRAM_REPAIRS_SOFT 0).setB F.CLK_STATUS_ACLK_OK (s.on F.CLK_STATUS_ACLK_OK)
  let t := (t.setF F.CAL_STATUS_CRC_FAILS (s.f F.CAL_STATUS_CRC_FAILS)).setB F.LCS_STATUS_TRNG_FAIL
    (s.on F.LCS_STATUS_TRNG_FAIL)
  let t := (t.transCut.setB F.BST_PATROL_STATUS_RUNNING false).fogClear [0, 1, 2, 3, 4]
  if t.pwrState = 4 then t.forceFast else t

/-- RESET_N (R421): a self-test run ends with it (R466). -/
def execResetN (s : State) : Out3 :=
  .next (if s.pins.por then { s with pins := { s.pins with resetN := false } }
    else
      let s := { s with pins := { s.pins with resetN := false } }
      (s.bstCut.patrolCut.pinScope).setB F.RST_CAUSE_PIN true)

/-- The `RESET_N` scope from inside: a life-cycle transition or a whole-device self-test (R421, R452, R465).  The straps are
not sampled again. -/
def State.innerReset (s : State) (cause : Fld) : State :=
  let straps := s.reg A.RST_STRAPS
  let mode := s.f F.CLK_STATUS_MODE
  (((s.patrolCut.pinScope).setReg A.RST_STRAPS straps).setF F.CLK_STATUS_MODE mode).setB cause true

/-- Sample the straps (R424): 11b acts as 00b. -/
def State.sampleStraps (s : State) (boot clk : BitVec 2) : State :=
  let used (v : Nat) : Nat := if v = 3 then 0 else v
  let s := (s.setF F.RST_STRAPS_BOOT_SRC boot.toNat).setF F.RST_STRAPS_CLK_MODE clk.toNat
  let s := (s.setF F.RST_STRAPS_BOOT_USED (used boot.toNat)).setF F.RST_STRAPS_CLK_USED (used clk.toNat)
  s.setF F.CLK_STATUS_MODE (used clk.toNat)

/-- A TAP instruction that controls the pins (R462). -/
def Tap.controls : Tap → Bool
  | .extest | .extestPulse | .extestTrain | .clamp | .highz => true
  | _ => false

/-- RESET_N_RISE (R424, R462): the TAP returns to Test-Logic-Reset from an instruction that controls the pins. -/
def execResetNRise (boot clk : BitVec 2) (s : State) : Out3 :=
  .next (if s.pins.resetN then s
    else
      let s := { s with pins := { s.pins with resetN := true } }
      let s := s.modBst fun b => { b with tap := if b.tap.controls then .idcode else b.tap }
      if s.pins.por then s else s.sampleStraps boot clk)

/-! ### `PERST_N` and hot reset -/

/-- A life-cycle engine that a `PERST_N` or a later load leaves without a load. -/
def State.loadDrop (s : State) : State :=
  (s.setB F.LCS_LOAD_STATUS_BUSY false).modLcs fun l => { l with load := none, hostWait := false }

/-- A per-block request, waiting or in progress, of the blocks `l` is abandoned by a wider reset (R423). -/
def State.dropRequests (s : State) (l : List Nat) : State :=
  let s := s.modRst fun r =>
    { r with blocks := Vector.ofFn fun (b : Fin 13) => if l.contains b.val then Blk.idle else r.blocks[b],
             heldReqs := r.heldReqs.filter fun b => !l.contains b }
  l.foldl (fun s b => ((s.setB ⟨A.RST_BLOCK_REQ, b, 1⟩ false)).setB ⟨A.RST_BLOCK_HELD, b, 1⟩ false) s

/-- On the way out of Fog-signal mode (R440) the slices convert again, from the next lamp block on; a calibration step that was
under way is not usable (R178). -/
def State.slicesOn (s : State) : State :=
  ((s.calPause 0).calPause 1).modTth fun t => { t with rx := (s.time.samples + 64) / 64 * 64 }

/-- The tower die outside the always-on island (R421, R437).  A part below WATCH will go on to ACTIVE (R431). -/
def State.perstScope (s : State) : State :=
  let fog := s.pwrState = 4 && s.rst.paused.isNone
  let s := s.bstCut.patrolCut
  let low := s.rst.paused.isSome || s.pwrState = 2 || s.pwrState = 3
  let s := ((s.resetStreams.resetDma.resetHst.resetPcie.resetEvt).resetPnl.resetFlt).resetLns.resetSec
  let s := ((s.resetIvu.resetGlw.resetCap).resetTimeline.resetBcn).resetKpr
  let s := { s with good := { s.good with hclk := false },
                    rst := { s.rst with gapNext := [], lmpFrom := none, toActive := low, dieHeld := true,
                                        steps := s.rst.steps.filter (· ≤ 3) } }
  let s := (s.setB F.CLK_STATUS_HCLK_OK false).loadDrop
  let s := (s.dropRequests (List.range 13)).carryFuses s
  let s := s.trimRestart
  let s := ((s.setF F.BST_SRAM_REPAIRS_SOFT 0).transCut).fogClear [2, 3]
  if fog && s.pwrState != 4 then s.slicesOn else s

/-- PERST_N (R421). -/
def execPerstN (s : State) : Out3 :=
  .next (if s.pins.por || !s.pins.resetN then { s with pins := { s.pins with perstN := false } }
    else (({ s with pins := { s.pins with perstN := false } }).perstScope).setB F.RST_CAUSE_PERST true)

/-- `LCS_RESUMED` is raised once EVT runs (R452). -/
def State.tellResumed (s : State) : State :=
  if s.lcs.resumed && !s.evtReset then (s.modLcs fun l => { l with resumed := false }).raise 306 else s

/-- PERST_N_RISE (R426): the steps that follow are RELEASE_STEP_DONE's. -/
def execPerstNRise (s : State) : Out3 := .next ({ s with pins := { s.pins with perstN := true } }).tellResumed

/-- HOT_RESET (R421, R426): the PCIe core, HST, DMA and STR; no power state changes (R431).  The link goes down (R388). -/
def execHotReset (s : State) : Out3 :=
  .next (if s.evtReset then s
    else
      let up := s.on F.HST_STATUS_LINK_UP
      let s := (((((s.resetStreams.resetDma).resetHst).resetPcie).dropRequests [10]).trimRestart).causeBit F.RST_CAUSE_HOT
      if up then s.raise 241 else s)

/-! ### Thermal trip (R435) -/

/-- The thermal-trip reset: pipeline units and cores (R421, R437). -/
def State.thermScope (s : State) : State :=
  let s := (s.resetStreams.resetDma).resetPnl.resetFlt
  let s := ((s.resetLns.resetSec).resetIvu.resetGlw).resetCap
  ((((s.resetBcn).resetKeeper).dropRequests [3, 4, 5, 6, 7, 8, 10, 11]).trimRestart).causeBit F.RST_CAUSE_THERM

/-- THERMAL_TRIP (R435): the first trip; a further comparator's changes nothing while one holds. -/
def execThermalTrip (sensor : Fin 16) (s : State) : Out3 :=
  .next (if s.on F.PWR_THERM_HOT then s
    else
      let s := (s.setB F.PWR_THERM_HOT true).setB F.PWR_THERM_TRIPPED true
      let s := ((s.setF F.PWR_THERM_SENSOR sensor).raise 17).fogEnter 2
      (s.thermScope).logCount 7)

/-- THERMAL_CLEAR (R435). -/
def execThermalClear (s : State) : Out3 :=
  .next (if s.on F.PWR_THERM_HOT then (s.setB F.PWR_THERM_HOT false).raise 18 else s)

end Sys2Proof.Machine
end

