-- ==== Sys2Proof/Machine/Reset.lean ====
section
/-! DEFINITION. The release steps (R425, R426), the per-block reset machines (R22, R427, R428) and the power states (R429
to R436). -/

namespace Sys2Proof.Machine
open Sys2Proof

/-! ### Release (R425) -/

/-- Release step `n` has been made. -/
def State.stepDone (s : State) (n : Nat) : State := s.modRst fun r => { r with steps := n :: r.steps }

/-- Has step `n` been made since the last reset? -/
def State.did (s : State) (n : Nat) : Bool := s.rst.steps.contains n

/-- Soft repairs of the SRAM (R467): each takes a free spare and counts in the Logbook. -/
def State.softRepairs (s : State) (n : Nat) : State :=
  let n := min n (s.f F.BST_SRAM_REPAIRS_FREE)
  let s := (s.setF F.BST_SRAM_REPAIRS_SOFT (s.f F.BST_SRAM_REPAIRS_SOFT + n)).setF F.BST_SRAM_REPAIRS_FREE
    (s.f F.BST_SRAM_REPAIRS_FREE - n)
  (List.range n).foldl (fun s _ => s.logCount 3) s

/-- A row that no spare repairs (R467). -/
def State.unrepaired (s : State) (offset : BitVec 26) : State :=
  ((s.setF F.BST_SRAM_FAIL_ADDR_OFFSET offset.toNat).setB F.BST_STATUS_SRAM_UNREP true).raise 311

/-- Step 1: ACLK runs and the always-on island is released. -/
def State.release1 (s : State) (boot clk : BitVec 2) : State :=
  let s := { s with good := { s.good with aclk := true }, pins := { s.pins with por := false } }
  let s := s.setB F.CLK_STATUS_ACLK_OK true
  ((if s.pins.resetN then s.sampleStraps boot clk else s).newNonce.updFault).stepDone 1

/-- Step 2: OTP is read (R425, R448).  No trim set is in force yet: every sample will carry `TRIM_PENDING` (R179, log entry
127). -/
def State.release2 (s : State) : State := ((s.lcsShow.lcsNonce).trimPend).stepDone 2

/-- Step 3, after power-on reset: the Logbook load and the Gauge scan start. -/
def State.release3 (s : State) : State :=
  ((s.modLog fun l => { l with loading := decide (s.f F.LOG_STATUS_STATE = 0) }).ggeStart).stepDone 3

/-- Step 5: the backup clock and the tower die, with soft repair (R467) and the return training of the Tether, which the lamp die's resets alone
bring about (R213, R426). -/
def State.release5 (s : State) (repairs : Nat) (bad : Option (BitVec 26)) : State :=
  let s := { s with good := { s.good with tclk := true, kclk := true } }
  let s := (s.modRst fun r => { r with dieHeld := false }).softRepairs repairs
  let s := match bad with
    | some a => s.unrepaired a
    | none => s
  (if s.tth.attempt != 0 then s else s.trainStart).stepDone 5

/-- A transition to `target` starts (R431). -/
def State.powerBegin (s : State) (target : Nat) (at_ : Option Long) : State :=
  let from_ := s.pwrState
  let s := (s.setB F.PWR_STATUS_BUSY true).modRst fun r => { r with trans := some { target := target, from_ := from_, at_ := at_ } }
  let s := if from_ = 0 && target != 0 then (s.pnlHalt 3).setF F.AMC_LTR_PANEL_US 0xFFFF else s
  let s := if from_ = 3 && target != 3 then s.trainStart else s
  if 2 ≤ from_ && target ≤ 1 then s.srExit else s

/-- Step 6: the image load from the source of `BOOT_SRC`; the part ends in ACTIVE (R431), through the transition that leads there
where `PERST_N` met it in STANDBY or SLEEP (log entry 130). -/
def State.release6 (s : State) : State :=
  let s := (if s.rst.toActive then
      let from_ := if s.rst.sleepTick.isSome then 3 else 2
      ((s.setF F.PWR_STATUS_STATE from_).modRst fun r => { r with toActive := false }).powerBegin 0 none
    else s.setF F.PWR_STATUS_STATE 0).stepDone 6
  if s.f F.RST_STRAPS_BOOT_USED = 1 then s.modLcs fun l => { l with hostWait := true } else s.loadStart false

/-- Step 7: the trim load starts (R179), unless one has run since the lamp die's reset. -/
def State.release7 (s : State) : State := (if s.f F.CAL_STATUS_TRIM_STATE = 0 then s.trimLoadStart else s).stepDone 7

/-- RELEASE_STEP_DONE (R425): a step runs once, when what it waits for holds; a whole-device self-test runs between steps
2 and 4 (R465), and a pending transition is completed before step 5 (R452). -/
def execReleaseStepDone (step : ReleaseStep) (boot clk : BitVec 2) (repairs : BitVec 16) (unrepaired : Option (BitVec 26))
    (s : State) : Out3 :=
  let whole := s.on F.BST_STATUS_WHOLE
  .next (match step with
    | .s1 => if s.pins.por && !s.did 1 then s.release1 boot clk else s
    | .s2 => if s.did 1 && s.pins.resetN && !s.did 2 then s.release2 else s
    | .s3 => if s.did 2 && !s.did 3 then s.release3 else s
    | .s4 =>
      if s.did 2 && s.pins.perstN && !whole && !s.did 4 then
        (({ s with good := { s.good with hclk := true } }).setB F.CLK_STATUS_HCLK_OK true).stepDone 4
      else s
    | .s5 =>
      if s.did 2 && s.on F.CLK_STATUS_REF_PRESENT && s.domainLocked .tclk && s.lcs.otp.pend = 0 && !whole && !s.did 5 then
        s.release5 repairs.toNat unrepaired
      else s
    | .s6 => if s.did 4 && s.did 5 && s.pwrState != 4 && !s.did 6 then s.release6 else s
    | .s7 => if s.did 6 && s.on F.CLK_STATUS_TOWER_LOCKED && !s.did 7 then s.release7 else s)

/-! ### Per-block reset (R427, R428) -/

/-- Bit of a block in a register of R443. -/
def blkBit (a : Nat) (b : Fin 13) : Fld := ⟨a, b, 1⟩

/-- Enter a state of block `b`'s machine; `REQ` reads 1 until it is IDLE or HELD again. -/
def State.setBlk (s : State) (b : Fin 13) (x : Blk) : State :=
  let s := s.modRst fun r => { r with blocks := r.blocks.set b x }
  (s.setB (blkBit A.RST_BLOCK_REQ b) (x != .idle && x != .held)).setB (blkBit A.RST_BLOCK_HELD b) (x == .held)

/-- State of block `b`'s machine. -/
def State.blk (s : State) (b : Fin 13) : Blk := s.rst.blocks[b]

/-- A request of block `b` that its machine takes. -/
def State.blockStart (s : State) (b : Fin 13) : State :=
  match s.blk b with
  | .idle => s.setBlk b .quiesce
  | .held => s.setBlk b .waitClk
  | _ => s

/-- A request of block `b` (R427, R428): discarded in Fog-signal mode, held in STANDBY and SLEEP. -/
def State.blockReq (s : State) (b : Fin 13) : State :=
  if s.pwrState = 4 then s
  else if 2 ≤ s.pwrState then
    (match s.blk b with
     | .idle | .held =>
       (s.modRst fun r => { r with heldReqs := b.val :: r.heldReqs.filter (· != b.val) }).setB (blkBit A.RST_BLOCK_REQ b) true
     | _ => s)
  else s.blockStart b

/-- A write of `RST_BLOCK_REQ` (R427). -/
def State.blockReqs (s : State) (v : Word) : State :=
  (List.finRange 13).foldl (fun (s : State) (b : Fin 13) => if v.getLsbD b then s.blockReq b else s) s

/-- RST_BLOCK_REQ (R427). -/
def execRstBlockReq (data : BitVec 32) (s : State) : Out3 := .next (s.blockReqs data)

/-- The TTH registers and the link; lane marks are kept (R437). -/
def State.resetTth (s : State) : State :=
  let fwd := s.pair A.TTH_FWD_BAD_LO
  let fuse := s.pair A.TTH_FWD_FUSE_LO
  let ret := s.reg A.TTH_RET_BAD
  let s := ((s.resetRange 0x500000 0x600000).setPair A.TTH_FWD_BAD_LO fwd).setPair A.TTH_FWD_FUSE_LO fuse
  { s.setReg A.TTH_RET_BAD ret with tth := { Tth.zero with rx := s.tth.rx, retFrames := s.tth.retFrames } }

/-- The CAL registers and the entries of unit 11 in the lamp-side store; a freeze by `FREEZE` ends, one by an overload episode
holds on (R176). -/
def State.resetCal (s : State) : State :=
  let a := s.time.samples
  let s := (s.setFrozen 0 (F.CAL_n_STATUS_FRZ_PRG 0) false a).setFrozen 1 (F.CAL_n_STATUS_FRZ_PRG 1) false a
  let fails := s.f F.CAL_STATUS_CRC_FAILS
  let ep0 := s.on (F.CAL_n_STATUS_FRZ_EP 0)
  let ep1 := s.on (F.CAL_n_STATUS_FRZ_EP 1)
  let s := ((s.flushUnit 11).resetRange 0x400000 0x500000).setF F.CAL_STATUS_CRC_FAILS fails
  let s := (s.setB (F.CAL_n_STATUS_FRZ_EP 0) ep0).setB (F.CAL_n_STATUS_FRZ_EP 1) ep1
  { s with cal := ⟨Cal.zero, Cal.zero⟩, trims := ⟨none, none, 0⟩ }.trimPend

/-- The AMC's settings and counters and the capture writer; what R326 found of the DIMMs stays, and so does the memory. -/
def State.resetAmc (s : State) : State :=
  let s := (s.resetCap.resetRange A.AMC_CFG (A.AMC_CFG + 4)).resetRange A.AMC_FIFO_LOST_LO A.AMC_LAST_REFUSE
  let s := (List.range 8).foldl (fun s c => s.resetRange (A.AMC_c_CE c) (A.AMC_c_OVERRUN c + 4)) s
  { s with amc := { Amc.zero with run := s.amc.run, temps := s.amc.temps } }

/-- The Gauge. -/
def State.resetGge (s : State) : State := { s.resetRange 0xF00000 0x1000000 with gge := Gge.zero }

/-- Reset is asserted to block `b` (R427, R437). -/
def State.blockReset (s : State) (b : Fin 13) : State :=
  match b.val with
  | 0 => s.resetLamp.modRst fun r => { r with lmpFrom := some s.time.samples }
  | 1 => s.resetCal
  | 2 => s.resetTth
  | 3 => s.resetFlt
  | 4 => s.resetLns
  | 5 => s.resetSec
  | 6 => s.resetIvu
  | 7 => s.resetGlw
  | 8 => s.resetBcn
  | 9 => s.resetAmc
  | 10 => s.resetStreams.resetDma
  | 11 => s.resetPnl
  | _ => s.resetGge

/-- Block `b` goes from QUIESCE into RESET: the cause is the request's, or the self-test's that induced it (R421, R465). -/
def State.blockAssert (s : State) (b : Fin 13) : State :=
  let bist := s.bst.blocks.contains b.val
  let s := s.modBst fun x => { x with blocks := x.blocks.filter (· != b.val) }
  (((s.blockReset b).trimRestart).setBlk b .reset).causeBit (if bist then F.RST_CAUSE_BIST else F.RST_CAUSE_BLOCK)

/-- BLOCK_IDLE (R427). -/
def execBlockIdle (block : Fin 13) (s : State) : Out3 :=
  .next (if s.blk block == .quiesce then s.blockAssert block else s)

/-- QUIESCE_TIMEOUT (R427). -/
def execQuiesceTimeout (block : Fin 13) (s : State) : Out3 :=
  .next (if s.blk block == .quiesce then
      ((s.setB (blkBit A.RST_BLOCK_FORCED block) true).raise 9).blockAssert block
    else s)

/-- BLOCK_RESET_ELAPSED (R427). -/
def execBlockResetElapsed (block : Fin 13) (s : State) : Out3 :=
  .next (if s.blk block == .reset then s.setBlk block .waitClk else s)

/-- The next output of the units named carries `GAP` (R428). -/
def State.gapAfter (s : State) (l : List Nat) : State := s.modRst fun r => { r with gapNext := l ++ r.gapNext }

/-- The lamp's samples of the reset are lost; the first lamp block after it carries `GAP`. -/
def State.lampGap (s : State) : State :=
  match s.rst.lmpFrom with
  | none => s
  | some a =>
    let e := (s.time.samples + 64) / 64 * 64
    let s := (s.gapMark 0 a e).gapMark 1 a e
    ((s.addMark 0 e (some (e + 64)) Flag.gap).addMark 1 e (some (e + 64)) Flag.gap).modRst fun r => { r with lmpFrom := none }

/-- What the release of block `b` starts: the marks of R428, and the work the block begins with.  Its first element is the next
sample of the lamp, or of the next block that reaches the tower. -/
def State.blockRelease (s : State) (b : Fin 13) : State :=
  let first := if b.val ≤ 1 then s.time.samples + 1 else s.tth.rx
  let s := s.modRst fun r => { r with upFrom := r.upFrom.set b first }
  match b.val with
  | 0 => s.lampGap
  | 1 => s.trimLoadStart
  | 2 => s.trainStart
  | 3 => s.gapAfter [0, 1]
  | 4 => s.gapAfter [2, 3]
  | 5 => s.gapAfter [4]
  | 6 => s.gapAfter [5]
  | 7 => { s with glw := ⟨{ s.glw.a with gap := true }, { s.glw.b with gap := true }⟩ }
  | 8 => (List.finRange 17).foldl (fun s c => if isKeeper c then s else s.modCore c fun k => { k with flagAcc := Flag.gap }) s
  | 9 =>
    let s := { s with cap := ⟨{ s.cap.a with gap := true }, { s.cap.b with gap := true }⟩ }
    if s.amcState = 0 then s else s.retrainStart .retrain
  | 12 => s.ggeStart
  | _ => s

/-- The domain of block `b`'s clock (R20, R475). -/
def blockDomain (b : Fin 13) : Domain :=
  match b.val with
  | 0 | 1 => .sclk
  | 9 => .mclk
  | 11 => .pclk
  | 12 => .aclk
  | _ => .tclk

/-- Is a domain's clock good? -/
def Good.of (g : Good) (d : Domain) : Bool :=
  match d with
  | .sclk => g.sclk
  | .tclk => g.tclk
  | .kclk => g.kclk
  | .mclk => g.mclk
  | .hclk => g.hclk
  | .pclk => g.pclk
  | .aclk => g.aclk

/-- BLOCK_CLOCK_GOOD (R22, R427): no reset is released before the domain's clock is good; STR and DMA lie in two domains. -/
def execBlockClockGood (block : Fin 13) (s : State) : Out3 :=
  .next (if s.blk block == .waitClk && s.good.of (blockDomain block) && (block != 10 || s.good.hclk) then ((s.setBlk block .idle).blockRelease block).raise 8 else s)

/-- 1 ms without clock-good: the block stays in reset (R22, R427). -/
def State.blockNoClock (s : State) (b : Fin 13) : State :=
  if s.blk b == .waitClk then ((s.setBlk b .held).setB (blkBit A.RST_BLOCK_NOCLK b) true).raise 10 else s

/-- BLOCK_CLOCK_TIMEOUT (R427). -/
def execBlockClockTimeout (block : Fin 13) (s : State) : Out3 := .next (s.blockNoClock block)

/-- CLK_NOT_READY (R22): the release request that R427 makes for software. -/
def execClkNotReady (block : Fin 13) (s : State) : Out3 := .next (s.blockNoClock block)

/-- Requests held in STANDBY or SLEEP start on the return to ACTIVE or WATCH (R428). -/
def State.heldBlocks (s : State) : State :=
  let l := s.rst.heldReqs
  (List.finRange 13).foldl (fun s b => if l.contains b.val then s.blockStart b else s) (s.modRst fun r => { r with heldReqs := [] })

/-! ### Power states (R430 to R434) -/

/-- Enter power state `n`; the watchdog's count pauses or goes on (R433). -/
def State.setPower (s : State) (n : Nat) : State :=
  let s := s.wdtFold.setF F.PWR_STATUS_STATE n
  s.modKeeper fun k => { k with wdtFrom := s.time.samples }

/-- The refusal of a request, 0 for an accepted one (R430): the lowest code. -/
def State.powerRefusal (s : State) (target : Nat) (at_ : Bool) : Nat :=
  let st := s.pwrState
  let t := s.pair A.PWR_TICK_LO
  let stop := st ≤ 1 && target ≥ 2
  let start := (st = 2 || st = 3) && target ≤ 1
  if s.on F.PWR_STATUS_BUSY then 2
  else if at_ && ((stop && t < s.tickNow.toNat + 64000) || (start && t < s.tickNow.toNat + 9000000)) then 3
  else if st = 4 then 4
  else if at_ && st = 3 then 5
  else 0

/-- A request for a power state (R430); `AT` is ignored between ACTIVE and WATCH. -/
def State.powerAsk (s : State) (target : Nat) (at_ : Bool) : State :=
  let at_ := at_ && !(s.pwrState ≤ 1 && target ≤ 1)
  let e := s.powerRefusal target at_
  if e != 0 then (s.setF F.PWR_STATUS_RESULT e).raise 13
  else (s.setF F.PWR_STATUS_RESULT 1).powerBegin target (if at_ then some (BitVec.ofNat 64 (s.pair A.PWR_TICK_LO)) else none)

/-- The wake from SLEEP by source bit `x` (R433). -/
def State.wakeMark (s : State) (x : Fld) : State :=
  let s := (s.setB x true).raise 14
  if s.rst.d3hot then
    let s := s.modRst fun r => { r with pme := true }
    if s.rst.pmeEn then s.emit .pme else s
  else s

/-- A write of `PWR_CTRL` (R430, R433): in SLEEP it wakes to its `TARGET`. -/
def State.pwrCtrl (s : State) (v : Word) : State :=
  let n := bitsOf v.toNat 0 3
  let s := (s.setB F.PWR_CTRL_AT (v.getLsbD 3)).setB F.PWR_CTRL_D3_SLEEP (v.getLsbD 5)
  let s := if n ≤ 3 then s.setF F.PWR_CTRL_TARGET n else s
  let target := s.f F.PWR_CTRL_TARGET
  let sleeps := s.pwrState = 3 && !s.on F.PWR_STATUS_BUSY && target != 3
  if v.getLsbD 4 then
    let t := s.powerAsk target (v.getLsbD 3)
    if sleeps && t.f F.PWR_STATUS_RESULT = 1 then t.wakeMark F.PWR_WAKE_SRC_HOST else t
  else if sleeps then (s.powerBegin target none).wakeMark F.PWR_WAKE_SRC_HOST
  else s

/-- POWER_REQUEST (R430). -/
def execPowerRequest (data : BitVec 32) (s : State) : Out3 := .next (s.pwrCtrl (data ||| 16))

/-- The sample at which acquisition stops or resumes: the first lamp block start at or after `PWR_TICK` with `AT` = 1, else
the one at or after `label`. -/
def State.pauseAt (s : State) (t : Trans) (label : Long) : Nat :=
  blockUp (s.sampleOf (match t.at_ with
    | some x => x
    | none => label))

/-- Ask every active DMA channel to stop (R361). -/
def State.dmaStops (s : State) : State :=
  (List.finRange 32).foldl (fun s c =>
    if (s.dma[c]).active.isSome then s.modDma c fun d => { d with stopAsked := true } else s) s

/-- ACQUISITION_STOP (R432): the last sample converted is S − 1. -/
def execAcquisitionStop (label : BitVec 64) (s : State) : Out3 :=
  .next (match s.rst.trans with
    | none => s
    | some t =>
      if t.target < 2 || 2 ≤ t.from_ || s.rst.paused.isSome then s
      else
        let a := s.pauseAt t label
        let s := s.advanceSamples a
        let s := (s.setPair A.PWR_PAUSE_LO (s.labelOf a).toNat).modRst fun r => { r with paused := some a }
        let s := (((s.capClose 0 true).capClose 1 true).calPause 0).calPause 1
        (((s.ivuFlush (1024 * a)).ivuEnd 2 a).dmaStops).setB F.PWR_STATUS_DMA_WAIT (s.dma.any fun d => d.active.isSome))

/-- Sector condition counts, level runs and power windows restart (R432). -/
def Sec.restart (x : Sec) : Sec :=
  { x with masks := x.masks.map fun m => { m with run := 0, prev := none, edge := false, bin := none, flags := 0 },
           progs := x.progs.map fun p => { p with locals := Vector.replicate 8 Local.zero } }

/-- ACQUISITION_RESUME (R432): the first sample is Q; a status marker (SOURCE 90h) carries Q and S. -/
def execAcquisitionResume (label : BitVec 64) (s : State) : Out3 :=
  .next (match s.rst.trans, s.rst.paused with
    | some t, some _ =>
      if 1 < t.target || t.from_ < 2 then s
      else
        let q := s.pauseAt t label
        let s := s.advanceSamples q
        let l := s.labelOf q
        let s := (s.setPair A.PWR_RESUME_LO l.toNat).modRst fun r => { r with paused := none, resumed := q }
        let s := (s.fltSync 0 q).fltSync 1 q
        let s := (s.modSec Sec.restart).modTth fun x => { x with rx := q }
        s.marker 0x90 l (s.pair A.PWR_PAUSE_LO)
    | _, _ => s)

/-- DMA pauses end (R431). -/
def State.dmaResumeAll (s : State) : State :=
  (List.finRange 32).foldl (fun s c => ((s.modDma c fun d => { d with stopAsked := false }).setB (F.DMA_n_STATUS_PAUSED c) false).dmaNext c) s

/-- SLEEP is entered: the Tether stops, `SEC_TICK_NOW` holds its value, the memory synthesiser stops, and the wake sources start
anew (R429, R431, R433). -/
def State.sleepEnter (s : State) : State :=
  let s := (s.modTth fun t => { t with asleep := true }).setB F.CLK_STATUS_MEM_LOCKED false
  (s.modRst fun r => { r with sleepTick := some s.tickNow }).modGge fun g => { g with wake := false }

/-- What the state entered from `from_` brings with it (R429, R431); a change of state ends a patrol slice (R471). -/
def State.powerEnter (s : State) (from_ target : Nat) : State :=
  let s := if from_ = target then s else s.patrolCut
  let s := if from_ ≤ 1 && 2 ≤ target then
      (s.memSleep.setB F.CLK_STATUS_TOWER_LOCKED false).setB F.CLK_STATUS_ON_BACKUP true else s
  let s := if target = 3 && from_ != 3 then s.sleepEnter else s
  let s := if from_ = 3 && target != 3 then (s.modRst fun r => { r with sleepTick := none }).memLock else s
  let s := if 2 ≤ from_ && target ≤ 1 then ((s.towerLock.srExit).dmaResumeAll).heldBlocks else s
  if target = 0 && from_ != 0 then s.pnlRestart else s

/-- Have DMA stopped and the capture FIFO and stream staging drained (R431)? -/
def State.drained (s : State) : Bool :=
  (s.dma.all fun d => d.active.isNone) && s.amc.fifo.isEmpty && s.amc.incoming.isEmpty && s.streams.all fun t => t.formed.isEmpty

/-- POWER_TRANSITION_DONE (R430, R431): a state below WATCH needs the stop of acquisition and, from ACTIVE or WATCH, everything
drained; ACTIVE or WATCH need acquisition resumed. -/
def execPowerTransitionDone (s : State) : Out3 :=
  .next (match s.rst.trans with
    | none => s
    | some t =>
      if s.rst.paused.isSome != decide (2 ≤ t.target) || (decide (t.from_ ≤ 1 && 2 ≤ t.target) && !s.drained) then s
      else
        let s := ((s.setPower t.target).transCut).powerEnter t.from_ t.target
        s.raise 12)

/-- STANDBY_DRAIN_TIMEOUT (R431, R375): the records still in staging are dropped. -/
def execStandbyDrainTimeout (s : State) : Out3 :=
  .next (match s.rst.trans with
    | none => s
    | some t =>
      if t.target < 2 then s
      else (List.finRange 64).foldl (fun s k =>
        let l := (s.streams[k]).formed
        if l.isEmpty then s
        else
          let held := s.heldStaging l
          (s.modStream k fun x => { (x.freeStaging held) with formed := [] }).countDrop k l.length) s)

/-- Is the cause of a wake there (R433, R407): an alarm raised in SLEEP on a Gauge input whose `WAKE` is set; an edge is its
own. -/
def State.wakeCause (s : State) : WakeSource → Bool
  | .gpio _ => true
  | .gauge => s.gge.wake

/-- WAKE (R433): a source that `PWR_WAKE_CFG` enables brings the part from SLEEP to STANDBY. -/
def execWake (source : WakeSource) (s : State) : Out3 :=
  let bit_ : Nat := match source with
    | .gpio p => p.val
    | .gauge => 16
  .next (if s.pwrState = 3 && !s.on F.PWR_STATUS_BUSY && s.on ⟨A.PWR_WAKE_CFG, bit_, 1⟩ && s.wakeCause source then
      (s.powerBegin 2 none).wakeMark ⟨A.PWR_WAKE_SRC, bit_, 1⟩
    else s)

/-- D3HOT (R434). -/
def execD3hot (pmeEn : Bool) (s : State) : Out3 :=
  .next (if s.rst.d3hot then s
    else
      let s := (s.modRst fun r => { r with d3hot := true, pmeEn := pmeEn }).raise 20
      s.powerAsk (if s.on F.PWR_CTRL_D3_SLEEP then 3 else 2) false)

/-- RETURN_TO_D0 (R434). -/
def execReturnToD0 (s : State) : Out3 :=
  .next (if s.rst.d3hot then (s.modRst fun r => { r with d3hot := false }).powerAsk 0 false else s)

/-! ### Power warning (R436) -/

/-- PWR_WARN_FALL (R436). -/
def execPwrWarnFall (s : State) : Out3 :=
  .next (if s.pins.pwrWarnN then
      let s := { s with pins := { s.pins with pwrWarnN := false } }
      ((s.logCommit 1).setB F.PWR_STATUS_WARN true).raise 15
    else s)

/-- PWR_WARN_RISE (R436). -/
def execPwrWarnRise (s : State) : Out3 :=
  .next (({ s with pins := { s.pins with pwrWarnN := true } }).setB F.PWR_STATUS_WARN false)

end Sys2Proof.Machine
end

