-- ==== Sys2Proof/Machine/Lcs.lean ====
section
/-! DEFINITION. Life-cycle commands and transitions (R449 to R454), the TAP (R462), self-test runs (R464 to R466), fused
repair (R468) and the patrol test (R469 to R471). -/

namespace Sys2Proof.Machine
open Sys2Proof

/-! ### Checking a command (R449 to R451) -/

/-- The command in the buffer, 8 KiB. -/
def State.lcsCmd (s : State) : List Byte := Mem.readN s.lcs.cmdBuf 0 8192

/-- Byte `i` of a command. -/
def cmdByte (c : List Byte) (i : Nat) : Nat := (c.getD i 0).toNat

/-- Is a field of R449 wrong (result 2h)? -/
def cmdBad (c : List Byte) : Bool :=
  let op := cmdByte c 4
  let slotOp := op = 2 || op = 4
  fieldOf c 0 4 != 0x4C434D44 || cmdByte c 7 != 0 || (op != 2 && !allZero (cut c 48 80)) ||
  (if slotOp then decide (1 < cmdByte c 80) else cmdByte c 80 != 0) || !allZero (cut c 81 84) ||
  (op != 7 && !allZero (cut c 84 88)) || !allZero (cut c 88 128) || !allZero (cut c 3860 4096) ||
  !allZero (cut c 7828 8192) || (cmdByte c 5 = 255 && !allZero (cut c 128 3860)) ||
  (cmdByte c 6 = 255 && !allZero (cut c 4096 7828))

/-- Are the operation and its signers permitted in state `st` (R450)?  `slot` is the slot index of the command. -/
def opAllowed (st op a b slot : Nat) : Bool :=
  let aSlot := a = 1 || a = 2
  let other := a = (if slot = 0 then 2 else 1)
  match op with
  | 1 => st = 0 && a = 0 && b = 255
  | 2 => b = 255 && ((st = 1 && a = 255) || (st = 2 && other))
  | 3 => st = 1 && aSlot && b = 255
  | 4 => st = 2 && other && b = 255
  | 5 => (st = 1 && a = 0 && b = 255) || (st = 2 && aSlot && b = 0)
  | 6 => b = 255 && (((st = 0 || st = 1 || st = 3) && a = 0) || (st = 2 && aSlot))
  | 7 => b = 255 && ((st = 1 && (a = 0 || aSlot)) || (st = 2 && aSlot))
  | _ => false

/-- The hash that signer `x` must have; none for a slot that is unprogrammed or revoked. -/
def Otp.signerHash (o : Otp) (x : Nat) : Option (BitVec 256) :=
  match x with
  | 0 => if programmed o.vendor then some o.vendor else none
  | 1 => if o.usable 0 then some o.owner.a else none
  | 2 => if o.usable 1 then some o.owner.b else none
  | _ => none

/-- Does the public key of signer `x` at byte `at_` hash to its OTP field? -/
def Otp.keyOk (o : Otp) (c : List Byte) (x at_ : Nat) : Bool :=
  if x = 255 then true
  else match o.signerHash x with
    | some h => digest (sha3 (cut c at_ (at_ + 1312))) = h
    | none => false

/-- Does the signature of signer `x` whose key lies at byte `at_` verify? -/
def Otp.sigOk (o : Otp) (c : List Byte) (x at_ : Nat) : Bool :=
  if x = 255 then true
  else match o.signerHash x with
    | some _ => Config.mldsaVerify (cut c at_ (at_ + 1312)) (sha3 (cut c 0 128)) (cut c (at_ + 1312) (at_ + 3732))
    | none => false

/-- Is the factory trim set in OTP whole (R179)? -/
def trimsOk (d : List Byte) : Bool := d.length = 144 && (crc32c (d.take 140)).toNat = ofBytes (d.drop 140)

/-- The precondition of an operation (result 8h). -/
def State.lcsPre (s : State) (c : List Byte) : Bool :=
  let o := s.lcs.otp
  let slot := cmdByte c 80
  match cmdByte c 4 with
  | 1 => programmed o.vendor && trimsOk o.factory && !s.on F.LCS_STATUS_TRNG_FAIL
  | 2 => o.slot slot = 0
  | 4 => o.usable (1 - slot)
  | 7 => decide (o.svn ≤ fieldOf c 84 4) && decide (fieldOf c 84 4 ≤ 64)
  | _ => true

/-- The result of the checks of R451, in the order of the codes; 1h when all pass.  With a failed TRNG the nonce check is
failed by every command but `PROVISION`, which fails its precondition (R453, log entry 27). -/
def State.lcsCheck (s : State) (c : List Byte) : Nat :=
  let o := s.lcs.otp
  let a := cmdByte c 5
  let b := cmdByte c 6
  let bad := s.on F.LCS_STATUS_TRNG_FAIL
  let nonce := (List.range 8).flatMap fun i => bytesOf 4 (s.reg (A.LCS_NONCEi i)).toNat
  if s.on F.LCS_STATUS_CMD_BUSY || o.pend != 0 then 10
  else if cmdBad c then 2
  else if !opAllowed o.state (cmdByte c 4) a b (cmdByte c 80) then 3
  else if !(o.keyOk c a 128 && o.keyOk c b 4096) then 4
  else if fieldOf c 8 8 != s.pair A.DEV_SERIAL_LO then 5
  else if (if bad then cmdByte c 4 != 1 else cut c 16 48 != nonce) then 6
  else if !(o.sigOk c a 128 && o.sigOk c b 4096) then 7
  else if !s.lcsPre c then 8
  else 1

/-! ### Carrying a command out (R450, R452) -/

/-- Change OTP; the registers show it. -/
def State.modOtp (s : State) (g : Otp → Otp) : State := (s.modLcs fun l => { l with otp := g l.otp }).lcsShow

/-- A field with its remaining bits burned. -/
def Otp.erase (o : Otp) : Otp :=
  { o with seed := BitVec.allOnes 256, owner := ⟨BitVec.allOnes 256, BitVec.allOnes 256⟩ }

/-- Steps 2 and 3 of R452 for target state `t`: the secrets are erased or the seed is drawn, and the transition bit is
burned. -/
def State.transFinish (s : State) (t : Nat) : State :=
  let p := s.draw 256
  let s := if t = 1 then p.2.modOtp fun o => { o with seed := p.1 }
    else if 3 ≤ t then s.modOtp Otp.erase
    else s
  s.modOtp fun o => { o with bits := o.bits ||| BitVec.ofNat 4 (2 ^ (t - 1)), pend := 0 }

/-- The state a transition leads to. -/
def opTarget (op : Nat) : Nat := if op = 1 then 1 else if op = 3 then 2 else if op = 5 then 3 else 4

/-- An attempt ends with result `r` (R451). -/
def State.lcsEnd (s : State) (op r : Nat) : State :=
  (((s.setF F.LCS_CMD_RESULT_RESULT r).setF F.LCS_CMD_RESULT_OP op).raise 302).lcsNonce

/-- An accepted transition (R452).  A burn that fails verification is the one of the pending field (log entry 28). -/
def State.lcsTransit (s : State) (op : Nat) (how : Transit) : State :=
  let t := opTarget op
  match how with
  | .failed => s.lcsEnd op 9
  | .interrupted => (s.modOtp fun o => { o with pend := t + 1 }).setB F.LCS_STATUS_CMD_BUSY true
  | .done => ((s.transFinish t).lcsEnd op 1).innerReset F.RST_CAUSE_LCS

/-- A burn that takes effect at once (R452); when it fails verification the field holds a free value (log entry 28). -/
def State.lcsBurn (s : State) (c : List Byte) (ok : Bool) : State :=
  let op := cmdByte c 4
  let slot := cmdByte c 80
  let p := s.draw 256
  let s := if ok then s else p.2
  let hash : BitVec 256 := if ok then BitVec.ofNat 256 (fieldOf c 48 32) else p.1
  let s := match op with
    | 2 => s.modOtp fun o => { o with owner := if slot = 0 then { o.owner with a := hash } else { o.owner with b := hash } }
    | 4 => s.modOtp fun o => { o with revoked := if ok || p.1.getLsbD 0 then o.revoked ||| BitVec.ofNat 2 (2 ^ slot) else o.revoked }
    | _ => s.modOtp fun o => { o with svn := if ok then fieldOf c 84 4 else o.svn + p.1.toNat % (65 - o.svn) }
  s.lcsEnd op (if ok then 1 else 9)

/-- A write of `LCS_CMD_CTRL.GO` (R449, R451). -/
def State.lcsGo (s : State) (how : Transit) (ok : Bool) : State :=
  let c := s.lcsCmd
  let op := cmdByte c 4
  let r := s.lcsCheck c
  if r != 1 then s.lcsEnd op r
  else if op = 2 || op = 4 || op = 7 then s.lcsBurn c ok
  else s.lcsTransit op how

/-- The command `op` is issued; a buffer that holds another one is not this command (log entry 7). -/
def State.lcsOp (s : State) (op : Nat) (how : Transit) (ok : Bool) : State :=
  if cmdByte s.lcsCmd 4 = op then s.lcsGo how ok else s

/-- PROVISION (R450). -/
def execProvision (how : Transit) (s : State) : Out3 := .next (s.lcsOp 1 how true)
/-- PROGRAM_SLOT (R450). -/
def execProgramSlot (ok : Bool) (s : State) : Out3 := .next (s.lcsOp 2 .done ok)
/-- SECURE (R450). -/
def execSecure (how : Transit) (s : State) : Out3 := .next (s.lcsOp 3 how true)
/-- REVOKE_SLOT (R450). -/
def execRevokeSlot (ok : Bool) (s : State) : Out3 := .next (s.lcsOp 4 .done ok)
/-- RETURN (R450). -/
def execReturnLcs (how : Transit) (s : State) : Out3 := .next (s.lcsOp 5 how true)
/-- SCRAP (R450). -/
def execScrap (how : Transit) (s : State) : Out3 := .next (s.lcsOp 6 how true)
/-- RAISE_SVN (R450). -/
def execRaiseSvn (ok : Bool) (s : State) : Out3 := .next (s.lcsOp 7 .done ok)

/-- TRANSITION_RESUME (R452): after step 2 of the release and before the tower die's. -/
def execTransitionResume (s : State) : Out3 :=
  .next (if s.lcs.otp.pend != 0 && s.did 2 && !s.did 5 then
      let s := s.transFinish (s.lcs.otp.pend - 1)
      (s.modLcs fun l => { l with resumed := true }).tellResumed
    else s)

/-- TRNG_FAIL (R453). -/
def execTrngFail (s : State) : Out3 :=
  .next (if s.on F.LCS_STATUS_TRNG_FAIL then s
    else ((s.setB F.LCS_STATUS_TRNG_FAIL true).raise 305).lcsNonce.newNonce)

/-- ID_READY (R454): after step 2 of the release, where the seed gives an identity (R447, R448). -/
def execIdReady (s : State) : Out3 :=
  let o := s.lcs.otp
  .next (if s.did 2 && programmed o.seed && (o.state = 1 || o.state = 2) then s.setB F.LCS_STATUS_ID_READY true else s)

/-! ### Fused repair (R468) -/

/-- A request to burn repairs into the fuses. -/
def State.burnStart (s : State) (b : Burn) : State :=
  if !s.lcs.otp.grants [0, 1, 3] || s.on F.BST_STATUS_BUSY || s.bst.burn.isSome then s.setF F.BST_REPAIR_REPAIR_RESULT 2
  else (s.modBst fun x => { x with burn := some b }).setB F.BST_REPAIR_BURNING true

/-- A write of `BST_REPAIR` (R468). -/
def State.bstRepair (s : State) (v : Word) : State :=
  if v.getLsbD 0 && v.getLsbD 1 then s.burnStart .both
  else if v.getLsbD 0 then s.burnStart .sram
  else if v.getLsbD 1 then s.burnStart .tether
  else s

/-- FUSE_SRAM (R468). -/
def execFuseSram (data : BitVec 32) (s : State) : Out3 := .next (s.bstRepair (data ||| 1))
/-- FUSE_TETHER (R468). -/
def execFuseTether (data : BitVec 32) (s : State) : Out3 := .next (s.bstRepair (data ||| 2))

/-- The soft lane marks are in the fuses (R214). -/
def State.fuseTether (s : State) : State :=
  let m := s.bst.softTether
  let s := s.setPair A.TTH_FWD_FUSE_LO (s.pair A.TTH_FWD_FUSE_LO ||| m % 2 ^ 34)
  (s.setF F.TTH_RET_BAD_FUSE (s.f F.TTH_RET_BAD_FUSE ||| m / 2 ^ 40 % 8)).modBst fun x => { x with softTether := 0 }

/-- REPAIR_BURN_DONE (R468). -/
def execRepairBurnDone (ok : Bool) (s : State) : Out3 :=
  .next (match s.bst.burn with
    | none => s
    | some b =>
      let s := ((s.modBst fun x => { x with burn := none }).setB F.BST_REPAIR_BURNING false).setF F.BST_REPAIR_REPAIR_RESULT
        (if ok then 1 else 3)
      let s := if ok && b != .tether then s.setF F.BST_SRAM_REPAIRS_SOFT 0 else s
      (if ok && b != .sram then s.fuseTether else s).raise 312)

/-! ### The TAP (R462) -/

/-- Name of an instruction. -/
def Tap.name : Tap → String
  | .bypass => "BYPASS" | .idcode => "IDCODE" | .samplePreload => "SAMPLE/PRELOAD" | .extest => "EXTEST"
  | .extestPulse => "EXTEST_PULSE" | .extestTrain => "EXTEST_TRAIN" | .clamp => "CLAMP" | .highz => "HIGHZ"
  | .intscan => "INTSCAN" | .repair => "REPAIR"

/-- Is an instruction available (R462)? -/
def State.tapOk (s : State) (i : Tap) : Bool :=
  match i with
  | .bypass | .idcode | .samplePreload => true
  | .intscan | .repair => !s.pins.resetN && s.lcs.otp.grants [0, 1, 3]
  | _ => !s.pins.resetN

/-- A TAP instruction is loaded: one that is not available acts as `BYPASS`. -/
def State.tapLoad (s : State) (i : Tap) : State :=
  if s.tapOk i then (s.modBst fun b => { b with tap := i }).emit (.tap i.name)
  else
    let s := (s.modBst fun b => { b with tap := .bypass }).emit (.tap "BYPASS")
    (s.setB F.BST_STATUS_JTAG_BLOCKED true).raise 313

/-- BYPASS (R462). -/
def execBypass (s : State) : Out3 := .next (s.tapLoad .bypass)
/-- IDCODE (R462). -/
def execIdcode (s : State) : Out3 := .next ((s.tapLoad .idcode).emit (.readData (s.reg A.DEV_IDCODE).toNat))
/-- SAMPLE_PRELOAD (R462). -/
def execSamplePreload (s : State) : Out3 := .next (s.tapLoad .samplePreload)
/-- EXTEST (R462). -/
def execExtest (s : State) : Out3 := .next (s.tapLoad .extest)
/-- EXTEST_PULSE (R462). -/
def execExtestPulse (s : State) : Out3 := .next (s.tapLoad .extestPulse)
/-- EXTEST_TRAIN (R462). -/
def execExtestTrain (s : State) : Out3 := .next (s.tapLoad .extestTrain)
/-- CLAMP (R462). -/
def execClamp (s : State) : Out3 := .next (s.tapLoad .clamp)
/-- HIGHZ (R462). -/
def execHighz (s : State) : Out3 := .next (s.tapLoad .highz)
/-- INTSCAN (R462). -/
def execIntscan (s : State) : Out3 := .next (s.tapLoad .intscan)
/-- REPAIR (R462, R468): burns both kinds of soft repair. -/
def execRepair (s : State) : Out3 :=
  .next (if s.tapOk .repair then (s.tapLoad .repair).burnStart .both else s.tapLoad .repair)

/-! ### Self-test runs (R464 to R466) -/

/-- Block that a test resets (R464); none for the tests of the whole device. -/
def testBlock (t : Nat) : Option (Fin 13) :=
  match t with
  | 0 => some 2 | 1 => some 9 | 2 => some 11 | _ => none

/-- The per-block reset that a run induces for test `t` (R465). -/
def State.testReset (s : State) (t : Nat) : State :=
  match testBlock t with
  | none => s
  | some b => (s.modBst fun x => { x with blocks := b.val :: x.blocks.filter (· != b.val) }).blockStart b

/-- A run may not start (R465). -/
def State.bstRefused (s : State) (tests : Nat) : Bool :=
  decide (1 < s.pwrState) || !s.lcs.otp.grants [0, 1, 2, 3] || s.on F.BST_STATUS_BUSY ||
  (tests.testBit 1 && s.f F.AMC_STATUS_CH_MASK = 0)

/-- The result registers of test `t` before it runs. -/
def State.testClear (s : State) (t : Nat) : State :=
  ((s.setF (bstRes t) 0).setReg (A.BST_t_COUNT t) 0).setReg (A.BST_t_STATE t) 0

/-- A run starts (R465). -/
def State.bstStart (s : State) (tests : Nat) : State :=
  let todo := (List.range 5).filter tests.testBit
  let whole := tests.testBit 3 || tests.testBit 4
  let s := todo.foldl (fun s t => s.testClear t) s
  let s := ((s.modBst fun b => { b with todo := todo, failed := false }).setB F.BST_STATUS_BUSY true).setB F.BST_STATUS_WHOLE whole
  if todo.isEmpty then s.bstEnd
  else if whole then s.innerReset F.RST_CAUSE_BIST
  else todo.foldl (fun s t => s.testReset t) s

/-- A run is aborted (R466); blocks of a run without whole-device tests are reset again (R465). -/
def State.bstAbort (s : State) : State :=
  let todo := s.bst.todo
  let whole := s.on F.BST_STATUS_WHOLE
  let s := s.bstCut
  if whole then s else todo.foldl (fun s t => s.testReset t) s

/-- A write of `BST_RUN` (R464 to R466). -/
def State.bstRun (s : State) (v : Word) : State :=
  let tests := bitsOf v.toNat 0 5
  let s := s.setF F.BST_RUN_TESTS tests
  let s := if v.getLsbD 9 then s.bstAbort else s
  if !v.getLsbD 8 then s
  else if s.bstRefused tests then s.setB F.BST_STATUS_REFUSED true
  else s.bstStart tests

/-- BST_GO (R465). -/
def execBstGo (data : BitVec 32) (s : State) : Out3 := .next (s.bstRun (data ||| 0x100))
/-- BST_ABORT (R466). -/
def execBstAbort (data : BitVec 32) (s : State) : Out3 := .next (s.bstRun (data ||| 0x200))

/-- The failures that test `t` records (R464). -/
def State.testFails (s : State) (t : Nat) (e : TestEnd) : State × Bool :=
  match t with
  | 0 =>
    let m := e.fwd.toNat
    let r := e.ret.toNat
    let s := ((s.setFwdBad (s.fwdBad ||| m)).setRetBad (s.retBad ||| r)).softMark (m + r * 2 ^ 40)
    let s := (s.setReg A.BST_TETHER_FAIL_LO (BitVec.ofNat 32 m)).setF F.BST_TETHER_FAIL_HI_FWD (m / 2 ^ 32)
    (s.setF F.BST_TETHER_FAIL_HI_RET r, m != 0 || r != 0)
  | 1 =>
    let mask := s.f F.AMC_STATUS_CH_MASK
    let s := (s.setReg A.BST_DDR_FAIL 0).setF F.BST_DDR_FAIL_UNTESTED (255 - mask)
    let s := (List.range 8).foldl (fun s c => s.setReg (A.BST_DDR_PIN_c c) 0) s
    (e.ddr.foldl (fun (s : State) (x : Fin 8 × BitVec 7) =>
        if s.on (F.BST_DDR_PIN_c_VALID x.1) then s
        else ((s.setB ⟨A.BST_DDR_FAIL, x.1, 1⟩ true).setF (F.BST_DDR_PIN_c_PIN x.1) x.2.toNat).setB (F.BST_DDR_PIN_c_VALID x.1) true) s,
      !e.ddr.isEmpty)
  | 2 => ((s.setF F.BST_LINK_FAIL_DSI e.dsi.toNat).setB F.BST_LINK_FAIL_DSI_CLK e.dsiClk, e.dsi != 0 || e.dsiClk)
  | 3 =>
    let s := s.softRepairs e.repairs.toNat
    (match e.unrepaired with
     | some a => s.unrepaired a
     | none => s, e.repairs != 0 || e.unrepaired.isSome)
  | _ => (s.setF F.BST_LINK_FAIL_PCIE e.pcie.toNat, e.pcie != 0)

/-- The result of R466: 1 PASS, 2 FAIL, 3 INCOMPLETE. -/
def testResult (expected : BitVec 32) (e : TestEnd) (failure : Bool) : Nat :=
  if e.done && e.count = expected then (if e.sigOk && !failure then 1 else 2) else 3

/-- May test `t` end now: its block has been through its reset, or the release of a whole-device run is past step 2? -/
def State.testRuns (s : State) (t : Nat) : Bool :=
  s.bst.todo.contains t &&
  (if s.on F.BST_STATUS_WHOLE then s.did 2 && !s.did 4
   else match testBlock t with
     | some b => s.blk b == .idle
     | none => true)

/-- BST_TEST_END (R466). -/
def execBstTestEnd (test : Fin 5) (end_ : TestEnd) (s : State) : Out3 :=
  .next (if !s.testRuns test then s
    else
      let t := test.val
      let whole := s.on F.BST_STATUS_WHOLE
      let p := s.testFails t end_
      let r := testResult (Config.bstExpected t) end_ p.2
      let s := ((p.1.setF (bstRes t) r).setReg (A.BST_t_COUNT t) end_.count).setReg (A.BST_t_SIG t) end_.sig
      let s := (s.setB (F.BST_t_STATE_DONE t) end_.done).setB (F.BST_t_STATE_SIG_OK t) end_.sigOk
      let s := s.modBst fun b => { b with todo := b.todo.filter (· != t), failed := b.failed || r != 1 }
      let s := if whole then s else s.testReset t
      if s.bst.todo.isEmpty then s.bstEnd else s)

/-! ### The patrol test (R469 to R471) -/

/-- The conditions under which the patrol runs (R469). -/
def State.patrolOk (s : State) : Bool :=
  s.on F.BST_PATROL_CTRL_EN && s.on F.CLK_STATUS_TOWER_LOCKED && decide (s.pwrState ≤ 1) && !s.on F.BST_STATUS_WHOLE

/-- PATROL_SLICE (R469): the next slice is taken. -/
def execPatrolSlice (s : State) : Out3 :=
  .next (if s.patrolOk && !s.on F.BST_PATROL_STATUS_RUNNING then
      (s.setF F.BST_PATROL_STATUS_SLICE ((s.f F.BST_PATROL_STATUS_SLICE + 1) % 768)).setB F.BST_PATROL_STATUS_RUNNING true
    else s)

/-- PATROL_SLICE_DONE (R470): `complete` and `ok` are what R466 asks of the slice's test. -/
def execPatrolSliceDone (complete ok : Bool) (repairs : BitVec 16) (unrepaired : Option (BitVec 26)) (s : State) : Out3 :=
  .next (if !s.on F.BST_PATROL_STATUS_RUNNING then s
    else
      let s := (s.setB F.BST_PATROL_STATUS_RUNNING false).setF (bstRes 5) (if !complete then 3 else if ok then 1 else 2)
      let s := if s.f F.BST_PATROL_STATUS_SLICE = 0 then s.incWrap F.BST_PATROL_PASSES_COUNT else s
      if !complete || ok then s
      else
        let s := ((s.incSat F.BST_PATROL_STATUS_FAILS).logCount 4).raise 310
        let s := s.softRepairs repairs.toNat
        match unrepaired with
        | some a => s.unrepaired a
        | none => s)

end Sys2Proof.Machine
end

