-- ==== Sys2Proof/Machine/RegAccess.lean ====
section
/-! DEFINITION. BAR0 accesses (R5 to R7, R21, R124, R353, R475 to R477): which block answers, what a read finds, and what a
write does at every register, whether the host or the Keeper's register window makes it (R65). -/

namespace Sys2Proof.Machine
open Sys2Proof

/-! ### Who answers (R21, R476) -/

/-- A BAR0 request is misaligned or too long (R353). -/
def badRequest (a n : Nat) : Bool := a % 4 != 0 || n % 4 != 0 || n = 0 || decide (8 < n) || decide (8 < a % 8 + n)

/-- Address of a register in the megabyte of a block that answers in every state (R476): DEV, RST/PWR, CLK, LCS, BST, EVT;
reserved megabytes have no block and read zero. -/
def alwaysAnswers (m : Nat) : Bool := m ≤ 2 || decide (0x11 ≤ m)

/-- The block of the per-block reset that holds the registers at `a`, if one does (R427, R475). -/
def blockAt (a : Nat) : Option (Fin 13) :=
  match a / 0x100000 with
  | 3 => some 0 | 4 => some 1 | 5 => some 2 | 6 => some 3 | 7 => some 4 | 8 => some 5 | 9 => some 6 | 10 => some 7
  | 11 => if a < 0xB02000 then none else some 8
  | 12 => some 9 | 13 => some 10 | 14 => some 11 | 15 => some 12
  | _ => none

/-- Is the block at `a` held in reset by its machine: in states QUIESCE to HELD (R476)? -/
def State.blockHeld (s : State) (a : Nat) : Bool :=
  match blockAt a with
  | none => false
  | some b => s.blk b != .idle

/-- Does the clock that the registers at `a` need run and is it good (R20, R21, R164, R433, R475)? -/
def State.regClock (s : State) (a : Nat) : Bool :=
  let awake := s.pwrState != 3
  match a / 0x100000 with
  | 3 | 4 => s.good.sclk && awake && s.on F.TTH_STATUS_FWD_UP
  | 5 | 6 | 7 | 8 | 9 | 10 => s.good.tclk && awake
  | 11 => s.good.kclk && s.good.tclk && awake
  | 12 => s.good.mclk && awake
  | 13 => s.good.hclk && s.good.tclk && awake
  | 14 => s.good.pclk && awake
  | _ => s.good.aclk

/-- Is the PCIe core there to complete a request: `PERST_N` high, no power-on reset (R476)? -/
def State.barUp (s : State) : Bool := s.pins.perstN && !s.pins.por

/-- Does the register at `a` answer?  GGE and LOG lie in the always-on island, and not in the die that `PERST_N` resets. -/
def State.answers (s : State) (a : Nat) : Bool :=
  let m := a / 0x100000
  s.barUp && (alwaysAnswers m ||
    (s.pwrState != 4 && s.regClock a && !s.blockHeld a && (!s.rst.dieHeld || m = 15 || m = 16)))

/-- An access that no clock serves (R21). -/
def State.noClock (s : State) : State := if s.barUp then s.setBRaise F.HST_STATUS_ACC_NOCLK 247 else s

/-! ### Register pairs (R7) -/

/-- The low words of the 64-bit quantities: first address, how many, step. -/
def pairRows : List (Nat × Nat × Nat) :=
  [(A.DEV_SERIAL_LO, 1, 1), (A.PWR_TICK_LO, 1, 1), (A.PWR_PAUSE_LO, 1, 1), (A.PWR_RESUME_LO, 1, 1), (A.CLK_SC_RATE_LO, 1, 1),
   (A.CLK_SC_LOST_LO, 1, 1), (A.LMP_n_OVR_SAMPLES_LO 0, 2, 0x100), (A.CAL_n_LAST_SWAP_LO 0, 2, 0x100),
   (A.CAL_n_NEXT_GRID_LO 0, 2, 0x100), (A.TTH_FWD_BAD_LO, 1, 1), (A.TTH_FWD_FUSE_LO, 1, 1), (A.TTH_FRAMES_LO, 1, 1),
   (A.TTH_LAST_SWITCH_LO, 1, 1), (A.FLT_n_RESTART_LO 0, 2, 0x100), (0x640000, 2, 0x40000), (A.LNS_n_GRID_LO 0, 2, 0x100),
   (A.LNS_n_FRAMES_LO 0, 2, 0x100), (A.SEC_LAST_TRIG_LO, 1, 1), (A.SEC_LAST_SRC_LO, 1, 1), (A.SEC_SEG_CAP_LO, 1, 1),
   (A.SEC_DEC_DELAY_LO, 1, 1), (A.SEC_TICK_NOW_LO, 1, 1), (A.SEC_RANGE_LOAD_LO, 1, 1), (A.SEC_RANGE_NAT_LO, 1, 1),
   (0x840080, 4, 8), (A.SEC_IO_RESYNC_V_LO, 1, 1)] ++
  [(A.IVU_CH_n_EDGES_LO 0, 3, 0x20), (A.GLW_n_LAST_SNAP_LO 0, 2, 0x100), (A.GLW_n_SPECTRA_LO 0, 2, 0x100),
   (A.GLW_n_BUF0_LO 0, 2, 0x100), (A.GLW_n_BUF1_LO 0, 2, 0x100), (A.KPR_CYC_LO, 1, 1), (A.KPR_LOAD_TICK_LO, 1, 1),
   (A.KPR_TL_HELD_LO, 1, 1), (A.KPR_TL_IMM_TICK_LO, 1, 1), (A.KPR_TLQ_u_LAST_LO 0, 15, 0x20), (A.BCN_n_CYC_LO 0, 16, 0x100),
   (A.AMC_SIZE_LO, 1, 1), (A.AMC_FIFO_LOST_LO, 1, 1), (A.AMC_APERTURE_LO, 1, 1), (A.AMC_CAP_n_NEWEST_LO 0, 2, 0x40),
   (A.AMC_CAP_n_OLDEST_LO 0, 2, 0x40), (A.DMA_n_SRC_LO 0, 32, 0x40), (A.DMA_n_DST_LO 0, 32, 0x40), (A.DMA_n_CPL_LO 0, 32, 0x40),
   (A.STR_IRQ_LO, 1, 1), (A.STR_RECORDS_LO, 1, 1), (A.STR_s_RING_BASE_LO 0, 64, 0x40), (A.STR_s_PROD_ADDR_LO 0, 64, 0x40), (A.STR_s_CONS_LO 0, 64, 0x40),
   (A.STR_s_SEQ_LO 0, 64, 0x40), (A.STR_s_DROPS_LO 0, 64, 0x40)] ++
  [(A.NVQ_q_SQ_LO 0, 16, 0x40), (A.NVQ_q_CQ_LO 0, 16, 0x40), (A.NVQ_q_SQDB_LO 0, 16, 0x40), (A.NVQ_q_CQDB_LO 0, 16, 0x40),
   (A.NVQ_q_LBA_LO 0, 16, 0x40), (A.NVQ_q_NLBA_LO 0, 16, 0x40), (A.MSIX_v_ADDR_LO 0, 64, 0x10), (A.STR_ANCHOR_TAI_LO, 1, 1),
   (A.STR_ANCHOR_TICK_LO, 1, 1), (A.PNL_HOST_ADDR_LO, 1, 1), (A.PNL_TILES_LO, 1, 1), (A.GGE_SNAP_SUM_LO, 1, 1),
   (A.LCS_LOAD_ADDR_LO, 1, 1), (A.BST_TETHER_FAIL_LO, 1, 1)]

/-- Is `a` one of the addresses of a row? -/
def inRow (a : Nat) (x : Nat × Nat × Nat) : Bool :=
  decide (x.1 ≤ a) && decide (a < x.1 + x.2.1 * x.2.2) && (a - x.1) % x.2.2 = 0

/-- Is the register at `a` the low word of a 64-bit quantity? -/
def pairLow (a : Nat) : Bool := pairRows.any (inRow a)

/-- Has the register at `a` a field that software writes, of type RW or W1C? -/
def writable (a : Nat) : Bool :=
  match findReg a with
  | none => false
  | some r => r.rw ||| r.w1c != 0

/-- The key of the latch for the high word at `a`: the host and the Keeper have one each. -/
def latchKey (keeper : Bool) (a : Nat) : Nat := if keeper then a + 2 ^ 26 else a

/-- Change the time state. -/
def State.modTime (s : State) (g : Time → Time) : State := { s with time := g s.time }

/-- Latch a high word (R7). -/
def State.latchHigh (s : State) (key : Nat) (v : Word) : State :=
  s.modTime fun t => { t with latch := (key, v) :: t.latch.filter fun x => x.1 != key }

/-! ### Reading -/

/-- A label in the future of the newest sample, or one behind it. -/
def State.labelAt (s : State) (n : Nat) : Long :=
  if s.time.samples ≤ n then s.time.tick + BitVec.ofNat 64 (n - s.time.samples) else s.labelOf n

/-- The levels at the `GPIO` pins (R477): those the part drives, and free values at the others. -/
def State.gpioIn (s : State) (float : BitVec 16) : Nat :=
  (List.range 16).foldl (fun v i => v + bit ((s.gpioLevel i).getD (float.getLsbD i)) * 2 ^ i) 0

/-- Put a free value into a field. -/
def State.freeF (s : State) (x : Fld) : State := let p := s.draw x.width; p.2.setF x p.1.toNat

/-- What a cycle counter shows after it ran on (R80, R89), and the state that has drawn its free value.  The spec bounds the
clocks' frequency and fixes neither their phase nor their spread (R20, R191, R197), so the count moves on by a free number
of cycles within 1 % of nominal; by any number where the clock ran while no samples did (log entry 35). -/
def State.cycShow (s : State) (c : Cyc) : Cyc × State :=
  let low := c.run * 99 / (100 * s.ticksPerUs)
  let high := c.run * 101 / (100 * s.ticksPerUs) + 1
  let p := s.draw 64
  let more := if c.unsure then p.1.toNat else low + p.1.toNat % (high - low + 1)
  if c.run = 0 && !c.unsure then (c, s)
  else ({ count := c.count + BitVec.ofNat 64 more, run := 0, unsure := !s.good.sclk }, p.2)

/-- Bring the TCLK cycle count up to date. -/
def State.tclkCount (s : State) : State :=
  let p := s.cycShow s.time.tcyc
  p.2.modTime fun t => { t with tcyc := p.1 }

/-- Bring the KCLK cycle count up to date. -/
def State.kclkCount (s : State) : State :=
  let p := s.cycShow s.time.kcyc
  p.2.modTime fun t => { t with kcyc := p.1 }

/-- Bounds in kHz of the f_VCO that `CLK_SC_VCO` measures (R186, R188, R201): the VCO's range, with the 0.01 % of the measurement;
locked to a REFIN that is present, the ratio of the settings times a frequency within 1 % of `CLK_REF_STATUS.FREQ`. -/
def State.vcoBounds (s : State) : Nat × Nat :=
  let lo := 14000000 * 9999 / 10000
  let hi := 17500000 * 10001 / 10000
  let c := s.clk.set_
  let ref := s.f F.CLK_REF_STATUS_FREQ
  let den := if c.exact then c.den else 2 ^ 32
  let mid := if s.f F.CLK_STATUS_MODE = 1 then c.m * ref else ref * (c.nint * den + c.num) / (c.rdiv * den)
  if s.scState != 2 || s.f F.CLK_STATUS_MODE = 2 then (lo, hi)
  else (max lo (mid * 9899 / 10000), min hi (mid * 10102 / 10000 + 1))

/-- `CLK_SC_VCO` (R201): 0 before the clock starts, else a free value within the bounds (log entry 35). -/
def State.vcoShow (s : State) : State :=
  if s.scState = 0 then s.setF F.CLK_SC_VCO_FREQ 0
  else
    let b := s.vcoBounds
    let p := s.draw 25
    p.2.setF F.CLK_SC_VCO_FREQ (b.1 + p.1.toNat % (b.2 - b.1 + 1))

/-- Error counters of the Tether lane that `TTH_LANE_SEL` selects (R215). -/
def State.showLane (s : State) : State :=
  let l := (s.tth.lanes.find? fun x => x.lane = s.f F.TTH_LANE_SEL_LANE).getD ⟨0, 0, 0, 0⟩
  ((s.setF F.TTH_LANE_ERRS_ATTR l.attr).setF F.TTH_LANE_ERRS_SYNC l.sync).setF F.TTH_LANE_MARGIN_MARGIN l.margin

/-- Index of a channel register. -/
def chOf (a base step : Nat) : Fin 2 := if a < base + step then 0 else 1

/-- Bring a register up to date whose value nothing stores as it changes: the tick estimate, counts that run with time, and
values of the moment, which are free values where the spec fixes none. -/
def State.refresh (s : State) (a : Nat) : State :=
  let pair (b n step : Nat) : Bool := inRow a (b, n, step) || inRow a (b + 4, n, step)
  if a = A.DEV_GPIO_IN then let p := s.draw 16; p.2.setF F.DEV_GPIO_IN_IN (p.2.gpioIn p.1)
  else if pair A.SEC_TICK_NOW_LO 1 1 then s.setPair A.SEC_TICK_NOW_LO s.tickNow.toNat
  else if a = A.CLK_SC_VCO then s.vcoShow
  else if pair (A.LMP_n_OVR_SAMPLES_LO 0) 2 0x100 then s.ovrCount (chOf a (A.LMP_n_OVR_SAMPLES_LO 0) 0x100)
  else if pair (A.CAL_n_NEXT_GRID_LO 0) 2 0x100 then
    let n := chOf a (A.CAL_n_NEXT_GRID_LO 0) 0x100
    s.setPair (A.CAL_n_NEXT_GRID_LO n) (match (s.cal.get n).nextGrid with
      | none => 0
      | some g => (s.labelAt g).toNat)
  else if a = A.TTH_LANE_ERRS || a = A.TTH_LANE_MARGIN then s.showLane
  else if pair A.SEC_DEC_DELAY_LO 1 1 then s.setPair A.SEC_DEC_DELAY_LO s.dSec
  else if a = A.SEC_STATUS then s.setB F.SEC_STATUS_HOLDOFF s.holdoffNow
  else if a = A.SEC_XTRIG_STATUS then s.showXtrig
  else if a = A.IVU_STATUS then
    (s.setB F.IVU_STATUS_REF_ABSENT (!s.on F.CLK_STATUS_REF_PRESENT)).setB F.IVU_STATUS_GATE (s.ivu.gateAt s.time.samples).2
  else if a = A.AMC_LTR then s.updLtr
  else if a = A.KPR_WDT_LEFT then s.wdtFold
  else if pair A.KPR_CYC_LO 1 1 then let s := s.kclkCount; s.setPair A.KPR_CYC_LO s.time.kcyc.count.toNat
  else if pair (A.BCN_n_CYC_LO 0) 16 0x100 then
    let s := s.tclkCount
    s.setPair (A.BCN_n_CYC_LO ((a - A.BCN_n_CYC_LO 0) / 0x100)) s.time.tcyc.count.toNat
  else if a = A.BCN_STATE then (List.finRange 16).foldl (fun s n => s.settleCore (bcn n)) s
  else if a = A.HST_STATUS then let p := s.draw 2; p.2.setF F.HST_STATUS_ASPM (min p.1.toNat 2)
  else if a = A.HST_TAGS then s.sampleTags
  else s

/-- The register at `a` as a read finds it: buffers of LOG and LCS, ROM values, and the fields of the map without those of
type WO (R5); a reserved address reads zero (R6). -/
def State.regValue (s : State) (a : Nat) : Word :=
  if 0x1001000 ≤ a && a < 0x1002000 then
    BitVec.ofNat 32 (ofBytes ((List.range 4).map fun i => s.windowByte (a - 0x1001000 + i)))
  else if 0x1002000 ≤ a && a < 0x1003000 then BitVec.ofNat 32 (Mem.readLE s.log.cmd (a - 0x1002000) 4)
  else if 0x1101000 ≤ a && a < 0x1102000 then BitVec.ofNat 32 (Mem.readLE s.lcs.report (a - 0x1101000) 4)
  else if 0x1102000 ≤ a && a < 0x1104000 then BitVec.ofNat 32 (Mem.readLE s.lcs.cmdBuf (a - 0x1102000) 4)
  else if inRow a (A.BST_t_EXPECTED 0, 5, A.BST_t_EXPECTED 1 - A.BST_t_EXPECTED 0) then
    Config.bstExpected ((a - A.BST_t_EXPECTED 0) / (A.BST_t_EXPECTED 1 - A.BST_t_EXPECTED 0))
  else match findReg a with
    | none => 0
    | some r => s.reg a &&& ~~~r.wo

/-- An access to a register of LMP or CAL travels to the lamp as a return packet (R207). -/
def State.lampPacket (s : State) (a : Nat) : State :=
  if a / 0x100000 = 3 || a / 0x100000 = 4 then s.sendRet (.register a) else s

/-- A read of one register (R7, R21). -/
def State.regRead (s : State) (keeper : Bool) (a : Nat) : Word × State :=
  if !s.answers a then (0xFFFFFFFF, s.noClock)
  else match lookupReg s.time.latch (latchKey keeper a) with
    | some v => (v, s.modTime fun t => { t with latch := t.latch.filter fun x => x.1 != latchKey keeper a })
    | none =>
      let s := (s.refresh a).lampPacket a
      (s.regValue a, if pairLow a then s.latchHigh (latchKey keeper (a + 4)) (s.regValue (a + 4)) else s)
where
  /-- The value listed for a key. -/
  lookupReg (l : List (Nat × Word)) (k : Nat) : Option Word := (l.find? fun x => x.1 = k).map (·.2)

/-- An aligned read of two words: a pair is one value, without the latch (R353). -/
def State.regRead2 (s : State) (a : Nat) : Nat × State :=
  if !s.answers a then (2 ^ 64 - 1, s.noClock)
  else if pairLow a then
    let s := (s.refresh a).lampPacket a
    ((s.regValue a).toNat + (s.regValue (a + 4)).toNat * 2 ^ 32, s)
  else
    let p := s.regRead false a
    let q := p.2.regRead false (a + 4)
    (p.1.toNat + q.1.toNat * 2 ^ 32, q.2)

/-- REGISTER_READ (R7): a host read of `len` bytes. -/
def execRegisterRead (addr : BitVec 26) (len : Nat) (s : State) : Out3 :=
  let a := addr.toNat
  .next (if badRequest a len then
      (if s.barUp then s.setBRaise F.HST_STATUS_ACC_UR 247 else s).emit .unsupported
    else if len = 8 then let p := s.regRead2 a; p.2.emit (.readData p.1)
    else let p := s.regRead false a; p.2.emit (.readData p.1.toNat))

/-! ### Writing -/

/-- Every field of the register at `a` by its access type (R5): RW takes the bits, W1C clears them, W1S sets them. -/
def State.writePlain (s : State) (a : Nat) (v : Word) : State :=
  match findReg a with
  | none => s
  | some r =>
    let x := (s.reg a &&& ~~~r.rw) ||| (v &&& r.rw)
    s.setReg a ((x &&& ~~~(v &&& r.w1c)) ||| (v &&& r.w1s))

/-- The state an effect of a command leaves; a fault or refusal leaves `s`. -/
def State.orSame (s : State) : Out3 → State
  | .next t => t
  | _ => s

/-- Mirror registers (R123, R126): base, selectors from the base on. -/
def mirrorRows : List (Nat × Nat) :=
  [(0x340000, 5), (0x380000, 5), (0x640000, 9), (0x680000, 9), (0x740000, 10), (0x780000, 10), (0x840000, 20), (0x840080, 9),
   (0x8400C0, 2), (0xA40000, 5), (0x940000, 5), (0xC40000, 4), (0xD40000, 64), (0xD40400, 1), (0x440000, 3), (0xF40000, 2),
   (0xB40000, 128), (0x880000, 7)]

/-- Is `a` a mirror register? -/
def isMirror (a : Nat) : Bool := mirrorRows.any fun x => inRow a (x.1, x.2, 4)

/-- A direct write to a mirror (R124). -/
def State.direct (s : State) : State := s.setB F.KPR_TL_STATUS_DIRECT true

/-- Index modulo a power of two below `n`. -/
def idx (n : Nat) [NeZero n] (i : Nat) : Fin n := Fin.ofNat n i

/-- Writes in DEV, RST/PWR and CLK (R201, R443, R444, R477). -/
def State.writeIsland (s : State) (env : WriteEnv) (a : Nat) (v : Word) : State :=
  if a = A.DEV_SWEVT then s.swEvents (v.toNat % 16) [0, 1, 2, 3]
  else if a = A.RST_BLOCK_REQ then s.blockReqs v
  else if a = A.PWR_CTRL then s.pwrCtrl v
  else if a = A.CLK_REF_NOM then s.refNom v
  else if a = A.CLK_SYS_CTRL then (if v.getLsbD 0 then s.orSame (execClkStart s) else s)
  else if a = A.CLK_SC_CTRL then
    let s := s.writeRW a v
    if v.getLsbD 0 then s.scApply env.sclkIn else s
  else if a = A.CLK_SPREAD_TOWER then s.spreadWrite .tower v
  else if a = A.CLK_SPREAD_PANEL then s.spreadWrite .panel v
  else if a = A.CLK_SPREAD_MEM then s.spreadWrite .memory v
  else s.writePlain a v

/-- Writes in LMP to GLW (R164, R184, R215, R235, R256, R287, R55, R304, R324). -/
def State.writePipe (s : State) (a : Nat) (v : Word) : State :=
  if inRow a (A.LMP_n_PEAK 0, 2, 0x100) then
    (if v.getLsbD 16 then s.orSame (execPeakClear (chOf a (A.LMP_n_PEAK 0) 0x100) s) else s)
  else if a = A.TTH_CTRL then
    let s := s.writeRW a v
    if v.getLsbD 0 then s.orSame (execRetrain s) else s
  else if inRow a (A.LNS_n_MAX_EXP 0, 2, 0x100) then
    (if v.getLsbD 16 then s.orSame (execMaxExpClear (chOf a (A.LNS_n_MAX_EXP 0) 0x100) s) else s)
  else if a = A.SEC_RANGE_CTRL then
    let s := s.writePlain a v
    if v.getLsbD 3 then s.setB F.SEC_RANGE_CTRL_ARM false else s
  else s.writePlain a v

/-- Writes in KPR and BCN (R89, R90, R142). -/
def State.writeCores (s : State) (keeper : Bool) (a : Nat) (v : Word) : State :=
  if a = A.KPR_CTRL then
    let s := if v.getLsbD 0 then s.kprHalt else s
    let s := if v.getLsbD 1 then s.kprResume else s
    if v.getLsbD 2 then s.keeperRestart 2 else s
  else if a = A.KPR_WDT_CTRL then s.wdtCtrl v
  else if a = A.KPR_WDT_KICK then s.wdtKick v
  else if a = A.KPR_MBOX_DB then (if v.getLsbD 0 then s.modKeeper fun k => { k with mbox := true } else s)
  else if inRow a (A.KPR_MBOX_OUTi 0, 8, 4) then
    (if !keeper then s else if a = A.KPR_MBOX_OUTi 7 then s.mboxOut7 v else s.setReg a v)
  else if a = A.KPR_TL_CTRL then s.flushMask (v.setWidth 16) (List.finRange 15)
  else if a = A.BCN_RUN then s.forMask (v.setWidth 16) State.runCore (List.finRange 16)
  else if a = A.BCN_HALT then s.forMask (v.setWidth 16) State.haltAsk (List.finRange 16)
  else if inRow a (A.BCN_n_WDOG 0, 16, 0x100) then s.orSame (execBcnWdogWrite (idx 16 ((a - 0xB04000) / 0x100)) v s)
  else if 0xB04000 ≤ a && a < 0xB05000 && 0x20 ≤ a % 0x100 && a % 0x100 < 0x60 && (a % 16 = 0 || a % 16 = 4) then
    s.orSame (execQueueCfgWrite (idx 16 ((a - 0xB04000) / 0x100)) (idx 4 ((a % 0x100 - 0x20) / 0x10)) (a % 16 = 4) v s)
  else s.writePlain a v

/-- Writes in AMC (R349). -/
def State.writeAmc (s : State) (env : WriteEnv) (a : Nat) (v : Word) : State :=
  if a = A.AMC_CFG then s.amcCfg v env.dimms
  else if a = A.AMC_FIFO then (if v.getLsbD 31 then s.setF F.AMC_FIFO_PEAK (s.f F.AMC_FIFO_LEVEL) else s)
  else s.writePlain a v

/-- Writes of the registers of a stream (R376, R385). -/
def State.writeStr (s : State) (a : Nat) (v : Word) : State :=
  let k := idx 64 ((a - 0xD03000) / 0x40)
  match a % 0x40 with
  | 0x00 => s.strCfg k .cfg v.toNat
  | 0x04 => s.strCfg k .rate v.toNat
  | 0x08 =>
    let s := if v.getLsbD 0 then s.admitStream k else s
    if v.getLsbD 1 then s.strRelease k else s
  | 0x18 => s.strCfg k .ring v.toNat
  | _ => s.writePlain a v

/-- Writes of the registers of a queue pair (R386). -/
def State.writeNvq (s : State) (a : Nat) (v : Word) : State :=
  let q := idx 16 ((a - 0xD04000) / 0x40)
  match a % 0x40 with
  | 0x00 => s.nvqCfg q .cfg v.toNat
  | 0x04 => s.nvqCfg q .nsid v.toNat
  | 0x3C => s.nvqCfg q .timeout v.toNat
  | _ => s.writePlain a v

/-- Writes of the MSI-X table: a mask that ends lets a held message go (R351, R483). -/
def State.writeMsix (s : State) (a : Nat) (v : Word) : State :=
  let n := (a - A.MSIX_v_ADDR_LO 0) / 0x10
  let s := s.writePlain a v
  if a % 0x10 = 0xC && a < A.MSIX_v_ADDR_LO 0 + 0x400 && !v.getLsbD 0 then s.msixRelease n else s

/-- Writes in HST, DMA and STR (R384 to R387, R44, R351). -/
def State.writeHost (s : State) (a : Nat) (v : Word) : State :=
  if a = A.HST_TAGS then (if v.getLsbD 31 then s.orSame (execTagsPeakClear s) else s)
  else if inRow a (A.DMA_n_CTRL 0, 32, 0x40) then s.dmaCtrl (idx 32 ((a - 0xD01000) / 0x40)) v
  else if a = A.STR_NVQ_KICK then s.nvPollAll
  else if 0xD03000 ≤ a && a < 0xD04000 then s.writeStr a v
  else if 0xD04000 ≤ a && a < 0xD04400 then s.writeNvq a v
  else if 0xD0E000 ≤ a && a < 0xD0E400 then s.writeMsix a v
  else if a = A.STR_ANCHOR_CTRL then (if v.getLsbD 0 then s.anchorCommit else s)
  else s.writePlain a v

/-- Writes in PNL, GGE and LOG (R400, R418, R419). -/
def State.writePanel (s : State) (a : Nat) (v : Word) : State :=
  if a = A.PNL_CTRL then s.pnlCtrl v
  else if a = A.PNL_LINK then s.pnlCfg .link v
  else if a = A.PNL_PANEL then s.pnlCfg .panel v
  else if a = A.PNL_FRAME_US then
    (if 1000 ≤ bitsOf v.toNat 0 17 && bitsOf v.toNat 0 17 ≤ 100000 then s.writePlain a v else s)
  else if a = A.PNL_COMMIT then (if v.getLsbD 0 then s.commitGo (v.getLsbD 1) else s)
  else if a = A.PNL_DCS_CTRL then s.dcsCtrl v
  else if a = A.GGE_REQ then (if v.getLsbD 5 then s.ggeRequest (idx 32 v.toNat) else s)
  else if a = A.GGE_SNAP then s.ggeSnap (idx 32 v.toNat) (v.getLsbD 5)
  else if a = A.GGE_TEST_CTRL then s.ggeTestCtrl v
  else if a = A.LOG_CURSOR then s.logCursor (v.toNat % 256)
  else if a = A.LOG_CTRL then
    let s := if v.getLsbD 0 then s.hostCommit else s
    if v.getLsbD 1 then s.logClear else s
  else if 0x1002000 ≤ a && a < 0x1003000 then
    s.modLog fun l => { l with cmd := Mem.writeN l.cmd (a - 0x1002000) (bytesOf 4 v.toNat) }
  else s.writePlain a v

/-- Writes in LCS and BST (R472, R473). -/
def State.writeLcs (s : State) (env : WriteEnv) (a : Nat) (v : Word) : State :=
  if a = A.LCS_CMD_CTRL then (if v.getLsbD 0 then s.lcsGo env.how env.ok else s)
  else if a = A.LCS_LOAD_CTRL then s.loadGo v
  else if a = A.LCS_ATT_CTRL then (if v.getLsbD 0 then s.lcsAttest else s)
  else if a = A.LCS_EXT_CTRL then (if v.getLsbD 0 then s.lcsExtend else s)
  else if 0x1102000 ≤ a && a < 0x1104000 then
    s.modLcs fun l => { l with cmdBuf := Mem.writeN l.cmdBuf (a - 0x1102000) (bytesOf 4 v.toNat) }
  else if a = A.BST_RUN then s.bstRun v
  else if a = A.BST_REPAIR then s.bstRepair v
  else if a = A.BST_PATROL_CTRL then
    (if bitsOf v.toNat 4 12 = 0 then s.setB F.BST_PATROL_CTRL_EN (v.getLsbD 0) else s.writePlain a v)
  else s.writePlain a v

/-- A write of `EVT_GPIO_MODE`: 11b leaves the pin's mode as it is (R482). -/
def State.gpioModes (s : State) (v : Word) : State :=
  (List.range 16).foldl (fun s n => if bitsOf v.toNat (2 * n) 2 = 3 then s else s.setF (gpioMode n) (bitsOf v.toNat (2 * n) 2)) s

/-- Writes in EVT (R480 to R485): a reserved source has no routing register. -/
def State.writeEvt (s : State) (a : Nat) (v : Word) : State :=
  if a = A.EVT_CTRL then (if v.getLsbD 0 then s.clrCnt else s)
  else if inRow a (A.EVT_PEND_w 0, 10, 4) then s.pendClear ((a - A.EVT_PEND_w 0) / 4) v
  else if a = A.EVT_GPIO_MODE then s.gpioModes v
  else if inRow a (A.EVT_ROUTE_i 0, 314, 4) then
    (if evtDefined ((a - A.EVT_ROUTE_i 0) / 4) then (s.writePlain a v).updEvtFault else s)
  else if inRow a (A.EVT_CNT_i 0, 314, 4) then (if v.getLsbD 16 then s.cntClear ((a - A.EVT_CNT_i 0) / 4) else s)
  else s.writePlain a v

/-- A write of one 32-bit register of a block that answers. -/
def State.write32 (s : State) (keeper : Bool) (env : WriteEnv) (a : Nat) (v : Word) : State :=
  if isMirror a then s.direct
  else match a / 0x100000 with
    | 0 | 1 | 2 => s.writeIsland env a v
    | 3 | 4 | 5 | 6 | 7 | 8 | 9 | 10 => s.writePipe a v
    | 11 => s.writeCores keeper a v
    | 12 => s.writeAmc env a v
    | 13 => s.writeHost a v
    | 14 | 15 | 16 => s.writePanel a v
    | 17 | 18 => s.writeLcs env a v
    | 19 => s.writeEvt a v
    | _ => s

/-- A 64-bit value written to the pair whose low word is at `a` (R7). -/
def State.write64 (s : State) (a v : Nat) : State :=
  if a = A.SEC_RANGE_LOAD_LO then s.rangeLoad v
  else if 0xD03000 ≤ a && a < 0xD04000 then
    let k := idx 64 ((a - 0xD03000) / 0x40)
    match a % 0x40 with
    | 0x10 => s.strCfg k .ringBase v
    | 0x20 => s.strCfg k .prodAddr v
    | _ => s.consume k v
  else if 0xD04000 ≤ a && a < 0xD04400 then
    let q := idx 16 ((a - 0xD04000) / 0x40)
    match a % 0x40 with
    | 0x08 => s.nvqCfg q .sq v
    | 0x10 => s.nvqCfg q .cq v
    | 0x18 => s.nvqCfg q .sqdb v
    | 0x20 => s.nvqCfg q .cqdb v
    | 0x28 => s.nvqCfg q .lba v
    | _ => s.nvqCfg q .nlba v
  else (s.writePlain a (BitVec.ofNat 32 v)).writePlain (a + 4) (BitVec.ofNat 32 (v / 2 ^ 32))

/-- The low word staged for the pair at `a` (R7).  R7 does not say whether the host and the Keeper stage one low word or one
each, nor what a high word written alone does: there is one per pair, and without it the RW bits in force stay and no other
bit is written (DESIGN CHOICE, log entry 122). -/
def State.stagedLow (s : State) (a : Nat) : Word :=
  match s.time.staged.find? fun x => x.1 = a with
  | some x => x.2
  | none => match findReg a with
    | some r => s.reg a &&& r.rw
    | none => 0

/-- A write of one 32-bit register (R7, R21): the low word of a writable pair waits for its high word, whoever wrote it
(DESIGN CHOICE, log entry 122). -/
def State.regWrite (s : State) (keeper : Bool) (env : WriteEnv) (a : Nat) (v : Word) : State :=
  if !s.answers a then s.noClock
  else if pairLow a && writable a then
    s.modTime fun t => { t with staged := (a, v) :: t.staged.filter fun x => x.1 != a }
  else if 4 ≤ a && pairLow (a - 4) && writable a then
    let w := (s.stagedLow (a - 4)).toNat + v.toNat * 2 ^ 32
    (s.modTime fun t => { t with staged := t.staged.filter fun x => x.1 != a - 4 }).write64 (a - 4) w
  else if isMirror a then s.write32 keeper env a v
  else (s.lampPacket a).write32 keeper env a v

/-- The words of a request, in rising order of address. -/
def State.regWrites (s : State) (keeper : Bool) (env : WriteEnv) (a : Nat) : List Byte → State
  | b0 :: b1 :: b2 :: b3 :: bs =>
    (s.regWrite keeper env a (BitVec.ofNat 32 (ofBytes [b0, b1, b2, b3]))).regWrites keeper env (a + 4) bs
  | _ => s

/-- REGISTER_WRITE (R5): a host write. -/
def execRegisterWrite (addr : BitVec 26) (data : List (BitVec 8)) (env : WriteEnv) (s : State) : Out3 :=
  .next (if badRequest addr.toNat data.length then
      (if s.barUp then s.setBRaise F.HST_STATUS_ACC_UR 247 else s)
    else s.regWrites false env addr.toNat data)

/-- MIRROR_WRITE (R124): a direct write that reaches a mirror register is discarded and sets `DIRECT`. -/
def execMirrorWrite (addr : BitVec 26) (_data : BitVec 32) (s : State) : Out3 :=
  .next (if isMirror addr.toNat then s.direct else s)

end Sys2Proof.Machine
end

