-- ==== Sys2Proof/Machine/Words.lean ====
section
/-! DEFINITION. Instruction words of the cores (R92 to R94, R98, R99, R105, R106, R110 to R112, R115, R119): the command that
a word, or a two-word instruction, stands for on a core.  A word with a reserved or zero field that is not zero, an opcode
that is not listed, or S or IMM where the table has 0, stands for none. -/

namespace Sys2Proof.Machine
open Sys2Proof

/-! ### Fields -/

/-- `n` bits of a word from `lo` on. -/
def fieldAt (w : Word) (lo n : Nat) : BitVec n := w.extractLsb' lo n

/-- A general register, a vector register, a pointer and an accumulator or queue named at `lo`. -/
def regG (w : Word) (lo : Nat) : Fin 16 := (fieldAt w lo 4).toFin
/-- A vector register. -/
def regV (w : Word) (lo : Nat) : Fin 32 := (fieldAt w lo 5).toFin
/-- A pointer. -/
def regX (w : Word) (lo : Nat) : Fin 8 := (fieldAt w lo 3).toFin
/-- An accumulator or a queue. -/
def regA (w : Word) (lo : Nat) : Fin 4 := (fieldAt w lo 2).toFin

/-- One bit of a word. -/
def flagAt (w : Word) (i : Nat) : Bool := fieldAt w i 1 = 1

/-- Are `n` bits of a word from `lo` on zero? -/
def zeroAt (w : Word) (lo n : Nat) : Bool := fieldAt w lo n = 0

/-- A command where its reserved fields allow it. -/
def given (b : Bool) (i : Instr) : Option Instr := if b then some i else none

/-! ### Class 00b (R98, R99) -/

/-- The formats SR and SI of class 00b. -/
def decodeScalar (c : Fin 17) (s : Bool) (w : Word) : Nat → Option Instr
  | 0x00 => given (w = 0) (.nop c)
  | 0x01 => given (zeroAt w 0 11) (.add c s (regG w 19) (regG w 15) (regG w 11))
  | 0x02 => given (zeroAt w 0 11) (.sub c s (regG w 19) (regG w 15) (regG w 11))
  | 0x03 => given (zeroAt w 0 11) (.mul c s (regG w 19) (regG w 15) (regG w 11))
  | 0x04 => given (!s && zeroAt w 0 11) (.mulh c (regG w 19) (regG w 15) (regG w 11))
  | 0x05 => given (!s && zeroAt w 0 11) (.and c (regG w 19) (regG w 15) (regG w 11))
  | 0x06 => given (!s && zeroAt w 0 11) (.or c (regG w 19) (regG w 15) (regG w 11))
  | 0x07 => given (!s && zeroAt w 0 11) (.xor c (regG w 19) (regG w 15) (regG w 11))
  | 0x08 => given (zeroAt w 0 11) (.sll c s (regG w 19) (regG w 15) (regG w 11))
  | 0x09 => given (!s && zeroAt w 0 11) (.srl c (regG w 19) (regG w 15) (regG w 11))
  | 0x0A => given (!s && zeroAt w 0 11) (.sra c (regG w 19) (regG w 15) (regG w 11))
  | 0x0B => given (!s && zeroAt w 0 11) (.slt c (regG w 19) (regG w 15) (regG w 11))
  | 0x0C => given (!s && zeroAt w 0 11) (.sltu c (regG w 19) (regG w 15) (regG w 11))
  | 0x0D => given (!s && zeroAt w 0 11) (.min c (regG w 19) (regG w 15) (regG w 11))
  | 0x0E => given (!s && zeroAt w 0 11) (.max c (regG w 19) (regG w 15) (regG w 11))
  | 0x0F => given (zeroAt w 0 15) (.abs c s (regG w 19) (regG w 15))
  | 0x10 => some (.addi c s (regG w 19) (regG w 15) (fieldAt w 0 15))
  | 0x11 => given (!s) (.andi c (regG w 19) (regG w 15) (fieldAt w 0 15))
  | 0x12 => given (!s) (.ori c (regG w 19) (regG w 15) (fieldAt w 0 15))
  | 0x13 => given (!s) (.xori c (regG w 19) (regG w 15) (fieldAt w 0 15))
  | 0x14 => given (zeroAt w 5 10) (.slli c s (regG w 19) (regG w 15) (fieldAt w 0 5))
  | 0x15 => given (!s && zeroAt w 5 10) (.srli c (regG w 19) (regG w 15) (fieldAt w 0 5))
  | 0x16 => given (!s && zeroAt w 5 10) (.srai c (regG w 19) (regG w 15) (fieldAt w 0 5))
  | 0x17 => given (!s) (.slti c (regG w 19) (regG w 15) (fieldAt w 0 15))
  | 0x18 => given (!s && zeroAt w 16 3) (.lui c (regG w 19) (fieldAt w 0 16))
  | 0x19 => given (!s && zeroAt w 16 3) (.lli c (regG w 19) (fieldAt w 0 16))
  | _ => none

/-- The control formats of class 00b, S = 0. -/
def decodeControl (c : Fin 17) (w : Word) : Nat → Option Instr
  | 0x20 => some (.beq c (regG w 19) (regG w 15) (fieldAt w 0 15))
  | 0x21 => some (.bne c (regG w 19) (regG w 15) (fieldAt w 0 15))
  | 0x22 => some (.blt c (regG w 19) (regG w 15) (fieldAt w 0 15))
  | 0x23 => some (.bge c (regG w 19) (regG w 15) (fieldAt w 0 15))
  | 0x24 => some (.bltu c (regG w 19) (regG w 15) (fieldAt w 0 15))
  | 0x25 => some (.bgeu c (regG w 19) (regG w 15) (fieldAt w 0 15))
  | 0x26 => some (.jmp c (fieldAt w 0 23))
  | 0x27 => some (.jal c (fieldAt w 0 23))
  | 0x28 => given (zeroAt w 19 4 && zeroAt w 0 15) (.jr c (regG w 15))
  | 0x29 => given (zeroAt w 0 15) (.jalr c (regG w 19) (regG w 15))
  | 0x2A => given (zeroAt w 10 9) (.loop c (regG w 19) (fieldAt w 0 10))
  | 0x2B => some (.loopi c (fieldAt w 10 13) (fieldAt w 0 10))
  | 0x2C => given (zeroAt w 0 11) (.movs c (fieldAt w 17 6) (fieldAt w 11 6))
  | 0x2D => some (.movsi c (fieldAt w 17 6) (fieldAt w 0 17))
  | 0x30 => given (zeroAt w 0 23) (.fence c)
  | 0x31 => given (zeroAt w 0 23) (.brk c)
  | 0x32 => given (zeroAt w 0 23) (.rett c)
  | 0x33 => given (zeroAt w 15 5) (.amod c (regX w 20) (fieldAt w 0 15))
  | 0x34 => given (zeroAt w 19 2 && zeroAt w 0 15) (.waitq c (regA w 21) (regG w 15))
  | 0x35 => given (zeroAt w 16 7) (.signal c (fieldAt w 0 16))
  | _ => none

/-! ### Class 01b (R105, R106) -/

/-- Vector arithmetic; `f` is the lane format. -/
def decodeVector (c : Fin 17) (s : Bool) (w : Word) (f : Fmt) : Nat → Option Instr
  | 0x00 => given (!s && zeroAt w 0 5) (.vmov c f (regV w 18) (regV w 13))
  | 0x01 => given (zeroAt w 0 5) (.vadd c s f (regV w 18) (regV w 13) (regV w 8))
  | 0x02 => given (zeroAt w 0 5) (.vsub c s f (regV w 18) (regV w 13) (regV w 8))
  | 0x03 => given (zeroAt w 0 5) (.vmulq c s f (regV w 18) (regV w 13) (regV w 8))
  | 0x04 => given (!s && zeroAt w 0 5) (.vmin c f (regV w 18) (regV w 13) (regV w 8))
  | 0x05 => given (!s && zeroAt w 0 5) (.vmax c f (regV w 18) (regV w 13) (regV w 8))
  | 0x06 => given (zeroAt w 0 5) (.vabs c s f (regV w 18) (regV w 13))
  | 0x07 => given (zeroAt w 0 5) (.vneg c s f (regV w 18) (regV w 13))
  | 0x08 => given (!s && zeroAt w 0 5) (.vand c f (regV w 18) (regV w 13) (regV w 8))
  | 0x09 => given (!s && zeroAt w 0 5) (.vor c f (regV w 18) (regV w 13) (regV w 8))
  | 0x0A => given (!s && zeroAt w 0 5) (.vxor c f (regV w 18) (regV w 13) (regV w 8))
  | 0x0B => given (zeroAt w 0 5) (.vshl c s f (regV w 18) (regV w 13) (fieldAt w 8 5))
  | 0x0C => given (!s && zeroAt w 0 5) (.vsra c f (regV w 18) (regV w 13) (fieldAt w 8 5))
  | 0x0D => given (!s && zeroAt w 0 5) (.vsrl c f (regV w 18) (regV w 13) (fieldAt w 8 5))
  | 0x0E => given (zeroAt w 0 5) (.vconj c s f (regV w 18) (regV w 13))
  | 0x0F => given (zeroAt w 0 5) (.vmag2 c s f (regV w 18) (regV w 13))
  | 0x10 => given (zeroAt w 0 5) (.vfma c s f (regV w 18) (regV w 13) (regV w 8))
  | 0x11 => given (zeroAt w 0 5 && zeroAt w 12 1)
      (.vcvt c s f (regV w 18) (regV w 13) (fieldAt w 8 3) (flagAt w 11))
  | 0x12 => given (!s && zeroAt w 0 5) (.vperm c f (regV w 18) (regV w 13) (regV w 8))
  | 0x13 => given (!s && zeroAt w 4 1) (.valn c f (regV w 18) (regV w 13) (regV w 8) (fieldAt w 0 4))
  | 0x14 => given (!s && zeroAt w 0 5 && zeroAt w 22 1) (.vget c f (regG w 18) (regV w 13) (fieldAt w 8 5))
  | 0x15 => given (!s && zeroAt w 0 5 && zeroAt w 17 1) (.vput c f (regV w 18) (regG w 13) (fieldAt w 8 5))
  | 0x16 => given (!s && zeroAt w 0 5) (.vhmax c f (regV w 18) (regV w 13))
  | _ => none

/-- The accumulate group; the vd field is zero but in `vrnd` and `vrndw`.  `vpmac` and `vpmsc` take `vb` as a register (DEDUCED,
log entry 125). -/
def decodeAcc (c : Fin 17) (s : Bool) (w : Word) (f : Fmt) : Nat → Option Instr
  | 0x18 => given (zeroAt w 18 5 && zeroAt w 0 1) (.vmac c s f (regA w 3) (flagAt w 2) (flagAt w 1) (regV w 13) (regV w 8))
  | 0x19 => given (zeroAt w 18 5 && zeroAt w 0 1 && zeroAt w 8 5)
      (.vmacp c s f (regA w 3) (flagAt w 2) (flagAt w 1) (regV w 13))
  | 0x1A => given (zeroAt w 18 5 && zeroAt w 0 1) (.vpmac c s f (regA w 3) (flagAt w 2) (flagAt w 1) (regV w 13) (regV w 8))
  | 0x1B => given (zeroAt w 18 5 && zeroAt w 0 1) (.vpmsc c s f (regA w 3) (flagAt w 2) (flagAt w 1) (regV w 13) (regV w 8))
  | 0x1C => given (zeroAt w 18 5 && zeroAt w 0 1) (.vcmac c s f (regA w 3) (flagAt w 2) (flagAt w 1) (regV w 13) (regV w 8))
  | 0x1D => given (zeroAt w 18 5 && zeroAt w 0 1) (.vcmacj c s f (regA w 3) (flagAt w 2) (flagAt w 1) (regV w 13) (regV w 8))
  | 0x1E => given (zeroAt w 18 5 && zeroAt w 0 1 && zeroAt w 8 5)
      (.vcmacp c s f (regA w 3) (flagAt w 2) (flagAt w 1) (regV w 13))
  | 0x1F => given (zeroAt w 18 5 && zeroAt w 0 1 && zeroAt w 8 5)
      (.vcmacpj c s f (regA w 3) (flagAt w 2) (flagAt w 1) (regV w 13))
  | 0x20 => given (zeroAt w 0 3) (.vrnd c s f (regV w 18) (regA w 3) (fieldAt w 8 5))
  | 0x21 => given (zeroAt w 1 2) (.vrndw c s f (regV w 18) (regA w 3) (fieldAt w 8 5) (flagAt w 0))
  | 0x22 => given (!s && zeroAt w 18 5 && zeroAt w 0 3) (.vamov c f (regA w 3) (regV w 13) (fieldAt w 8 5))
  | 0x23 => given (!s && zeroAt w 18 5 && zeroAt w 13 5 && zeroAt w 0 3) (.vaclr c f (regA w 3))
  | _ => none

/-! ### Class 10b (R110, R112) -/

/-- Memory instructions; `env` is what a store to a register meets. -/
def decodeMem (c : Fin 17) (w : Word) (env : WriteEnv) : Nat → Option Instr
  | 0x00 => given (zeroAt w 22 1) (.ld c (regG w 18) (regX w 15) (fieldAt w 12 3) (fieldAt w 0 12))
  | 0x01 => given (zeroAt w 22 1) (.st c (regG w 18) (regX w 15) (fieldAt w 12 3) (fieldAt w 0 12) env)
  | 0x08 => some (.vld c (regV w 18) (regX w 15) (fieldAt w 12 3) (fieldAt w 0 12))
  | 0x09 => some (.vst c (regV w 18) (regX w 15) (fieldAt w 12 3) (fieldAt w 0 12))
  | 0x0A => some (.vldb c (regV w 18) (regX w 15) (fieldAt w 12 3) (fieldAt w 0 12))
  | 0x10 => given (zeroAt w 0 5) (.vld2 c (regV w 18) (regX w 15) (flagAt w 14) (regV w 9) (regX w 6) (flagAt w 5))
  | 0x11 => given (zeroAt w 0 5) (.vldst c (regV w 18) (regX w 15) (flagAt w 14) (regV w 9) (regX w 6) (flagAt w 5))
  | 0x12 => given (zeroAt w 0 5) (.vstld c (regV w 18) (regX w 15) (flagAt w 14) (regV w 9) (regX w 6) (flagAt w 5))
  | 0x13 => given (zeroAt w 0 5) (.vst2 c (regV w 18) (regX w 15) (flagAt w 14) (regV w 9) (regX w 6) (flagAt w 5))
  | _ => none

/-! ### Class 11b (R115, R119) -/

/-- Two-word instructions; `m` is IMM. -/
def decodeExt (c : Fin 17) (m : Bool) (w x : Word) : Nat → Option Instr
  | 0x00 => given (!m && zeroAt w 0 16 && x = 0) (.tlAt c (regG w 20) (regG w 16))
  | 0x01 => given (!m) (.tlAtd c (fieldAt w 0 24 ++ x))
  | 0x02 => some (.tlSet c (fieldAt w 20 4) (fieldAt w 0 20) x m)
  | 0x03 => given (zeroAt x 4 28) (.tlSetr c (fieldAt w 20 4) (fieldAt w 0 20) (regG x 0) m)
  | 0x04 => some (.tlLoad c (fieldAt w 20 4) (fieldAt w 0 20) x m)
  | 0x10 => given (!m && zeroAt w 0 20) (.li c (regG w 20) x)
  | _ => none

/-- The command a word `w`, with the word `x` after it, stands for on core `c` (R93). -/
def decodeCore (c : Fin 17) (w x : Word) (env : WriteEnv) : Option Instr :=
  let s := flagAt w 29
  let op := (fieldAt w 23 6).toNat
  match (fieldAt w 30 2).toNat with
  | 0 =>
    match decodeScalar c s w op with
    | some i => some i
    | none => if s then none else decodeControl c w op
  | 1 =>
    match decodeVector c s w (fieldAt w 5 3) op with
    | some i => some i
    | none => decodeAcc c s w (fieldAt w 5 3) op
  | 2 => if s then none else decodeMem c w env op
  | _ => decodeExt c s w x (fieldAt w 24 5).toNat

end Sys2Proof.Machine
end

