-- ==== Sys2Proof/Machine/CoreMem.lean ====
section
/-! DEFINITION. The memory instructions of class 10b (R110 to R114) on the address spaces of a Beacon core (R61, R62, R80)
and of the Keeper (R64 to R66, R86), and the ILLEGAL encodings (R94). -/

namespace Sys2Proof.Machine
open Sys2Proof

/-! ### Addresses (R67, R111) -/

/-- The offset of a single access in bytes. -/
def byteOff (off : BitVec 12) (size : Nat) : Word := sx off * BitVec.ofNat 32 size

/-- The address a single access uses (R111). -/
def Core.memAddr (k : Core) (x : Fin 8) (mode : BitVec 3) (off : BitVec 12) (size : Nat) : Word :=
  if mode = 3 then k.ap[x] + byteOff off size else k.ap[x]

/-- The pointer after a single access (R111). -/
def Core.memAfter (k : Core) (x : Fin 8) (mode : BitVec 3) (off : BitVec 12) (size : Nat) : Core :=
  if mode = 1 then k.postMod x k.inc[x] else if mode = 2 then k.postMod x (byteOff off size) else k

/-! ### Checks (R61, R62, R65) -/

/-- What a Beacon access may address: X and Y memory and the core-local registers, X and Y memory, or one of the two. -/
inductive Bus where
  | scalar | vector | x | y
deriving DecidableEq, Repr

/-- Does the bus reach `a`? -/
def Bus.reaches (b : Bus) (a : Nat) : Bool :=
  match b with
  | .scalar => decide (a < 0x40100)
  | .vector => decide (a < 0x40000)
  | .x => decide (a < 0x20000)
  | .y => decide (0x20000 ≤ a) && decide (a < 0x40000)

/-- The fault of a Beacon access: DADDR before ALIGN. -/
def beaconCheck (b : Bus) (a : Word) (align : Nat) : Option CoreFault :=
  if !b.reaches a.toNat then some .daddr else if a.toNat % align != 0 then some .align else none

/-- Does the Keeper address `a` (R65)? -/
def keeperReaches (a : Nat) : Bool :=
  decide (a < 0x80000) || (decide (0x10000000 ≤ a) && decide (a < 0x14000000)) ||
  (decide (0x20000000 ≤ a) && decide (a < 0x24000000)) || (decide (0x30000000 ≤ a) && decide (a < 0x30000100))

/-- The trap of a Keeper access: ADDR, ALIGN, then WPROT. -/
def State.keeperCheck (s : State) (store : Bool) (a : Word) : Option CoreFault :=
  if !keeperReaches a.toNat then some .daddr
  else if a.toNat % 4 != 0 then some .align
  else if store && decide (a.toNat < 0x80000) && decide (a.toNat < s.f F.KPR_CODE_END_END) then some .wprot
  else none

/-- The fault of a scalar access of core `c`. -/
def State.scalarCheck (s : State) (c : Fin 17) (store : Bool) (a : Word) : Option CoreFault :=
  if isKeeper c then s.keeperCheck store a else beaconCheck .scalar a 4

/-! ### Core-local registers of a Beacon core (R80) -/

/-- Latch key of the cycle counter of core `n`. -/
def cycKey (n : Nat) : Nat := 2 ^ 27 + n

/-- The 64-bit TCLK cycle count as core `n` reads it (R80); reading its low word latches the high one (R7). -/
def State.readCyc (s : State) (n : Nat) (high : Bool) : Word × State :=
  match (if high then s.time.latch.find? fun x => x.1 = cycKey n else none) with
  | some x => (x.2, s.modTime fun t => { t with latch := t.latch.filter fun y => y.1 != cycKey n })
  | none =>
    let s := s.tclkCount
    let v := s.time.tcyc.count
    if high then ((v >>> 32).setWidth 32, s) else (v.setWidth 32, s.latchHigh (cycKey n) ((v >>> 32).setWidth 32))

/-- A read of the core-local register at offset `o`. -/
def State.localRead (s : State) (n : Fin 17) (o : Nat) : Word × State :=
  let q : Fin 4 := idx 4 (o / 4)
  let w (v : Nat) : Word × State := (BitVec.ofNat 32 v, s)
  if o < 0x10 then w (s.f (F.BCN_n_Qq_STATUS_WR n q))
  else if o < 0x20 then w (s.f (F.BCN_n_Qq_STATUS_RD n q))
  else if o = 0x20 then w (s.cores[n]).flagAcc.toNat
  else if o = 0x28 then w (s.f (F.BCN_n_POSTED_POSTED n))
  else if o = 0x30 then s.readCyc n false
  else if o = 0x34 then s.readCyc n true
  else if o = 0x38 then w n
  else if 0x40 ≤ o && o < 0x50 then
    (let b := (s.cores[n]).queues[q]
     w (if b.bound then b.wrap else 0))
  else w 0

/-- A write of the core-local register at offset `o`; the truth value says that the core goes on. -/
def State.localWrite (s : State) (n : Fin 17) (o : Nat) (v : Word) : State × Bool :=
  if 0x10 ≤ o && o < 0x20 then (s.qrdWrite n (idx 4 (o / 4)) v.toNat, true)
  else if o = 0x24 then s.postWrite n v
  else (s, true)

/-! ### The Keeper's address space (R65, R66) -/

/-- A word of Keeper memory as the Keeper reads it: its newest store still in the buffer, or memory (R66, R114). -/
def State.keeperWord (s : State) (a : Nat) : Word :=
  match s.keeper.storeBuf.reverse.find? fun x => x.1 = a with
  | some x => x.2
  | none => BitVec.ofNat 32 (Mem.readLE s.sram (0x2200000 + a) 4)

/-- A store to Keeper memory enters the store buffer of 4 entries; a full buffer drains its oldest first (R66). -/
def State.keeperPut (s : State) (a : Nat) (v : Word) : State :=
  let s := if 4 ≤ s.keeper.storeBuf.length then s.drainOne else s
  s.modKeeper fun k => { k with storeBuf := k.storeBuf ++ [(a, v)] }

/-- Is coefficient page `p` busy (R64): current in a binding, for the entries to come or for one still to be written (R72), or
named by an entry not yet consumed? -/
def State.pageBusy (s : State) (p : Nat) : Bool :=
  (s.disp.bindings.any fun b =>
    (match b.pages with
     | x :: _ => x.2 = p
     | [] => false) || s.disp.waiting.any fun d => b.takes d && pageAt d.tick b.pages = p) ||
  (List.finRange 17).any fun c => (List.finRange 4).any fun q => ((s.cores[c]).queues[q]).entries.any fun e => e.2.2 = p

/-- A Keeper store through the SRAM window, with the Keeper's rights (R24, R64, R65): coefficient pages that are not busy,
and X/Y memory of a core that does not run; any other store is discarded. -/
def State.windowStore (s : State) (o : Nat) (v : Word) : State :=
  if 0x2000000 ≤ o && o < 0x2200000 then
    (if s.pageBusy ((o - 0x2000000) / 0x8000) then (s.setB F.KPR_LOAD_STATUS_COEF_BUSY true).raise 180
     else { s with sram := Mem.writeN s.sram o (bytesOf 4 v.toNat) })
  else if s.hostMayWrite o then { s with sram := Mem.writeN s.sram o (bytesOf 4 v.toNat) }
  else s

/-- A read of a Keeper-local register: the mailbox flag at 10h (R86); the spec does not give the other offsets: free
values. -/
def State.keeperLocalRead (s : State) (o : Nat) : Word × State :=
  if o = 0x10 then (if s.keeper.mbox then 1 else 0, s) else s.draw 32

/-- A write of a Keeper-local register: 1 clears the mailbox flag (R86).  The spec does not say where the kick alias lies: a
free value says whether a 5A5Ah elsewhere reaches it. -/
def State.keeperLocalWrite (s : State) (o : Nat) (v : Word) : State :=
  if o = 0x10 then (if v.getLsbD 0 then s.modKeeper fun k => { k with mbox := false } else s)
  else let p := s.draw 1; if p.1 = 1 then p.2.wdtKick v else p.2

/-! ### Loads and stores of a word -/

/-- The X/Y byte of core `c` at core address `a`, as an SRAM offset. -/
def xyAt (c : Fin 17) (a : Nat) : Nat := xyBase c.val false + a

/-- A word that core `c` reads. -/
def State.coreLoad (s : State) (c : Fin 17) (a : Nat) : Word × State :=
  if isKeeper c then
    (if a < 0x80000 then (s.keeperWord a, s)
     else if a < 0x14000000 then
       (BitVec.ofNat 32 (ofBytes (s.bar2Read (a - 0x10000000) 4)), s)
     else if a < 0x24000000 then s.regRead true (a - 0x20000000)
     else s.keeperLocalRead (a - 0x30000000))
  else if a < 0x40000 then (BitVec.ofNat 32 (Mem.readLE s.sram (xyAt c a) 4), s)
  else s.localRead c (a - 0x40000)

/-- A word that core `c` writes; the truth value says that the core goes on. -/
def State.coreStore (s : State) (c : Fin 17) (env : WriteEnv) (a : Nat) (v : Word) : State × Bool :=
  if isKeeper c then
    (if a < 0x80000 then s.keeperPut a v
     else if a < 0x14000000 then s.windowStore (a - 0x10000000) v
     else if a < 0x24000000 then s.regWrite true env (a - 0x20000000) v
     else s.keeperLocalWrite (a - 0x30000000) v, true)
  else if a < 0x40000 then ({ s with sram := Mem.writeN s.sram (xyAt c a) (bytesOf 4 v.toNat) }, true)
  else s.localWrite c (a - 0x40000) v

/-! ### Single accesses -/

/-- A single access on a running core: an undefined mode is ILLEGAL, a bad address faults with nothing written, and otherwise
`f` acts on the address after the pointer's update. -/
def State.single (s : State) (c : Fin 17) (x : Fin 8) (mode : BitVec 3) (off : BitVec 12) (size : Nat)
    (check : Word → Option CoreFault) (f : State → Word → State) : State :=
  let k := s.cores[c]
  if 3 < mode.toNat then s.illegal c
  else
    let a := k.memAddr x mode off size
    match check a with
    | some w => s.coreFault c w a
    | none => f (s.modCore c fun k => k.memAfter x mode off size) a

/-- `ld` (R112). -/
def execLd (core : Fin 17) (gd : Fin 16) (x : Fin 8) (mode : BitVec 3) (off : BitVec 12) (s : State) : Out3 :=
  .next (s.onCore core fun s => s.single core x mode off 4 (s.scalarCheck core false) fun t a =>
    let p := t.coreLoad core a.toNat
    (p.2.modCore core fun k => k.writeG gd p.1).fallThrough core)

/-- `st` (R112).  The next instruction boundary lies behind the store, so a store that halts or restarts its own core leaves
the PC there; a store to a full post FIFO holds the core (R79). -/
def execSt (core : Fin 17) (ga : Fin 16) (x : Fin 8) (mode : BitVec 3) (off : BitVec 12) (env : WriteEnv) (s : State) :
    Out3 :=
  .next (s.onCore core fun s =>
    let v := (s.cores[core]).readG ga
    s.single core x mode off 4 (s.scalarCheck core true) fun t a =>
      if isKeeper core then ((t.fallThrough core).coreStore core env a.toNat v).1
      else
        let p := t.coreStore core env a.toNat v
        if p.2 then p.1.fallThrough core else p.1)

/-- A vector of 32 bytes from core address `a`. -/
def State.vecLoad (s : State) (c : Fin 17) (a : Nat) : BitVec 256 := BitVec.ofNat 256 (Mem.readLE s.sram (xyAt c a) 32)

/-- A vector of 32 bytes to core address `a`. -/
def State.vecStore (s : State) (c : Fin 17) (a : Nat) (v : BitVec 256) : State :=
  { s with sram := Mem.writeN s.sram (xyAt c a) (bytesOf 32 v.toNat) }

/-- A vector memory instruction: ILLEGAL on the Keeper (R112). -/
def State.onBeacon (s : State) (c : Fin 17) (f : State → State) : State :=
  s.onCore c fun s => if isKeeper c then s.illegal c else f s

/-- `vld` (R112). -/
def execVld (core : Fin 17) (vd : Fin 32) (x : Fin 8) (mode : BitVec 3) (off : BitVec 12) (s : State) : Out3 :=
  .next (s.onBeacon core fun s => s.single core x mode off 32 (beaconCheck .vector · 32) fun t a =>
    (t.modCore core fun k => k.setVec vd (t.vecLoad core a.toNat)).fallThrough core)

/-- `vst` (R112). -/
def execVst (core : Fin 17) (va : Fin 32) (x : Fin 8) (mode : BitVec 3) (off : BitVec 12) (s : State) : Out3 :=
  .next (s.onBeacon core fun s => s.single core x mode off 32 (beaconCheck .vector · 32) fun t a =>
    (t.vecStore core a.toNat ((t.cores[core]).vec va)).fallThrough core)

/-- `vldb` (R112): the 32-bit word in every 32-bit position; its address is aligned as a scalar. -/
def execVldb (core : Fin 17) (vd : Fin 32) (x : Fin 8) (mode : BitVec 3) (off : BitVec 12) (s : State) : Out3 :=
  .next (s.onBeacon core fun s => s.single core x mode off 4 (beaconCheck .vector · 4) fun t a =>
    let w : Word := BitVec.ofNat 32 (Mem.readLE t.sram (xyAt core a.toNat) 4)
    (t.modCore core fun k => k.setVec vd (fromLanes 32 256 (List.replicate 8 w))).fallThrough core)

/-! ### Dual accesses (R113) -/

/-- A side of a dual access after its access: post-modified in mode 1. -/
def Core.dualAfter (k : Core) (p : Fin 8) (m : Bool) : Core := if m then k.postMod p k.inc[p] else k

/-- A dual access: the same pointer on both sides, or `bad`, is ILLEGAL; the X side is checked before the Y side; then `f`
acts on the two addresses after the pointers' updates. -/
def State.dual (s : State) (c : Fin 17) (px py : Fin 8) (mx my bad : Bool) (f : State → Nat → Nat → State) : State :=
  let k := s.cores[c]
  if px = py || bad then s.illegal c
  else
    let a := k.ap[px]
    let b := k.ap[py]
    match beaconCheck .x a 32, beaconCheck .y b 32 with
    | some w, _ => s.coreFault c w a
    | none, some w => s.coreFault c w b
    | none, none => f (s.modCore c fun k => (k.dualAfter px mx).dualAfter py my) a.toNat b.toNat

/-- `vld2` (R112, R113). -/
def execVld2 (core : Fin 17) (vx : Fin 32) (px : Fin 8) (mx : Bool) (vy : Fin 32) (py : Fin 8) (my : Bool) (s : State) :
    Out3 :=
  .next (s.onBeacon core fun s => s.dual core px py mx my (vx = vy) fun t a b =>
    (t.modCore core fun k => (k.setVec vx (t.vecLoad core a)).setVec vy (t.vecLoad core b)).fallThrough core)

/-- `vldst` (R112, R113): the store uses the register as it was before the load. -/
def execVldst (core : Fin 17) (vx : Fin 32) (px : Fin 8) (mx : Bool) (vy : Fin 32) (py : Fin 8) (my : Bool) (s : State) :
    Out3 :=
  .next (s.onBeacon core fun s => s.dual core px py mx my false fun t a b =>
    let y := (t.cores[core]).vec vy
    ((t.modCore core fun k => k.setVec vx (t.vecLoad core a)).vecStore core b y).fallThrough core)

/-- `vstld` (R112, R113). -/
def execVstld (core : Fin 17) (vx : Fin 32) (px : Fin 8) (mx : Bool) (vy : Fin 32) (py : Fin 8) (my : Bool) (s : State) :
    Out3 :=
  .next (s.onBeacon core fun s => s.dual core px py mx my false fun t a b =>
    let x := (t.cores[core]).vec vx
    ((t.modCore core fun k => k.setVec vy (t.vecLoad core b)).vecStore core a x).fallThrough core)

/-- `vst2` (R112, R113). -/
def execVst2 (core : Fin 17) (vx : Fin 32) (px : Fin 8) (mx : Bool) (vy : Fin 32) (py : Fin 8) (my : Bool) (s : State) :
    Out3 :=
  .next (s.onBeacon core fun s => s.dual core px py mx my false fun t a b =>
    ((t.vecStore core a ((t.cores[core]).vec vx)).vecStore core b ((t.cores[core]).vec vy)).fallThrough core)

/-! ### Encodings that are no instruction (R94) -/

/-- ILLEGAL_INSTRUCTION (R94): a core meets a word that stands for no instruction.  A word that does stand for one has its own
command, whose meaning raises ILLEGAL where R60, R94 and R113 say so. -/
def execIllegalInstruction (core : Fin 17) (word second : BitVec 32) (s : State) : Out3 :=
  .next (match decodeCore core word second ⟨[], false, .done, true⟩ with
    | none => s.onCore core fun s => s.illegal core
    | some _ => s)

end Sys2Proof.Machine
end

