-- ==== Sys2Proof/Machine/Vector.lean ====
section
/-! DEFINITION. Class 01b, vector arithmetic (R95 to R97, R105 to R109).  Every instruction is ILLEGAL on the Keeper (R60)
and with a lane format its table row does not list (R94). -/

namespace Sys2Proof.Machine
open Sys2Proof

/-- A vector result: the lanes, and whether any lane wrapped or clamped. -/
abbrev VRes := BitVec 256 × Bool

/-- Lanes of exact integer results, fitted to width `w` (R69). -/
def vfit (sat : Bool) (w : Nat) (xs : List Int) : VRes :=
  (fromLanes w 256 (xs.map (fitS sat w)), xs.any fun x => !fits w x)

/-- Lanes of floating-point results of width `w` (R97). -/
def vfloat (sat : Bool) (w : Nat) (xs : List FVal) : VRes :=
  let rs := xs.map (fencode w sat)
  (fromLanes w 256 (rs.map (·.1)), rs.any (·.2))

/-- The lanes as signed integers. -/
def ints (w : Nat) (v : BitVec 256) : List Int := (lanes w v).map BitVec.toInt

/-- The lanes as floating-point values. -/
def floats (w : Nat) (v : BitVec 256) : List FVal := (lanes w v).map (fdecode w)

/-- Integer lane width of the formats i16, i32 and c16 (its parts). -/
def intWidth (f : BitVec 3) : Nat := if f = 1 then 32 else 16

/-- Is the format bf16 or binary32? -/
def isFloat (f : BitVec 3) : Bool := f = 3 || f = 4

/-- A lane-wise operation on two vectors: on exact integers or on floating-point values. -/
def vop2 (sat : Bool) (f : BitVec 3) (gi : Int → Int → Int) (gf : FVal → FVal → FVal) (a b : BitVec 256) : VRes :=
  if isFloat f then vfloat sat (laneWidth f) (List.zipWith gf (floats (laneWidth f) a) (floats (laneWidth f) b))
  else vfit sat (intWidth f) (List.zipWith gi (ints (intWidth f) a) (ints (intWidth f) b))

/-- A lane-wise operation on one vector. -/
def vop1 (sat : Bool) (f : BitVec 3) (gi : Int → Int) (gf : FVal → FVal) (a : BitVec 256) : VRes :=
  if isFloat f then vfloat sat (laneWidth f) ((floats (laneWidth f) a).map gf)
  else vfit sat (intWidth f) ((ints (intWidth f) a).map gi)

/-- Is the format one of a list? -/
def fmtIn (f : BitVec 3) (l : List Nat) : Bool := l.contains f.toNat

/-- Run a class 01b instruction on core `c`: ILLEGAL on the Keeper or when `ok` fails. -/
def State.onVec (s : State) (c : Fin 17) (ok : Bool) (g : State → State) : State :=
  s.onCore c fun s => if isKeeper c || !ok then s.illegal c else g s

/-- Write a vector result to `vd`, set the sticky bits and go on. -/
def State.vecWrite (s : State) (c : Fin 17) (sat : Bool) (vd : Fin 32) (r : VRes) : State :=
  (s.modCore c fun k => (k.sticky (r.2 && !sat) (r.2 && sat)).setVec vd r.1).fallThrough c

/-- Vector register `i` of core `c`. -/
def State.vec (s : State) (c : Fin 17) (i : Fin 32) : BitVec 256 := (s.cores[c]).vec i

/-- The minimum or maximum of two floating-point lanes: a NaN input gives NaN, equal values give the first (R106). -/
def fpick (less : Bool) (a b : FVal) : FVal :=
  match a, b with
  | .nan, _ => .nan
  | _, .nan => .nan
  | a, b => if less then (if b.lt a then b else a) else (if a.lt b then b else a)

/-- The pairs of parts of complex lanes. -/
def complexes (v : BitVec 256) : List (Int × Int) :=
  (List.range 8).map fun j => ((lane 16 v (2 * j)).toInt, (lane 16 v (2 * j + 1)).toInt)

/-- The exact complex product of two lanes, with the second conjugated when `conj` (R107). -/
def cmul (conj : Bool) (a b : Int × Int) : Int × Int :=
  let bi := if conj then -b.2 else b.2
  (a.1 * b.1 - a.2 * bi, a.1 * bi + a.2 * b.1)

/-- The parts of complex lanes in accumulator order (R96). -/
def parts (xs : List (Int × Int)) : List Int := xs.flatMap fun x => [x.1, x.2]

/-- Round away a right shift of `n`: to nearest, ties towards plus infinity (R108). -/
def roundShift (x : Int) (n : Nat) : Int := if n = 0 then x else (x + 2 ^ (n - 1)) / 2 ^ n

/-- Accumulate products into `an` (R107) and go on. -/
def State.accumulate (s : State) (c : Fin 17) (sat : Bool) (an : Fin 4) (zero neg : Bool) (prods : List Int) : State :=
  (s.modCore c fun k =>
    let old := if zero then List.replicate 16 (0 : Int) else accLanes k.acc[an]
    let xs := List.zipWith (fun (o p : Int) => o + (if neg then -p else p)) old prods
    (k.stickyFit sat 40 xs).setAcc an (fromLanes 40 640 (xs.map (fitS sat 40)))).fallThrough c

/-- The third operand (R63): 32 bytes of coefficient memory at ap7, which is then post-modified by inc7.  An address beyond
1F_FFFFh raises CADDR, one that is not 32-byte aligned ALIGN (R62, log entry 11). -/
def State.withP (s : State) (c : Fin 17) (g : BitVec 256 → State → State) : State :=
  let a := (s.cores[c]).ap[7]
  if 0x200000 ≤ a.toNat then s.coreFault c .caddr a
  else if a.toNat % 32 != 0 then s.coreFault c .align a
  else
    let p := BitVec.ofNat 256 (Mem.readLE s.sram (0x2000000 + a.toNat) 32)
    g p (s.modCore c fun k => k.postMod 7 k.inc[7])

/-- Lane `j` of a list of integers. -/
def at0 (xs : List Int) (j : Nat) : Int := xs.getD j 0

/-- `vmov` (R106). -/
def execVmov (core : Fin 17) (fmt : Fmt) (vd va : Fin 32) (s : State) : Out3 :=
  .next (s.onVec core (fmtIn fmt [0, 1, 2, 3, 4]) fun s =>
    s.vecWrite core false vd ((s.vec core va), false))

/-- `vadd` (R106). -/
def execVadd (core : Fin 17) (sat : Bool) (fmt : Fmt) (vd va vb : Fin 32) (s : State) : Out3 :=
  .next (s.onVec core (fmtIn fmt [0, 1, 2, 3, 4]) fun s =>
    s.vecWrite core sat vd (vop2 sat fmt (· + ·) FVal.add (s.vec core va) (s.vec core vb)))

/-- `vsub` (R106). -/
def execVsub (core : Fin 17) (sat : Bool) (fmt : Fmt) (vd va vb : Fin 32) (s : State) : Out3 :=
  .next (s.onVec core (fmtIn fmt [0, 1, 2, 3, 4]) fun s =>
    s.vecWrite core sat vd (vop2 sat fmt (· - ·) (fun x y => x.add y.neg) (s.vec core va) (s.vec core vb)))

/-- `vmulq` (R106, R108): Q15 products for i16 and c16, the product for i32, the IEEE product for floats. -/
def execVmulq (core : Fin 17) (sat : Bool) (fmt : Fmt) (vd va vb : Fin 32) (s : State) : Out3 :=
  .next (s.onVec core (fmtIn fmt [0, 1, 2, 3, 4]) fun s =>
    s.vecWrite core sat vd
      (if fmt = 2 then
        vfit sat 16 (parts ((List.zipWith (cmul false) (complexes (s.vec core va)) (complexes (s.vec core vb))).map fun x =>
          (roundShift x.1 15, roundShift x.2 15)))
      else vop2 sat fmt (fun x y => if fmt = 1 then x * y else roundShift (x * y) 15) FVal.mul (s.vec core va) (s.vec core vb)))

/-- `vmin` (R106). -/
def execVmin (core : Fin 17) (fmt : Fmt) (vd va vb : Fin 32) (s : State) : Out3 :=
  .next (s.onVec core (fmtIn fmt [0, 1, 3, 4]) fun s =>
    s.vecWrite core false vd (vop2 false fmt min (fpick true) (s.vec core va) (s.vec core vb)))

/-- `vmax` (R106). -/
def execVmax (core : Fin 17) (fmt : Fmt) (vd va vb : Fin 32) (s : State) : Out3 :=
  .next (s.onVec core (fmtIn fmt [0, 1, 3, 4]) fun s =>
    s.vecWrite core false vd (vop2 false fmt max (fpick false) (s.vec core va) (s.vec core vb)))

/-- `vabs` (R106). -/
def execVabs (core : Fin 17) (sat : Bool) (fmt : Fmt) (vd va : Fin 32) (s : State) : Out3 :=
  .next (s.onVec core (fmtIn fmt [0, 1, 3, 4]) fun s =>
    s.vecWrite core sat vd
      (vop1 sat fmt (fun x => Int.natAbs x) (fun x => match x with
        | .nan => .nan
        | .inf _ => .inf false
        | .fin _ m e => .fin false m e) (s.vec core va)))

/-- `vneg` (R106). -/
def execVneg (core : Fin 17) (sat : Bool) (fmt : Fmt) (vd va : Fin 32) (s : State) : Out3 :=
  .next (s.onVec core (fmtIn fmt [0, 1, 2, 3, 4]) fun s =>
    s.vecWrite core sat vd (vop1 sat fmt (fun x => -x) FVal.neg (s.vec core va)))

/-- `vand` (R106). -/
def execVand (core : Fin 17) (fmt : Fmt) (vd va vb : Fin 32) (s : State) : Out3 :=
  .next (s.onVec core (fmtIn fmt [0, 1]) fun s =>
    s.vecWrite core false vd ((s.vec core va) &&& (s.vec core vb), false))

/-- `vor` (R106). -/
def execVor (core : Fin 17) (fmt : Fmt) (vd va vb : Fin 32) (s : State) : Out3 :=
  .next (s.onVec core (fmtIn fmt [0, 1]) fun s =>
    s.vecWrite core false vd ((s.vec core va) ||| (s.vec core vb), false))

/-- `vxor` (R106). -/
def execVxor (core : Fin 17) (fmt : Fmt) (vd va vb : Fin 32) (s : State) : Out3 :=
  .next (s.onVec core (fmtIn fmt [0, 1]) fun s =>
    s.vecWrite core false vd ((s.vec core va) ^^^ (s.vec core vb), false))

/-- `vshl` (R106). -/
def execVshl (core : Fin 17) (sat : Bool) (fmt : Fmt) (vd va : Fin 32) (n : BitVec 5) (s : State) : Out3 :=
  .next (s.onVec core (fmtIn fmt [0, 1, 2]) fun s =>
    s.vecWrite core sat vd (vfit sat (intWidth fmt) ((ints (intWidth fmt) (s.vec core va)).map (· * 2 ^ n.toNat))))

/-- `vsra` (R106). -/
def execVsra (core : Fin 17) (fmt : Fmt) (vd va : Fin 32) (n : BitVec 5) (s : State) : Out3 :=
  .next (s.onVec core (fmtIn fmt [0, 1, 2]) fun s =>
    s.vecWrite core false vd (vfit false (intWidth fmt) ((ints (intWidth fmt) (s.vec core va)).map (· / 2 ^ n.toNat))))

/-- `vsrl` (R106). -/
def execVsrl (core : Fin 17) (fmt : Fmt) (vd va : Fin 32) (n : BitVec 5) (s : State) : Out3 :=
  .next (s.onVec core (fmtIn fmt [0, 1]) fun s =>
    s.vecWrite core false vd (fromLanes (intWidth fmt) 256 ((lanes (intWidth fmt) (s.vec core va)).map fun x => x.ushiftRight n.toNat), false))

/-- `vconj` (R106): (I, −Q). -/
def execVconj (core : Fin 17) (sat : Bool) (fmt : Fmt) (vd va : Fin 32) (s : State) : Out3 :=
  .next (s.onVec core (fmtIn fmt [2]) fun s =>
    s.vecWrite core sat vd (vfit sat 16 (parts ((complexes (s.vec core va)).map fun x => (x.1, -x.2)))))

/-- `vmag2` (R106): I² + Q² as int32 lanes. -/
def execVmag2 (core : Fin 17) (sat : Bool) (fmt : Fmt) (vd va : Fin 32) (s : State) : Out3 :=
  .next (s.onVec core (fmtIn fmt [2]) fun s =>
    s.vecWrite core sat vd (vfit sat 32 ((complexes (s.vec core va)).map fun x => x.1 * x.1 + x.2 * x.2)))

/-- `vfma` (R106): vd + va × vb with one rounding. -/
def execVfma (core : Fin 17) (sat : Bool) (fmt : Fmt) (vd va vb : Fin 32) (s : State) : Out3 :=
  .next (s.onVec core (fmtIn fmt [4]) fun s =>
    s.vecWrite core sat vd (vfloat sat 32
      (List.zipWith FVal.add (floats 32 (s.vec core vd))
        (List.zipWith FVal.mul (floats 32 (s.vec core va)) (floats 32 (s.vec core vb))))))

/-- A float lane converted to an integer that is fitted to `w` bits, with its overflow (R109). -/
def cvtInt (sat : Bool) (w : Nat) : FVal → BitVec w × Bool
  | .nan => (0, true)
  | .inf neg => (if sat then BitVec.ofInt w (if neg then smin w else smax w) else 0, true)
  | .fin neg m e => (fitS sat w (FVal.toInt neg m e), !fits w (FVal.toInt neg m e))

/-- `old` with 16-bit lanes 8H to 8H + 7 replaced (R109). -/
def halfLanes (half : Bool) (old : BitVec 256) (xs : List (BitVec 16)) : BitVec 256 :=
  fromLanes 16 256
    (if half then (lanes 16 old).take 8 ++ xs else xs ++ (lanes 16 old).drop 8)

/-- Source 16-bit lanes 8H to 8H + 7 (R109). -/
def pickHalf (half : Bool) (v : BitVec 256) : List (BitVec 16) :=
  if half then (lanes 16 v).drop 8 else (lanes 16 v).take 8

/-- The conversions of R109: destination and source format, H, S, the old destination and the source; none for a pair the
rule does not define. -/
def vcvt (dst src : BitVec 3) (half sat : Bool) (old a : BitVec 256) : Option VRes :=
  match dst.toNat, src.toNat with
  | 3, 0 => some (vfloat sat 16 ((ints 16 a).map FVal.ofInt))
  | 0, 3 =>
    let r := (floats 16 a).map (cvtInt sat 16)
    some (fromLanes 16 256 (r.map (·.1)), r.any (·.2))
  | 4, 1 => some (vfloat sat 32 ((ints 32 a).map FVal.ofInt))
  | 1, 4 =>
    let r := (floats 32 a).map (cvtInt sat 32)
    some (fromLanes 32 256 (r.map (·.1)), r.any (·.2))
  | 1, 0 => some (fromLanes 32 256 ((pickHalf half a).map (·.signExtend 32)), false)
  | 4, 3 => some (vfloat sat 32 ((pickHalf half a).map (fdecode 16)))
  | 0, 1 =>
    let xs := ints 32 a
    some (halfLanes half old (xs.map (fitS sat 16)), xs.any fun x => !fits 16 x)
  | 3, 4 =>
    let r := (floats 32 a).map (fencode 16 sat)
    some (halfLanes half old (r.map (·.1)), r.any (·.2))
  | _, _ => none

/-- `vcvt` (R109); an undefined pair is ILLEGAL. -/
def execVcvt (core : Fin 17) (sat : Bool) (fmt : Fmt) (vd va : Fin 32) (src : Fmt) (half : Bool) (s : State) : Out3 :=
  .next (s.onCore core fun s =>
    match vcvt fmt src half sat (s.vec core vd) (s.vec core va) with
    | some r => if isKeeper core then s.illegal core else s.vecWrite core sat vd r
    | none => s.illegal core)

/-- `vperm` (R106). -/
def execVperm (core : Fin 17) (fmt : Fmt) (vd va vb : Fin 32) (s : State) : Out3 :=
  .next (s.onVec core (fmtIn fmt [0, 1, 2, 3, 4]) fun s =>
    let w := laneWidth fmt
    s.vecWrite core false vd
      (fromLanes w 256 ((lanes w (s.vec core vb)).map fun i => lane w (s.vec core va) (i.toNat % (256 / w))), false))

/-- `valn` (R106): n below the lane count, else ILLEGAL. -/
def execValn (core : Fin 17) (fmt : Fmt) (vd va vb : Fin 32) (n : BitVec 4) (s : State) : Out3 :=
  .next (s.onVec core (fmtIn fmt [0, 1, 2, 3, 4] && decide (n.toNat < 256 / laneWidth fmt)) fun s =>
    let w := laneWidth fmt
    s.vecWrite core false vd
      (fromLanes w 256 (((lanes w (s.vec core va) ++ lanes w (s.vec core vb)).drop n.toNat).take (256 / w)), false))

/-- `vget` (R106).  For j beyond the lanes the rule gives no value: a free value (log entry 12). -/
def execVget (core : Fin 17) (fmt : Fmt) (gd : Fin 16) (va : Fin 32) (j : BitVec 5) (s : State) : Out3 :=
  .next (s.onVec core (fmtIn fmt [0, 1, 2, 3, 4]) fun s =>
    let w := laneWidth fmt
    let p := if decide (j.toNat < 256 / w) then
        ((if fmt = 0 then sx (lane 16 (s.vec core va) j.toNat) else zx (lane w (s.vec core va) j.toNat)), s)
      else s.draw 32
    (p.2.modCore core fun k => k.writeG gd p.1).fallThrough core)

/-- `vput` (R106).  For j beyond the lanes the rule gives no result: a free value (log entry 12). -/
def execVput (core : Fin 17) (fmt : Fmt) (vd : Fin 32) (ga : Fin 16) (j : BitVec 5) (s : State) : Out3 :=
  .next (s.onVec core (fmtIn fmt [0, 1, 2, 3, 4]) fun s =>
    let w := laneWidth fmt
    let p := if decide (j.toNat < 256 / w) then
        (setLane w (s.vec core vd) j.toNat (((s.cores[core]).readG ga).setWidth w), s)
      else s.draw 256
    p.2.vecWrite core false vd (p.1, false))

/-- The first index of a largest element: scan a list of (index, value) with `lt`. -/
def argmax {α : Type} (lt : α → α → Bool) : Nat → α → List (Nat × α) → Nat × α
  | i, x, [] => (i, x)
  | i, x, (j, y) :: l => if lt x y then argmax lt j y l else argmax lt i x l

/-- Pair list elements with their indices from `i` on. -/
def indexed {α : Type} : Nat → List α → List (Nat × α)
  | _, [] => []
  | i, x :: l => (i, x) :: indexed (i + 1) l

/-- `vhmax` on integer lanes. -/
def hmaxInt (w : Nat) (v : BitVec 256) : BitVec 256 :=
  match indexed 0 (ints w v) with
  | [] => 0
  | (i, x) :: l =>
    let r := argmax (fun a b => decide (a < b)) i x l
    fromLanes w 256 [BitVec.ofInt w r.2, BitVec.ofNat w r.1]

/-- `vhmax` on binary32 lanes: NaN lanes are ignored; all NaN gives NaN and index 0. -/
def hmaxFloat (v : BitVec 256) : BitVec 256 :=
  match (indexed 0 (floats 32 v)).filter (fun p => p.2 != .nan) with
  | [] => fromLanes 32 256 [fnan 32, 0]
  | (i, x) :: l =>
    let r := argmax FVal.lt i x l
    fromLanes 32 256 [(fencode 32 false r.2).1, (fencode 32 false (FVal.ofInt r.1)).1]

/-- `vhmax` (R106). -/
def execVhmax (core : Fin 17) (fmt : Fmt) (vd va : Fin 32) (s : State) : Out3 :=
  .next (s.onVec core (fmtIn fmt [0, 1, 4]) fun s =>
    s.vecWrite core false vd (if fmt = 4 then hmaxFloat (s.vec core va) else hmaxInt (intWidth fmt) (s.vec core va), false))

/-- `vmac` (R107). -/
def execVmac (core : Fin 17) (sat : Bool) (fmt : Fmt) (an : Fin 4) (zero neg : Bool) (va vb : Fin 32) (s : State) : Out3 :=
  .next (s.onVec core (fmtIn fmt [0]) fun s =>
    s.accumulate core sat an zero neg (List.zipWith (· * ·) (ints 16 (s.vec core va)) (ints 16 (s.vec core vb))))

/-- `vmacp` (R107): the second factor is the third operand. -/
def execVmacp (core : Fin 17) (sat : Bool) (fmt : Fmt) (an : Fin 4) (zero neg : Bool) (va : Fin 32) (s : State) : Out3 :=
  .next (s.onVec core (fmtIn fmt [0]) fun s =>
    let x := (s.vec core va)
    s.withP core fun p s => s.accumulate core sat an zero neg (List.zipWith (· * ·) (ints 16 x) (ints 16 p)))

/-- `vpmac` (R107): (va + vb) × p. -/
def execVpmac (core : Fin 17) (sat : Bool) (fmt : Fmt) (an : Fin 4) (zero neg : Bool) (va vb : Fin 32) (s : State) : Out3 :=
  .next (s.onVec core (fmtIn fmt [0]) fun s =>
    let x := List.zipWith (· + ·) (ints 16 (s.vec core va)) (ints 16 (s.vec core vb))
    s.withP core fun p s => s.accumulate core sat an zero neg (List.zipWith (· * ·) x (ints 16 p)))

/-- `vpmsc` (R107): (va - vb) × p. -/
def execVpmsc (core : Fin 17) (sat : Bool) (fmt : Fmt) (an : Fin 4) (zero neg : Bool) (va vb : Fin 32) (s : State) : Out3 :=
  .next (s.onVec core (fmtIn fmt [0]) fun s =>
    let x := List.zipWith (· - ·) (ints 16 (s.vec core va)) (ints 16 (s.vec core vb))
    s.withP core fun p s => s.accumulate core sat an zero neg (List.zipWith (· * ·) x (ints 16 p)))

/-- `vcmac` (R107). -/
def execVcmac (core : Fin 17) (sat : Bool) (fmt : Fmt) (an : Fin 4) (zero neg : Bool) (va vb : Fin 32) (s : State) : Out3 :=
  .next (s.onVec core (fmtIn fmt [2]) fun s =>
    s.accumulate core sat an zero neg (parts (List.zipWith (cmul false) (complexes (s.vec core va)) (complexes (s.vec core vb)))))

/-- `vcmacj` (R107). -/
def execVcmacj (core : Fin 17) (sat : Bool) (fmt : Fmt) (an : Fin 4) (zero neg : Bool) (va vb : Fin 32) (s : State) : Out3 :=
  .next (s.onVec core (fmtIn fmt [2]) fun s =>
    s.accumulate core sat an zero neg (parts (List.zipWith (cmul true) (complexes (s.vec core va)) (complexes (s.vec core vb)))))

/-- `vcmacp` (R107). -/
def execVcmacp (core : Fin 17) (sat : Bool) (fmt : Fmt) (an : Fin 4) (zero neg : Bool) (va : Fin 32) (s : State) : Out3 :=
  .next (s.onVec core (fmtIn fmt [2]) fun s =>
    let x := (s.vec core va)
    s.withP core fun p s => s.accumulate core sat an zero neg (parts (List.zipWith (cmul false) (complexes x) (complexes p))))

/-- `vcmacpj` (R107). -/
def execVcmacpj (core : Fin 17) (sat : Bool) (fmt : Fmt) (an : Fin 4) (zero neg : Bool) (va : Fin 32) (s : State) : Out3 :=
  .next (s.onVec core (fmtIn fmt [2]) fun s =>
    let x := (s.vec core va)
    s.withP core fun p s => s.accumulate core sat an zero neg (parts (List.zipWith (cmul true) (complexes x) (complexes p))))

/-- `vrnd` (R108). -/
def execVrnd (core : Fin 17) (sat : Bool) (fmt : Fmt) (vd : Fin 32) (an : Fin 4) (n : BitVec 5) (s : State) : Out3 :=
  .next (s.onVec core (fmtIn fmt [0, 2]) fun s =>
    s.vecWrite core sat vd (vfit sat 16 ((accLanes (s.cores[core]).acc[an]).map fun x => roundShift x n.toNat)))

/-- `vrndw` (R108): accumulator lanes 8H to 8H + 7 as int32. -/
def execVrndw (core : Fin 17) (sat : Bool) (fmt : Fmt) (vd : Fin 32) (an : Fin 4) (n : BitVec 5) (half : Bool) (s : State) : Out3 :=
  .next (s.onVec core (fmtIn fmt [1]) fun s =>
    let xs := accLanes (s.cores[core]).acc[an]
    let ys := if half then xs.drop 8 else xs.take 8
    s.vecWrite core sat vd (vfit sat 32 (ys.map fun x => roundShift x n.toNat)))

/-- `vamov` (R106): n above 23 is ILLEGAL. -/
def execVamov (core : Fin 17) (fmt : Fmt) (an : Fin 4) (va : Fin 32) (n : BitVec 5) (s : State) : Out3 :=
  .next (s.onVec core (fmtIn fmt [0, 2] && decide (n.toNat ≤ 23)) fun s =>
    (s.modCore core fun k =>
      k.setAcc an (fromLanes 40 640 ((ints 16 (k.vec va)).map fun x => BitVec.ofInt 40 (x * 2 ^ n.toNat)))).fallThrough core)

/-- `vaclr` (R106). -/
def execVaclr (core : Fin 17) (fmt : Fmt) (an : Fin 4) (s : State) : Out3 :=
  .next (s.onVec core (fmtIn fmt [0]) fun s =>
    (s.modCore core fun k => k.setAcc an 0).fallThrough core)

end Sys2Proof.Machine
end

