-- ==== Sys2Proof/Machine/Dispatch.lean ====
section
/-! DEFINITION. One arm per command: a direct call of its meaning. -/

namespace Sys2Proof.Machine
open Sys2Proof

/-- The effect of a command on everything but the queue. -/
def exec (i : Instr) (s : State) : Host.Outcome State Fault Refusal :=
  match i with
  | .registerWrite addr data env => Sys2Proof.Machine.execRegisterWrite addr data env s
  | .mirrorWrite addr data => Sys2Proof.Machine.execMirrorWrite addr data s
  | .domainClockGood d => Sys2Proof.Machine.execDomainClockGood d s
  | .clkNotReady block => Sys2Proof.Machine.execClkNotReady block s
  | .tickWrap => Sys2Proof.Machine.execTickWrap s
  | .anchorCommit => Sys2Proof.Machine.execAnchorCommit s
  | .anchorRecordsEmitted => Sys2Proof.Machine.execAnchorRecordsEmitted s
  | .rangeSyncEdge edge frac => Sys2Proof.Machine.execRangeSyncEdge edge frac s
  | .syncDeferred => Sys2Proof.Machine.execSyncDeferred s
  | .syncOutPulseEnd => Sys2Proof.Machine.execSyncOutPulseEnd s
  | .rangeArm => Sys2Proof.Machine.execRangeArm s
  | .rangeDisarm => Sys2Proof.Machine.execRangeDisarm s
  | .rangeLoadWrite value => Sys2Proof.Machine.execRangeLoadWrite value s
  | .queueEntryWrite bufferFull => Sys2Proof.Machine.execQueueEntryWrite bufferFull s
  | .qrdWrite core q value => Sys2Proof.Machine.execQrdWrite core q value s
  | .post core addr => Sys2Proof.Machine.execPost core addr s
  | .postCopied core => Sys2Proof.Machine.execPostCopied core s
  | .beaconFault core code addr => Sys2Proof.Machine.execBeaconFault core code addr s
  | .beaconHang core => Sys2Proof.Machine.execBeaconHang core s
  | .beaconRestart core => Sys2Proof.Machine.execBeaconRestart core s
  | .bcnRun mask => Sys2Proof.Machine.execBcnRun mask s
  | .bcnHalt mask => Sys2Proof.Machine.execBcnHalt mask s
  | .bcnWdogWrite core data => Sys2Proof.Machine.execBcnWdogWrite core data s
  | .queueCfgWrite core q slots data => Sys2Proof.Machine.execQueueCfgWrite core q slots data s
  | .keeperTrap code addr => Sys2Proof.Machine.execKeeperTrap code addr s
  | .kprWdtExpire => Sys2Proof.Machine.execKprWdtExpire s
  | .wdtCtrlWrite data => Sys2Proof.Machine.execWdtCtrlWrite data s
  | .wdtKick data => Sys2Proof.Machine.execWdtKick data s
  | .kprHalt => Sys2Proof.Machine.execKprHalt s
  | .kprResume => Sys2Proof.Machine.execKprResume s
  | .kprRestart => Sys2Proof.Machine.execKprRestart s
  | .keeperRestartDone => Sys2Proof.Machine.execKeeperRestartDone s
  | .mboxDbRing => Sys2Proof.Machine.execMboxDbRing s
  | .mboxOut7Write data => Sys2Proof.Machine.execMboxOut7Write data s
  | .loadGo data => Sys2Proof.Machine.execLoadGo data s
  | .imageLoadDone source => Sys2Proof.Machine.execImageLoadDone source s
  | .illegalInstruction core word second => Sys2Proof.Machine.execIllegalInstruction core word second s
  | .nop core => Sys2Proof.Machine.execNop core s
  | .add core sat gd ga gb => Sys2Proof.Machine.execAdd core sat gd ga gb s
  | .sub core sat gd ga gb => Sys2Proof.Machine.execSub core sat gd ga gb s
  | .mul core sat gd ga gb => Sys2Proof.Machine.execMul core sat gd ga gb s
  | .mulh core gd ga gb => Sys2Proof.Machine.execMulh core gd ga gb s
  | .and core gd ga gb => Sys2Proof.Machine.execAnd core gd ga gb s
  | .or core gd ga gb => Sys2Proof.Machine.execOr core gd ga gb s
  | .xor core gd ga gb => Sys2Proof.Machine.execXor core gd ga gb s
  | .sll core sat gd ga gb => Sys2Proof.Machine.execSll core sat gd ga gb s
  | .srl core gd ga gb => Sys2Proof.Machine.execSrl core gd ga gb s
  | .sra core gd ga gb => Sys2Proof.Machine.execSra core gd ga gb s
  | .slt core gd ga gb => Sys2Proof.Machine.execSlt core gd ga gb s
  | .sltu core gd ga gb => Sys2Proof.Machine.execSltu core gd ga gb s
  | .min core gd ga gb => Sys2Proof.Machine.execMin core gd ga gb s
  | .max core gd ga gb => Sys2Proof.Machine.execMax core gd ga gb s
  | .abs core sat gd ga => Sys2Proof.Machine.execAbs core sat gd ga s
  | .addi core sat gd ga imm => Sys2Proof.Machine.execAddi core sat gd ga imm s
  | .andi core gd ga imm => Sys2Proof.Machine.execAndi core gd ga imm s
  | .ori core gd ga imm => Sys2Proof.Machine.execOri core gd ga imm s
  | .xori core gd ga imm => Sys2Proof.Machine.execXori core gd ga imm s
  | .slli core sat gd ga n => Sys2Proof.Machine.execSlli core sat gd ga n s
  | .srli core gd ga n => Sys2Proof.Machine.execSrli core gd ga n s
  | .srai core gd ga n => Sys2Proof.Machine.execSrai core gd ga n s
  | .slti core gd ga imm => Sys2Proof.Machine.execSlti core gd ga imm s
  | .lui core gd imm => Sys2Proof.Machine.execLui core gd imm s
  | .lli core gd imm => Sys2Proof.Machine.execLli core gd imm s
  | .beq core ga gb off => Sys2Proof.Machine.execBeq core ga gb off s
  | .bne core ga gb off => Sys2Proof.Machine.execBne core ga gb off s
  | .blt core ga gb off => Sys2Proof.Machine.execBlt core ga gb off s
  | .bge core ga gb off => Sys2Proof.Machine.execBge core ga gb off s
  | .bltu core ga gb off => Sys2Proof.Machine.execBltu core ga gb off s
  | .bgeu core ga gb off => Sys2Proof.Machine.execBgeu core ga gb off s
  | .jmp core off => Sys2Proof.Machine.execJmp core off s
  | .jal core off => Sys2Proof.Machine.execJal core off s
  | .jr core ga => Sys2Proof.Machine.execJr core ga s
  | .jalr core gd ga => Sys2Proof.Machine.execJalr core gd ga s
  | .loop core ga len => Sys2Proof.Machine.execLoop core ga len s
  | .loopi core count len => Sys2Proof.Machine.execLoopi core count len s
  | .loopBackEdge core => Sys2Proof.Machine.execLoopBackEdge core s
  | .movs core dst src => Sys2Proof.Machine.execMovs core dst src s
  | .movsi core dst imm => Sys2Proof.Machine.execMovsi core dst imm s
  | .fence core => Sys2Proof.Machine.execFence core s
  | .brk core => Sys2Proof.Machine.execBrk core s
  | .rett core => Sys2Proof.Machine.execRett core s
  | .amod core x imm => Sys2Proof.Machine.execAmod core x imm s
  | .waitq core q ga => Sys2Proof.Machine.execWaitq core q ga s
  | .waitqWake core => Sys2Proof.Machine.execWaitqWake core s
  | .signal core imm => Sys2Proof.Machine.execSignal core imm s
  | .vmov core fmt vd va => Sys2Proof.Machine.execVmov core fmt vd va s
  | .vadd core sat fmt vd va vb => Sys2Proof.Machine.execVadd core sat fmt vd va vb s
  | .vsub core sat fmt vd va vb => Sys2Proof.Machine.execVsub core sat fmt vd va vb s
  | .vmulq core sat fmt vd va vb => Sys2Proof.Machine.execVmulq core sat fmt vd va vb s
  | .vmin core fmt vd va vb => Sys2Proof.Machine.execVmin core fmt vd va vb s
  | .vmax core fmt vd va vb => Sys2Proof.Machine.execVmax core fmt vd va vb s
  | .vabs core sat fmt vd va => Sys2Proof.Machine.execVabs core sat fmt vd va s
  | .vneg core sat fmt vd va => Sys2Proof.Machine.execVneg core sat fmt vd va s
  | .vand core fmt vd va vb => Sys2Proof.Machine.execVand core fmt vd va vb s
  | .vor core fmt vd va vb => Sys2Proof.Machine.execVor core fmt vd va vb s
  | .vxor core fmt vd va vb => Sys2Proof.Machine.execVxor core fmt vd va vb s
  | .vshl core sat fmt vd va n => Sys2Proof.Machine.execVshl core sat fmt vd va n s
  | .vsra core fmt vd va n => Sys2Proof.Machine.execVsra core fmt vd va n s
  | .vsrl core fmt vd va n => Sys2Proof.Machine.execVsrl core fmt vd va n s
  | .vconj core sat fmt vd va => Sys2Proof.Machine.execVconj core sat fmt vd va s
  | .vmag2 core sat fmt vd va => Sys2Proof.Machine.execVmag2 core sat fmt vd va s
  | .vfma core sat fmt vd va vb => Sys2Proof.Machine.execVfma core sat fmt vd va vb s
  | .vcvt core sat fmt vd va src half => Sys2Proof.Machine.execVcvt core sat fmt vd va src half s
  | .vperm core fmt vd va vb => Sys2Proof.Machine.execVperm core fmt vd va vb s
  | .valn core fmt vd va vb n => Sys2Proof.Machine.execValn core fmt vd va vb n s
  | .vget core fmt gd va j => Sys2Proof.Machine.execVget core fmt gd va j s
  | .vput core fmt vd ga j => Sys2Proof.Machine.execVput core fmt vd ga j s
  | .vhmax core fmt vd va => Sys2Proof.Machine.execVhmax core fmt vd va s
  | .vmac core sat fmt an zero neg va vb => Sys2Proof.Machine.execVmac core sat fmt an zero neg va vb s
  | .vmacp core sat fmt an zero neg va => Sys2Proof.Machine.execVmacp core sat fmt an zero neg va s
  | .vpmac core sat fmt an zero neg va vb => Sys2Proof.Machine.execVpmac core sat fmt an zero neg va vb s
  | .vpmsc core sat fmt an zero neg va vb => Sys2Proof.Machine.execVpmsc core sat fmt an zero neg va vb s
  | .vcmac core sat fmt an zero neg va vb => Sys2Proof.Machine.execVcmac core sat fmt an zero neg va vb s
  | .vcmacj core sat fmt an zero neg va vb => Sys2Proof.Machine.execVcmacj core sat fmt an zero neg va vb s
  | .vcmacp core sat fmt an zero neg va => Sys2Proof.Machine.execVcmacp core sat fmt an zero neg va s
  | .vcmacpj core sat fmt an zero neg va => Sys2Proof.Machine.execVcmacpj core sat fmt an zero neg va s
  | .vrnd core sat fmt vd an n => Sys2Proof.Machine.execVrnd core sat fmt vd an n s
  | .vrndw core sat fmt vd an n half => Sys2Proof.Machine.execVrndw core sat fmt vd an n half s
  | .vamov core fmt an va n => Sys2Proof.Machine.execVamov core fmt an va n s
  | .vaclr core fmt an => Sys2Proof.Machine.execVaclr core fmt an s
  | .ld core gd x mode off => Sys2Proof.Machine.execLd core gd x mode off s
  | .st core ga x mode off env => Sys2Proof.Machine.execSt core ga x mode off env s
  | .vld core vd x mode off => Sys2Proof.Machine.execVld core vd x mode off s
  | .vst core va x mode off => Sys2Proof.Machine.execVst core va x mode off s
  | .vldb core vd x mode off => Sys2Proof.Machine.execVldb core vd x mode off s
  | .vld2 core vx px mx vy py my => Sys2Proof.Machine.execVld2 core vx px mx vy py my s
  | .vldst core vx px mx vy py my => Sys2Proof.Machine.execVldst core vx px mx vy py my s
  | .vstld core vx px mx vy py my => Sys2Proof.Machine.execVstld core vx px mx vy py my s
  | .vst2 core vx px mx vy py my => Sys2Proof.Machine.execVst2 core vx px mx vy py my s
  | .li core gd imm => Sys2Proof.Machine.execLi core gd imm s
  | .tlAt core ga gb => Sys2Proof.Machine.execTlAt core ga gb s
  | .tlAtd core delta => Sys2Proof.Machine.execTlAtd core delta s
  | .tlSet core unit sel opnd imm => Sys2Proof.Machine.execTlSet core unit sel opnd imm s
  | .tlSetr core unit sel ga imm => Sys2Proof.Machine.execTlSetr core unit sel ga imm s
  | .tlLoad core unit sel desc imm => Sys2Proof.Machine.execTlLoad core unit sel desc imm s
  | .tlStallEnd => Sys2Proof.Machine.execTlStallEnd s
  | .tlLoadCopyDone => Sys2Proof.Machine.execTlLoadCopyDone s
  | .tlFlush units => Sys2Proof.Machine.execTlFlush units s
  | .atten n label => Sys2Proof.Machine.execAtten n label s
  | .preamp n label => Sys2Proof.Machine.execPreamp n label s
  | .ftThr n label => Sys2Proof.Machine.execFtThr n label s
  | .ftCtrl n label beyond0 beyond1 => Sys2Proof.Machine.execFtCtrl n label beyond0 beyond1 s
  | .ncoFreq n label => Sys2Proof.Machine.execNcoFreq n label s
  | .ncoPhase n label => Sys2Proof.Machine.execNcoPhase n label s
  | .decK n label => Sys2Proof.Machine.execDecK n label s
  | .spanMode n label => Sys2Proof.Machine.execSpanMode n label s
  | .rankCtrl n label => Sys2Proof.Machine.execRankCtrl n label s
  | .thrHigh n label => Sys2Proof.Machine.execThrHigh n label s
  | .thrLow n label => Sys2Proof.Machine.execThrLow n label s
  | .outCtrl n label => Sys2Proof.Machine.execOutCtrl n label s
  | .enable n label => Sys2Proof.Machine.execEnable n label s
  | .fftLog2n n label => Sys2Proof.Machine.execFftLog2n n label s
  | .window n label => Sys2Proof.Machine.execWindow n label s
  | .kaiserBeta n label => Sys2Proof.Machine.execKaiserBeta n label s
  | .hopDiv n label => Sys2Proof.Machine.execHopDiv n label s
  | .detMode n label => Sys2Proof.Machine.execDetMode n label s
  | .detCount n label => Sys2Proof.Machine.execDetCount n label s
  | .binFirst n label => Sys2Proof.Machine.execBinFirst n label s
  | .binLast n label => Sys2Proof.Machine.execBinLast n label s
  | .format n label => Sys2Proof.Machine.execFormat n label s
  | .userWindow n label => Sys2Proof.Machine.execUserWindow n label s
  | .maskCtrl label => Sys2Proof.Machine.execMaskCtrl label s
  | .mask label => Sys2Proof.Machine.execMask label s
  | .progCtrl label => Sys2Proof.Machine.execProgCtrl label s
  | .prog label => Sys2Proof.Machine.execProg label s
  | .holdoff label => Sys2Proof.Machine.execHoldoff label s
  | .auto label => Sys2Proof.Machine.execAuto label s
  | .pre label => Sys2Proof.Machine.execPre label s
  | .sectorPost label => Sys2Proof.Machine.execSectorPost label s
  | .segRing label => Sys2Proof.Machine.execSegRing label s
  | .arm label => Sys2Proof.Machine.execArm label s
  | .disarm label => Sys2Proof.Machine.execDisarm label s
  | .geom n label => Sys2Proof.Machine.execGeom n label s
  | .integ label => Sys2Proof.Machine.execInteg label s
  | .persist label => Sys2Proof.Machine.execPersist label s
  | .snapCtrl label => Sys2Proof.Machine.execSnapCtrl label s
  | .lut label => Sys2Proof.Machine.execLut label s
  | .startSrc label => Sys2Proof.Machine.execStartSrc label s
  | .stopMask label => Sys2Proof.Machine.execStopMask label s
  | .gateCtrl label => Sys2Proof.Machine.execGateCtrl label s
  | .statN label => Sys2Proof.Machine.execStatN label s
  | .calCtrl label => Sys2Proof.Machine.execCalCtrl label s
  | .cap n label => Sys2Proof.Machine.execCap n label s
  | .ring n label => Sys2Proof.Machine.execRing n label s
  | .streamEn k label => Sys2Proof.Machine.execStreamEn k label s
  | .mark label => Sys2Proof.Machine.execMark label s
  | .freeze label => Sys2Proof.Machine.execFreeze label s
  | .rotate label => Sys2Proof.Machine.execRotate label s
  | .swapSched label => Sys2Proof.Machine.execSwapSched label s
  | .scanMask label => Sys2Proof.Machine.execScanMask label s
  | .urgent label => Sys2Proof.Machine.execUrgent label s
  | .bind label => Sys2Proof.Machine.execBind label s
  | .cpage label => Sys2Proof.Machine.execCpage label s
  | .resyncV label => Sys2Proof.Machine.execResyncV label s
  | .resync label => Sys2Proof.Machine.execResync label s
  | .syncOut label edge => Sys2Proof.Machine.execSyncOut label edge s
  | .trigoutSrc p label => Sys2Proof.Machine.execTrigoutSrc p label s
  | .xtrigCtrl label => Sys2Proof.Machine.execXtrigCtrl label s
  | .frontEndStepEnd n => Sys2Proof.Machine.execFrontEndStepEnd n s
  | .thresholdHoldEnd n c => Sys2Proof.Machine.execThresholdHoldEnd n c s
  | .comparatorTransition n c v label => Sys2Proof.Machine.execComparatorTransition n c v label s
  | .ovrFire n label => Sys2Proof.Machine.execOvrFire n label s
  | .tripFire n label => Sys2Proof.Machine.execTripFire n label s
  | .ovrMarkEnd n => Sys2Proof.Machine.execOvrMarkEnd n s
  | .overloadEpisodeEnd n => Sys2Proof.Machine.execOverloadEpisodeEnd n s
  | .lampEntryArrive u => Sys2Proof.Machine.execLampEntryArrive u s
  | .peakClear n => Sys2Proof.Machine.execPeakClear n s
  | .trigoutPulseStart p label => Sys2Proof.Machine.execTrigoutPulseStart p label s
  | .trigoutPulseEnd p => Sys2Proof.Machine.execTrigoutPulseEnd p s
  | .swapGridPoint n arrived => Sys2Proof.Machine.execSwapGridPoint n arrived s
  | .deferredSwapPerform n => Sys2Proof.Machine.execDeferredSwapPerform n s
  | .referenceWindowEnd n => Sys2Proof.Machine.execReferenceWindowEnd n s
  | .checkWindowStart n => Sys2Proof.Machine.execCheckWindowStart n s
  | .checkWindowEnd n bg lowsig residOffset residGain => Sys2Proof.Machine.execCheckWindowEnd n bg lowsig residOffset residGain s
  | .factoryTrimReadDone data => Sys2Proof.Machine.execFactoryTrimReadDone data s
  | .userTrimReadDone data => Sys2Proof.Machine.execUserTrimReadDone data s
  | .trimSetApplied label => Sys2Proof.Machine.execTrimSetApplied label s
  | .refinWindowEnd edges seen khz => Sys2Proof.Machine.execRefinWindowEnd edges seen khz s
  | .holdoverLock y => Sys2Proof.Machine.execHoldoverLock y s
  | .backupClockLock => Sys2Proof.Machine.execBackupClockLock s
  | .clkStart => Sys2Proof.Machine.execClkStart s
  | .towerSynthLock => Sys2Proof.Machine.execTowerSynthLock s
  | .refNomWrite data => Sys2Proof.Machine.execRefNomWrite data s
  | .scApply sclkIn => Sys2Proof.Machine.execScApply sclkIn s
  | .scRetune label => Sys2Proof.Machine.execScRetune label s
  | .scLock label => Sys2Proof.Machine.execScLock label s
  | .scLoss label => Sys2Proof.Machine.execScLoss label s
  | .sclkInLoss label => Sys2Proof.Machine.execSclkInLoss label s
  | .towerClkLoss => Sys2Proof.Machine.execTowerClkLoss s
  | .memClkLoss => Sys2Proof.Machine.execMemClkLoss s
  | .memClkRelock => Sys2Proof.Machine.execMemClkRelock s
  | .panelClkLoss => Sys2Proof.Machine.execPanelClkLoss s
  | .panelClkRelock => Sys2Proof.Machine.execPanelClkRelock s
  | .aclkLoss => Sys2Proof.Machine.execAclkLoss s
  | .spreadWrite y data => Sys2Proof.Machine.execSpreadWrite y data s
  | .spreadChange y => Sys2Proof.Machine.execSpreadChange y s
  | .forwardFrame lanes pairs => Sys2Proof.Machine.execForwardFrame lanes pairs s
  | .laneSwitch ret => Sys2Proof.Machine.execLaneSwitch ret s
  | .clockLaneFail => Sys2Proof.Machine.execClockLaneFail s
  | .returnFrame lanes => Sys2Proof.Machine.execReturnFrame lanes s
  | .returnResend => Sys2Proof.Machine.execReturnResend s
  | .returnLinkTimeout => Sys2Proof.Machine.execReturnLinkTimeout s
  | .retrain => Sys2Proof.Machine.execRetrain s
  | .trainingPhaseDone bad margins => Sys2Proof.Machine.execTrainingPhaseDone bad margins s
  | .filterOutput n codes => Sys2Proof.Machine.execFilterOutput n codes s
  | .lensFrame n => Sys2Proof.Machine.execLensFrame n s
  | .maxExpClear n => Sys2Proof.Machine.execMaxExpClear n s
  | .sectorEvent => Sys2Proof.Machine.execSectorEvent s
  | .sectorLabel label => Sys2Proof.Machine.execSectorLabel label s
  | .stepTimeout p => Sys2Proof.Machine.execStepTimeout p s
  | .autoTrigger => Sys2Proof.Machine.execAutoTrigger s
  | .segmentEnd => Sys2Proof.Machine.execSegmentEnd s
  | .xtrigEdge tau => Sys2Proof.Machine.execXtrigEdge tau s
  | .xtrigPulseStart label => Sys2Proof.Machine.execXtrigPulseStart label s
  | .xtrigPulseEnd => Sys2Proof.Machine.execXtrigPulseEnd s
  | .trigInEdge c rising stop code => Sys2Proof.Machine.execTrigInEdge c rising stop code s
  | .coarseOverflow => Sys2Proof.Machine.execCoarseOverflow s
  | .gateOpen label => Sys2Proof.Machine.execGateOpen label s
  | .gateClose label => Sys2Proof.Machine.execGateClose label s
  | .twoPeriodCalibration c one two => Sys2Proof.Machine.execTwoPeriodCalibration c one two s
  | .codeDensityTable c hits => Sys2Proof.Machine.execCodeDensityTable c hits s
  | .roleChange c => Sys2Proof.Machine.execRoleChange c s
  | .glowUpdate n => Sys2Proof.Machine.execGlowUpdate n s
  | .snapshotComplete n => Sys2Proof.Machine.execSnapshotComplete n s
  | .amcApply data dimms => Sys2Proof.Machine.execAmcApply data dimms s
  | .initialTrainingDone => Sys2Proof.Machine.execInitialTrainingDone s
  | .dimmTempCheck temps => Sys2Proof.Machine.execDimmTempCheck temps s
  | .tempRetrain => Sys2Proof.Machine.execTempRetrain s
  | .fullRetrainDone => Sys2Proof.Machine.execFullRetrainDone s
  | .alertN c => Sys2Proof.Machine.execAlertN c s
  | .correctableError c => Sys2Proof.Machine.execCorrectableError c s
  | .uncorrectableError c reader => Sys2Proof.Machine.execUncorrectableError c reader s
  | .slotFrame c => Sys2Proof.Machine.execSlotFrame c s
  | .captureFifoIntake => Sys2Proof.Machine.execCaptureFifoIntake s
  | .fifoIntakeResume => Sys2Proof.Machine.execFifoIntakeResume s
  | .captureWrite => Sys2Proof.Machine.execCaptureWrite s
  | .selfRefreshEnter => Sys2Proof.Machine.execSelfRefreshEnter s
  | .selfRefreshExit => Sys2Proof.Machine.execSelfRefreshExit s
  | .selfRefreshExitDone => Sys2Proof.Machine.execSelfRefreshExitDone s
  | .bar5Access offset len data => Sys2Proof.Machine.execBar5Access offset len data s
  | .fifoPeakClear => Sys2Proof.Machine.execFifoPeakClear s
  | .linkUp rate width => Sys2Proof.Machine.execLinkUp rate width s
  | .hotReset => Sys2Proof.Machine.execHotReset s
  | .dmaStart c data => Sys2Proof.Machine.execDmaStart c data s
  | .descriptorFinish c code moved data => Sys2Proof.Machine.execDescriptorFinish c code moved data s
  | .dmaResume c data => Sys2Proof.Machine.execDmaResume c data s
  | .dmaFlush c data => Sys2Proof.Machine.execDmaFlush c data s
  | .dmaStopForced c moved data => Sys2Proof.Machine.execDmaStopForced c moved data s
  | .recordRelease k => Sys2Proof.Machine.execRecordRelease k s
  | .producerUpdate k => Sys2Proof.Machine.execProducerUpdate k s
  | .streamAdmit k => Sys2Proof.Machine.execStreamAdmit k s
  | .streamRelease k => Sys2Proof.Machine.execStreamRelease k s
  | .consumerWrite k count => Sys2Proof.Machine.execConsumerWrite k count s
  | .streamCfgWrite k reg data => Sys2Proof.Machine.execStreamCfgWrite k reg data s
  | .nvqCfgWrite q reg data => Sys2Proof.Machine.execNvqCfgWrite q reg data s
  | .nvqKick => Sys2Proof.Machine.execNvqKick s
  | .completionPoll => Sys2Proof.Machine.execCompletionPoll s
  | .nvmeCompletion q cid status => Sys2Proof.Machine.execNvmeCompletion q cid status s
  | .nvmeTimeout q => Sys2Proof.Machine.execNvmeTimeout q s
  | .stripeWrite k => Sys2Proof.Machine.execStripeWrite k s
  | .stripePartialTimeout k => Sys2Proof.Machine.execStripePartialTimeout k s
  | .bar4Read what => Sys2Proof.Machine.execBar4Read what s
  | .tagsPeakClear => Sys2Proof.Machine.execTagsPeakClear s
  | .d3hot pmeEn => Sys2Proof.Machine.execD3hot pmeEn s
  | .panelEnable data => Sys2Proof.Machine.execPanelEnable data s
  | .panelDisable data => Sys2Proof.Machine.execPanelDisable data s
  | .panelLinkUp => Sys2Proof.Machine.execPanelLinkUp s
  | .panelCfgWrite reg data => Sys2Proof.Machine.execPanelCfgWrite reg data s
  | .full data => Sys2Proof.Machine.execFull data s
  | .dcsSend data => Sys2Proof.Machine.execDcsSend data s
  | .teEdge us => Sys2Proof.Machine.execTeEdge us s
  | .frameTimer us => Sys2Proof.Machine.execFrameTimer us s
  | .teLost => Sys2Proof.Machine.execTeLost s
  | .commitGo => Sys2Proof.Machine.execCommitGo s
  | .commitHost => Sys2Proof.Machine.execCommitHost s
  | .hostRowRead data => Sys2Proof.Machine.execHostRowRead data s
  | .pushDone => Sys2Proof.Machine.execPushDone s
  | .conversionDone code => Sys2Proof.Machine.execConversionDone code s
  | .urgentRequest input => Sys2Proof.Machine.execUrgentRequest input s
  | .snapLatch input => Sys2Proof.Machine.execSnapLatch input s
  | .snapClear input => Sys2Proof.Machine.execSnapClear input s
  | .testCtrlWrite data => Sys2Proof.Machine.execTestCtrlWrite data s
  | .operatingSecond => Sys2Proof.Machine.execOperatingSecond s
  | .logCommit => Sys2Proof.Machine.execLogCommit s
  | .pwrWarnFall => Sys2Proof.Machine.execPwrWarnFall s
  | .slotWriteDone ok => Sys2Proof.Machine.execSlotWriteDone ok s
  | .eraseSectorDone => Sys2Proof.Machine.execEraseSectorDone s
  | .logbookLoadDone answers => Sys2Proof.Machine.execLogbookLoadDone answers s
  | .cursorWrite age => Sys2Proof.Machine.execCursorWrite age s
  | .windowCopyDone => Sys2Proof.Machine.execWindowCopyDone s
  | .logClear => Sys2Proof.Machine.execLogClear s
  | .clearCheckDone => Sys2Proof.Machine.execClearCheckDone s
  | .identityRead => Sys2Proof.Machine.execIdentityRead s
  | .temperatureRead => Sys2Proof.Machine.execTemperatureRead s
  | .stateRead => Sys2Proof.Machine.execStateRead s
  | .causeRead => Sys2Proof.Machine.execCauseRead s
  | .smbusCursorSet word => Sys2Proof.Machine.execSmbusCursorSet word s
  | .smbusBlockRead => Sys2Proof.Machine.execSmbusBlockRead s
  | .seqLowRead => Sys2Proof.Machine.execSeqLowRead s
  | .seqHighRead => Sys2Proof.Machine.execSeqHighRead s
  | .powerOnReset => Sys2Proof.Machine.execPowerOnReset s
  | .resetN => Sys2Proof.Machine.execResetN s
  | .resetNRise boot clk => Sys2Proof.Machine.execResetNRise boot clk s
  | .perstN => Sys2Proof.Machine.execPerstN s
  | .perstNRise => Sys2Proof.Machine.execPerstNRise s
  | .releaseStepDone step boot clk repairs unrepaired => Sys2Proof.Machine.execReleaseStepDone step boot clk repairs unrepaired s
  | .thermalTrip sensor => Sys2Proof.Machine.execThermalTrip sensor s
  | .thermalClear => Sys2Proof.Machine.execThermalClear s
  | .rstBlockReq data => Sys2Proof.Machine.execRstBlockReq data s
  | .blockIdle block => Sys2Proof.Machine.execBlockIdle block s
  | .quiesceTimeout block => Sys2Proof.Machine.execQuiesceTimeout block s
  | .blockResetElapsed block => Sys2Proof.Machine.execBlockResetElapsed block s
  | .blockClockGood block => Sys2Proof.Machine.execBlockClockGood block s
  | .blockClockTimeout block => Sys2Proof.Machine.execBlockClockTimeout block s
  | .powerRequest data => Sys2Proof.Machine.execPowerRequest data s
  | .powerTransitionDone => Sys2Proof.Machine.execPowerTransitionDone s
  | .standbyDrainTimeout => Sys2Proof.Machine.execStandbyDrainTimeout s
  | .acquisitionStop label => Sys2Proof.Machine.execAcquisitionStop label s
  | .acquisitionResume label => Sys2Proof.Machine.execAcquisitionResume label s
  | .wake source => Sys2Proof.Machine.execWake source s
  | .provision how => Sys2Proof.Machine.execProvision how s
  | .programSlot ok => Sys2Proof.Machine.execProgramSlot ok s
  | .secure how => Sys2Proof.Machine.execSecure how s
  | .revokeSlot ok => Sys2Proof.Machine.execRevokeSlot ok s
  | .returnLcs how => Sys2Proof.Machine.execReturnLcs how s
  | .scrap how => Sys2Proof.Machine.execScrap how s
  | .raiseSvn ok => Sys2Proof.Machine.execRaiseSvn ok s
  | .transitionResume => Sys2Proof.Machine.execTransitionResume s
  | .trngFail => Sys2Proof.Machine.execTrngFail s
  | .idReady => Sys2Proof.Machine.execIdReady s
  | .extend => Sys2Proof.Machine.execExtend s
  | .attest => Sys2Proof.Machine.execAttest s
  | .reportBuilt => Sys2Proof.Machine.execReportBuilt s
  | .bypass => Sys2Proof.Machine.execBypass s
  | .idcode => Sys2Proof.Machine.execIdcode s
  | .samplePreload => Sys2Proof.Machine.execSamplePreload s
  | .extest => Sys2Proof.Machine.execExtest s
  | .extestPulse => Sys2Proof.Machine.execExtestPulse s
  | .extestTrain => Sys2Proof.Machine.execExtestTrain s
  | .clamp => Sys2Proof.Machine.execClamp s
  | .highz => Sys2Proof.Machine.execHighz s
  | .intscan => Sys2Proof.Machine.execIntscan s
  | .repair => Sys2Proof.Machine.execRepair s
  | .bstGo data => Sys2Proof.Machine.execBstGo data s
  | .bstTestEnd test end_ => Sys2Proof.Machine.execBstTestEnd test end_ s
  | .bstAbort data => Sys2Proof.Machine.execBstAbort data s
  | .fuseSram data => Sys2Proof.Machine.execFuseSram data s
  | .fuseTether data => Sys2Proof.Machine.execFuseTether data s
  | .repairBurnDone ok => Sys2Proof.Machine.execRepairBurnDone ok s
  | .patrolSlice => Sys2Proof.Machine.execPatrolSlice s
  | .patrolSliceDone complete ok repairs unrepaired => Sys2Proof.Machine.execPatrolSliceDone complete ok repairs unrepaired s
  | .swEvent mask => Sys2Proof.Machine.execSwEvent mask s
  | .gpioEdge pin => Sys2Proof.Machine.execGpioEdge pin s
  | .eventOccurrence which => Sys2Proof.Machine.execEventOccurrence which s
  | .pendClear w data => Sys2Proof.Machine.execPendClear w data s
  | .clrCnt => Sys2Proof.Machine.execClrCnt s
  | .cntClear which => Sys2Proof.Machine.execCntClear which s
  | .minGapExpiry v => Sys2Proof.Machine.execMinGapExpiry v s
  | .msixUnmask v => Sys2Proof.Machine.execMsixUnmask v s
  | .msixEnable enable funcMask => Sys2Proof.Machine.execMsixEnable enable funcMask s
  | .gpioPulseEnd pin => Sys2Proof.Machine.execGpioPulseEnd pin s
  | .registerRead addr len => Sys2Proof.Machine.execRegisterRead addr len s
  | .bar2Write by_ offset data => Sys2Proof.Machine.execBar2Write by_ offset data s
  | .returnToD0 => Sys2Proof.Machine.execReturnToD0 s
  | .pwrWarnRise => Sys2Proof.Machine.execPwrWarnRise s

end Sys2Proof.Machine
end

