-- ==== Sys2Proof/Machine/Idle.lean ====
section
/-! DEFINITION. What the block does when no command waits (log entry 1): time moves on by one lamp block, the Keeper's store
buffer drains one store (R66), and a panel push sends one tile (R396). -/

namespace Sys2Proof.Machine
open Sys2Proof

/-- A sample block passes; the tick counter counts while the VCO of the sample clock runs (R35). -/
def State.tickBlock (s : State) : State :=
  if s.f F.CLK_SC_STATUS_STATE = 0 then s else s.advanceSamples (s.time.samples + 64)

/-- The block without a command. -/
def State.idle (s : State) : State := s.tickBlock.drainOne.pushTile

end Sys2Proof.Machine
end

