-- ==== Sys2Proof/Machine/Encode.lean ====
section
/-! DEFINITION. The words of the core instructions (R93, R98, R105, R110, R115, R119): the encoder beside the decoder of
Words.lean.  Fields are listed from bit 0 up. -/

namespace Sys2Proof.Machine
open Sys2Proof

/-- The core an instruction is for, its word, and its second word if it has one. -/
structure CoreWord where
  core : Fin 17
  word : Word
  second : Option Word
deriving DecidableEq, Repr

/-- Fields, each with its width, packed from bit 0 up. -/
def pack : List (Nat × Nat) → Nat
  | [] => 0
  | (w, v) :: r => v % 2 ^ w + 2 ^ w * pack r

/-- A one-word instruction of class `cl` with S = `s`, opcode `op` and the fields of bits [22:0]. -/
def oneWord (c : Fin 17) (cl s op : Nat) (fs : List (Nat × Nat)) : Option CoreWord :=
  some ⟨c, BitVec.ofNat 32 (pack (fs ++ [(6, op), (1, s), (2, cl)])), none⟩

/-- A two-word instruction with IMM = `m`, opcode `op`, the fields of bits [23:0] and the second word. -/
def twoWords (c : Fin 17) (m op : Nat) (fs : List (Nat × Nat)) (x : Word) : Option CoreWord :=
  some ⟨c, BitVec.ofNat 32 (pack (fs ++ [(5, op), (1, m), (2, 3)])), some x⟩

/-- The words of a core instruction (R92); none for a command that is no instruction. -/
def encodeCore : Instr → Option CoreWord
  | .nop core => oneWord core 0 (0) 0x0 [(23, 0)]
  | .add core sat gd ga gb => oneWord core 0 (bit sat) 0x1 [(11, 0), (4, gb.val), (4, ga.val), (4, gd.val)]
  | .sub core sat gd ga gb => oneWord core 0 (bit sat) 0x2 [(11, 0), (4, gb.val), (4, ga.val), (4, gd.val)]
  | .mul core sat gd ga gb => oneWord core 0 (bit sat) 0x3 [(11, 0), (4, gb.val), (4, ga.val), (4, gd.val)]
  | .sll core sat gd ga gb => oneWord core 0 (bit sat) 0x8 [(11, 0), (4, gb.val), (4, ga.val), (4, gd.val)]
  | .mulh core gd ga gb => oneWord core 0 (0) 0x4 [(11, 0), (4, gb.val), (4, ga.val), (4, gd.val)]
  | .and core gd ga gb => oneWord core 0 (0) 0x5 [(11, 0), (4, gb.val), (4, ga.val), (4, gd.val)]
  | .or core gd ga gb => oneWord core 0 (0) 0x6 [(11, 0), (4, gb.val), (4, ga.val), (4, gd.val)]
  | .xor core gd ga gb => oneWord core 0 (0) 0x7 [(11, 0), (4, gb.val), (4, ga.val), (4, gd.val)]
  | .srl core gd ga gb => oneWord core 0 (0) 0x9 [(11, 0), (4, gb.val), (4, ga.val), (4, gd.val)]
  | .sra core gd ga gb => oneWord core 0 (0) 0xa [(11, 0), (4, gb.val), (4, ga.val), (4, gd.val)]
  | .slt core gd ga gb => oneWord core 0 (0) 0xb [(11, 0), (4, gb.val), (4, ga.val), (4, gd.val)]
  | .sltu core gd ga gb => oneWord core 0 (0) 0xc [(11, 0), (4, gb.val), (4, ga.val), (4, gd.val)]
  | .min core gd ga gb => oneWord core 0 (0) 0xd [(11, 0), (4, gb.val), (4, ga.val), (4, gd.val)]
  | .max core gd ga gb => oneWord core 0 (0) 0xe [(11, 0), (4, gb.val), (4, ga.val), (4, gd.val)]
  | .abs core sat gd ga => oneWord core 0 (bit sat) 0xf [(15, 0), (4, ga.val), (4, gd.val)]
  | .addi core sat gd ga imm => oneWord core 0 (bit sat) 0x10 [(15, imm.toNat), (4, ga.val), (4, gd.val)]
  | .andi core gd ga imm => oneWord core 0 (0) 0x11 [(15, imm.toNat), (4, ga.val), (4, gd.val)]
  | .ori core gd ga imm => oneWord core 0 (0) 0x12 [(15, imm.toNat), (4, ga.val), (4, gd.val)]
  | .xori core gd ga imm => oneWord core 0 (0) 0x13 [(15, imm.toNat), (4, ga.val), (4, gd.val)]
  | .slti core gd ga imm => oneWord core 0 (0) 0x17 [(15, imm.toNat), (4, ga.val), (4, gd.val)]
  | .slli core sat gd ga n => oneWord core 0 (bit sat) 0x14 [(5, n.toNat), (10, 0), (4, ga.val), (4, gd.val)]
  | .srli core gd ga n => oneWord core 0 (0) 0x15 [(5, n.toNat), (10, 0), (4, ga.val), (4, gd.val)]
  | .srai core gd ga n => oneWord core 0 (0) 0x16 [(5, n.toNat), (10, 0), (4, ga.val), (4, gd.val)]
  | .lui core gd imm => oneWord core 0 (0) 0x18 [(16, imm.toNat), (3, 0), (4, gd.val)]
  | .lli core gd imm => oneWord core 0 (0) 0x19 [(16, imm.toNat), (3, 0), (4, gd.val)]
  | .beq core ga gb off => oneWord core 0 (0) 0x20 [(15, off.toNat), (4, gb.val), (4, ga.val)]
  | .bne core ga gb off => oneWord core 0 (0) 0x21 [(15, off.toNat), (4, gb.val), (4, ga.val)]
  | .blt core ga gb off => oneWord core 0 (0) 0x22 [(15, off.toNat), (4, gb.val), (4, ga.val)]
  | .bge core ga gb off => oneWord core 0 (0) 0x23 [(15, off.toNat), (4, gb.val), (4, ga.val)]
  | .bltu core ga gb off => oneWord core 0 (0) 0x24 [(15, off.toNat), (4, gb.val), (4, ga.val)]
  | .bgeu core ga gb off => oneWord core 0 (0) 0x25 [(15, off.toNat), (4, gb.val), (4, ga.val)]
  | .jmp core off => oneWord core 0 (0) 0x26 [(23, off.toNat)]
  | .jal core off => oneWord core 0 (0) 0x27 [(23, off.toNat)]
  | .jr core ga => oneWord core 0 (0) 0x28 [(15, 0), (4, ga.val), (4, 0)]
  | .jalr core gd ga => oneWord core 0 (0) 0x29 [(15, 0), (4, ga.val), (4, gd.val)]
  | .loop core ga len => oneWord core 0 (0) 0x2a [(10, len.toNat), (9, 0), (4, ga.val)]
  | .loopi core count len => oneWord core 0 (0) 0x2b [(10, len.toNat), (13, count.toNat)]
  | .movs core dst src => oneWord core 0 (0) 0x2c [(11, 0), (6, src.toNat), (6, dst.toNat)]
  | .movsi core dst imm => oneWord core 0 (0) 0x2d [(17, imm.toNat), (6, dst.toNat)]
  | .fence core => oneWord core 0 (0) 0x30 [(23, 0)]
  | .brk core => oneWord core 0 (0) 0x31 [(23, 0)]
  | .rett core => oneWord core 0 (0) 0x32 [(23, 0)]
  | .amod core x imm => oneWord core 0 (0) 0x33 [(15, imm.toNat), (5, 0), (3, x.val)]
  | .waitq core q ga => oneWord core 0 (0) 0x34 [(15, 0), (4, ga.val), (2, 0), (2, q.val)]
  | .signal core imm => oneWord core 0 (0) 0x35 [(16, imm.toNat), (7, 0)]
  | .vmov core fmt vd va => oneWord core 1 (0) 0x0 [(5, 0), (3, fmt.toNat), (5, 0), (5, va.val), (5, vd.val)]
  | .vadd core sat fmt vd va vb => oneWord core 1 (bit sat) 0x1 [(5, 0), (3, fmt.toNat), (5, vb.val), (5, va.val), (5, vd.val)]
  | .vsub core sat fmt vd va vb => oneWord core 1 (bit sat) 0x2 [(5, 0), (3, fmt.toNat), (5, vb.val), (5, va.val), (5, vd.val)]
  | .vmulq core sat fmt vd va vb => oneWord core 1 (bit sat) 0x3 [(5, 0), (3, fmt.toNat), (5, vb.val), (5, va.val), (5, vd.val)]
  | .vfma core sat fmt vd va vb => oneWord core 1 (bit sat) 0x10 [(5, 0), (3, fmt.toNat), (5, vb.val), (5, va.val), (5, vd.val)]
  | .vmin core fmt vd va vb => oneWord core 1 (0) 0x4 [(5, 0), (3, fmt.toNat), (5, vb.val), (5, va.val), (5, vd.val)]
  | .vmax core fmt vd va vb => oneWord core 1 (0) 0x5 [(5, 0), (3, fmt.toNat), (5, vb.val), (5, va.val), (5, vd.val)]
  | .vand core fmt vd va vb => oneWord core 1 (0) 0x8 [(5, 0), (3, fmt.toNat), (5, vb.val), (5, va.val), (5, vd.val)]
  | .vor core fmt vd va vb => oneWord core 1 (0) 0x9 [(5, 0), (3, fmt.toNat), (5, vb.val), (5, va.val), (5, vd.val)]
  | .vxor core fmt vd va vb => oneWord core 1 (0) 0xa [(5, 0), (3, fmt.toNat), (5, vb.val), (5, va.val), (5, vd.val)]
  | .vperm core fmt vd va vb => oneWord core 1 (0) 0x12 [(5, 0), (3, fmt.toNat), (5, vb.val), (5, va.val), (5, vd.val)]
  | .vabs core sat fmt vd va => oneWord core 1 (bit sat) 0x6 [(5, 0), (3, fmt.toNat), (5, 0), (5, va.val), (5, vd.val)]
  | .vneg core sat fmt vd va => oneWord core 1 (bit sat) 0x7 [(5, 0), (3, fmt.toNat), (5, 0), (5, va.val), (5, vd.val)]
  | .vconj core sat fmt vd va => oneWord core 1 (bit sat) 0xe [(5, 0), (3, fmt.toNat), (5, 0), (5, va.val), (5, vd.val)]
  | .vmag2 core sat fmt vd va => oneWord core 1 (bit sat) 0xf [(5, 0), (3, fmt.toNat), (5, 0), (5, va.val), (5, vd.val)]
  | .vshl core sat fmt vd va n => oneWord core 1 (bit sat) 0xb [(5, 0), (3, fmt.toNat), (5, n.toNat), (5, va.val), (5, vd.val)]
  | .vsra core fmt vd va n => oneWord core 1 (0) 0xc [(5, 0), (3, fmt.toNat), (5, n.toNat), (5, va.val), (5, vd.val)]
  | .vsrl core fmt vd va n => oneWord core 1 (0) 0xd [(5, 0), (3, fmt.toNat), (5, n.toNat), (5, va.val), (5, vd.val)]
  | .vcvt core sat fmt vd va src half => oneWord core 1 (bit sat) 0x11 [(5, 0), (3, fmt.toNat), (3, src.toNat), (1, bit half), (1, 0), (5, va.val), (5, vd.val)]
  | .valn core fmt vd va vb n => oneWord core 1 (0) 0x13 [(4, n.toNat), (1, 0), (3, fmt.toNat), (5, vb.val), (5, va.val), (5, vd.val)]
  | .vget core fmt gd va j => oneWord core 1 (0) 0x14 [(5, 0), (3, fmt.toNat), (5, j.toNat), (5, va.val), (4, gd.val), (1, 0)]
  | .vput core fmt vd ga j => oneWord core 1 (0) 0x15 [(5, 0), (3, fmt.toNat), (5, j.toNat), (4, ga.val), (1, 0), (5, vd.val)]
  | .vhmax core fmt vd va => oneWord core 1 (0) 0x16 [(5, 0), (3, fmt.toNat), (5, 0), (5, va.val), (5, vd.val)]
  | .vmac core sat fmt an zero neg va vb => oneWord core 1 (bit sat) 0x18 [(1, 0), (1, bit neg), (1, bit zero), (2, an.val), (3, fmt.toNat), (5, vb.val), (5, va.val), (5, 0)]
  | .vpmac core sat fmt an zero neg va vb => oneWord core 1 (bit sat) 0x1a [(1, 0), (1, bit neg), (1, bit zero), (2, an.val), (3, fmt.toNat), (5, vb.val), (5, va.val), (5, 0)]
  | .vpmsc core sat fmt an zero neg va vb => oneWord core 1 (bit sat) 0x1b [(1, 0), (1, bit neg), (1, bit zero), (2, an.val), (3, fmt.toNat), (5, vb.val), (5, va.val), (5, 0)]
  | .vcmac core sat fmt an zero neg va vb => oneWord core 1 (bit sat) 0x1c [(1, 0), (1, bit neg), (1, bit zero), (2, an.val), (3, fmt.toNat), (5, vb.val), (5, va.val), (5, 0)]
  | .vcmacj core sat fmt an zero neg va vb => oneWord core 1 (bit sat) 0x1d [(1, 0), (1, bit neg), (1, bit zero), (2, an.val), (3, fmt.toNat), (5, vb.val), (5, va.val), (5, 0)]
  | .vmacp core sat fmt an zero neg va => oneWord core 1 (bit sat) 0x19 [(1, 0), (1, bit neg), (1, bit zero), (2, an.val), (3, fmt.toNat), (5, 0), (5, va.val), (5, 0)]
  | .vcmacp core sat fmt an zero neg va => oneWord core 1 (bit sat) 0x1e [(1, 0), (1, bit neg), (1, bit zero), (2, an.val), (3, fmt.toNat), (5, 0), (5, va.val), (5, 0)]
  | .vcmacpj core sat fmt an zero neg va => oneWord core 1 (bit sat) 0x1f [(1, 0), (1, bit neg), (1, bit zero), (2, an.val), (3, fmt.toNat), (5, 0), (5, va.val), (5, 0)]
  | .vrnd core sat fmt vd an n => oneWord core 1 (bit sat) 0x20 [(3, 0), (2, an.val), (3, fmt.toNat), (5, n.toNat), (5, 0), (5, vd.val)]
  | .vrndw core sat fmt vd an n half => oneWord core 1 (bit sat) 0x21 [(1, bit half), (2, 0), (2, an.val), (3, fmt.toNat), (5, n.toNat), (5, 0), (5, vd.val)]
  | .vamov core fmt an va n => oneWord core 1 (0) 0x22 [(3, 0), (2, an.val), (3, fmt.toNat), (5, n.toNat), (5, va.val), (5, 0)]
  | .vaclr core fmt an => oneWord core 1 (0) 0x23 [(3, 0), (2, an.val), (3, fmt.toNat), (5, 0), (5, 0), (5, 0)]
  | .ld core gd x mode off => oneWord core 2 (0) 0x0 [(12, off.toNat), (3, mode.toNat), (3, x.val), (4, gd.val), (1, 0)]
  | .st core ga x mode off _ => oneWord core 2 (0) 0x1 [(12, off.toNat), (3, mode.toNat), (3, x.val), (4, ga.val), (1, 0)]
  | .vld core vd x mode off => oneWord core 2 (0) 0x8 [(12, off.toNat), (3, mode.toNat), (3, x.val), (5, vd.val)]
  | .vst core va x mode off => oneWord core 2 (0) 0x9 [(12, off.toNat), (3, mode.toNat), (3, x.val), (5, va.val)]
  | .vldb core vd x mode off => oneWord core 2 (0) 0xa [(12, off.toNat), (3, mode.toNat), (3, x.val), (5, vd.val)]
  | .vld2 core vx px mx vy py my => oneWord core 2 (0) 0x10 [(5, 0), (1, bit my), (3, py.val), (5, vy.val), (1, bit mx), (3, px.val), (5, vx.val)]
  | .vldst core vx px mx vy py my => oneWord core 2 (0) 0x11 [(5, 0), (1, bit my), (3, py.val), (5, vy.val), (1, bit mx), (3, px.val), (5, vx.val)]
  | .vstld core vx px mx vy py my => oneWord core 2 (0) 0x12 [(5, 0), (1, bit my), (3, py.val), (5, vy.val), (1, bit mx), (3, px.val), (5, vx.val)]
  | .vst2 core vx px mx vy py my => oneWord core 2 (0) 0x13 [(5, 0), (1, bit my), (3, py.val), (5, vy.val), (1, bit mx), (3, px.val), (5, vx.val)]
  | .tlAt core ga gb => twoWords core (0) 0x0 [(16, 0), (4, gb.val), (4, ga.val)] (0)
  | .tlAtd core delta => twoWords core (0) 0x1 [(24, delta.toNat / 2 ^ 32)] (delta.setWidth 32)
  | .tlSet core unit sel opnd imm => twoWords core (bit imm) 0x2 [(20, sel.toNat), (4, unit.toNat)] (opnd)
  | .tlSetr core unit sel ga imm => twoWords core (bit imm) 0x3 [(20, sel.toNat), (4, unit.toNat)] (BitVec.ofNat 32 ga.val)
  | .tlLoad core unit sel desc imm => twoWords core (bit imm) 0x4 [(20, sel.toNat), (4, unit.toNat)] (desc)
  | .li core gd imm => twoWords core (0) 0x10 [(20, 0), (4, gd.val)] (imm)
  | _ => none

end Sys2Proof.Machine
end

