-- ==== Sys2Proof/Laws/Words.lean ====
section
/-! SUPPORT. Fields of packed words, and the family `Words`: decoding the words of a core instruction gives it back. -/

set_option Elab.async false

namespace Sys2Proof.Laws.Words
open Sys2Proof Machine

/-- Field of `n` bits from `lo` on of packed fields. -/
def part (fs : List (Nat × Nat)) (lo n : Nat) : BitVec n := BitVec.ofNat n (pack fs / 2 ^ lo % 2 ^ n)

@[simp] theorem part_head (w v : Nat) (r : List (Nat × Nat)) : part ((w, v) :: r) 0 w = BitVec.ofNat w v := by
  apply BitVec.eq_of_toNat_eq
  simp [part, pack]

@[simp] theorem part_tail (w v lo n : Nat) (r : List (Nat × Nat)) (h : w ≤ lo) : part ((w, v) :: r) lo n = part r (lo - w) n := by
  obtain ⟨k, rfl⟩ := Nat.exists_eq_add_of_le h
  have hp : 0 < 2 ^ w := Nat.two_pow_pos w
  unfold part
  congr 2
  rw [Nat.pow_add, ← Nat.div_div_eq_div_mul, Nat.add_sub_cancel_left]
  simp [pack, Nat.add_mul_div_left _ _ hp, Nat.div_eq_of_lt (Nat.mod_lt v hp)]

@[simp] theorem fieldAt_pack (fs : List (Nat × Nat)) (lo n : Nat) (h : lo + n ≤ 32) :
    fieldAt (BitVec.ofNat 32 (pack fs)) lo n = part fs lo n := by
  apply BitVec.eq_of_toNat_eq
  simp only [part, fieldAt, BitVec.extractLsb'_toNat, BitVec.toNat_ofNat, Nat.shiftRight_eq_div_pow, Nat.mod_mod]
  have e : (2 : Nat) ^ 32 = 2 ^ lo * 2 ^ (32 - lo) := by rw [← Nat.pow_add]; congr 1; omega
  rw [e, Nat.mod_mul_right_div_self, Nat.mod_mod_of_dvd]
  exact Nat.pow_dvd_pow 2 (by omega)

@[simp] theorem flagAt_pack (fs : List (Nat × Nat)) (i : Nat) (h : i + 1 ≤ 32) :
    flagAt (BitVec.ofNat 32 (pack fs)) i = decide (part fs i 1 = 1) := by rw [flagAt, fieldAt_pack _ _ _ h]

@[simp] theorem zeroAt_pack (fs : List (Nat × Nat)) (lo n : Nat) (h : lo + n ≤ 32) :
    zeroAt (BitVec.ofNat 32 (pack fs)) lo n = decide (part fs lo n = 0) := by rw [zeroAt, fieldAt_pack _ _ _ h]

@[simp] theorem regG_pack (fs : List (Nat × Nat)) (lo : Nat) (h : lo + 4 ≤ 32) :
    regG (BitVec.ofNat 32 (pack fs)) lo = (part fs lo 4).toFin := by rw [regG, fieldAt_pack _ _ _ h]

@[simp] theorem regV_pack (fs : List (Nat × Nat)) (lo : Nat) (h : lo + 5 ≤ 32) :
    regV (BitVec.ofNat 32 (pack fs)) lo = (part fs lo 5).toFin := by rw [regV, fieldAt_pack _ _ _ h]

@[simp] theorem regX_pack (fs : List (Nat × Nat)) (lo : Nat) (h : lo + 3 ≤ 32) :
    regX (BitVec.ofNat 32 (pack fs)) lo = (part fs lo 3).toFin := by rw [regX, fieldAt_pack _ _ _ h]

@[simp] theorem regA_pack (fs : List (Nat × Nat)) (lo : Nat) (h : lo + 2 ≤ 32) :
    regA (BitVec.ofNat 32 (pack fs)) lo = (part fs lo 2).toFin := by rw [regA, fieldAt_pack _ _ _ h]

@[simp] theorem toFin4 (g : Fin 16) : (BitVec.ofNat 4 g.val).toFin = g := by apply Fin.ext; simp
@[simp] theorem toFin5 (g : Fin 32) : (BitVec.ofNat 5 g.val).toFin = g := by apply Fin.ext; simp
@[simp] theorem toFin3 (g : Fin 8) : (BitVec.ofNat 3 g.val).toFin = g := by apply Fin.ext; simp
@[simp] theorem toFin2 (g : Fin 4) : (BitVec.ofNat 2 g.val).toFin = g := by apply Fin.ext; simp
@[simp] theorem bit_one (b : Bool) : decide (BitVec.ofNat 1 (bit b) = 1#1) = b := by cases b <;> rfl

/-- Total width of fields. -/
def width (fs : List (Nat × Nat)) : Nat := (fs.map Prod.fst).sum

theorem part_after (fs gs : List (Nat × Nat)) (lo n k : Nat) (h : lo = width fs + k) : part (fs ++ gs) lo n = part gs k n := by
  induction fs generalizing lo with
  | nil => simp [h, width]
  | cons f r ih =>
    obtain ⟨w, v⟩ := f
    have hw : width ((w, v) :: r) = w + width r := by simp [width]
    rw [List.cons_append, part_tail _ _ _ _ _ (by omega)]
    exact ih _ (by omega)

/-- What the decoder makes of a one-word instruction: the decoder of its class reads its opcode and S. -/
theorem decode_one (c : Fin 17) (cl op : Nat) (s : Bool) (fs : List (Nat × Nat)) (e : CoreWord) (x : Word) (env : WriteEnv)
    (h : oneWord c cl (bit s) op fs = some e) (hw : width fs = 23) (ho : op < 64) (hc : cl < 3) :
    decodeCore e.core e.word (e.second.getD x) env =
      (let w := BitVec.ofNat 32 (pack (fs ++ [(6, op), (1, bit s), (2, cl)]))
      match cl with
      | 0 => match decodeScalar c s w op with
        | some i => some i
        | none => if s then none else decodeControl c w op
      | 1 => match decodeVector c s w (fieldAt w 5 3) op with
        | some i => some i
        | none => decodeAcc c s w (fieldAt w 5 3) op
      | _ => if s then none else decodeMem c w env op) := by
  cases h
  have e1 : (fieldAt (BitVec.ofNat 32 (pack (fs ++ [(6, op), (1, bit s), (2, cl)]))) 30 2).toNat = cl := by
    rw [fieldAt_pack _ _ _ (by decide), part_after _ _ _ _ 7 (by omega), part_tail _ _ _ _ _ (by decide),
      part_tail _ _ _ _ _ (by decide), part_head, BitVec.toNat_ofNat]
    omega
  have e2 : (fieldAt (BitVec.ofNat 32 (pack (fs ++ [(6, op), (1, bit s), (2, cl)]))) 23 6).toNat = op := by
    rw [fieldAt_pack _ _ _ (by decide), part_after _ _ _ _ 0 (by omega), part_head, BitVec.toNat_ofNat]
    omega
  have e3 : flagAt (BitVec.ofNat 32 (pack (fs ++ [(6, op), (1, bit s), (2, cl)]))) 29 = s := by
    rw [flagAt_pack _ _ (by decide), part_after _ _ _ _ 6 (by omega), part_tail _ _ _ _ _ (by decide), part_head]
    exact bit_one s
  unfold decodeCore
  rw [e1, e2, e3]
  match cl, hc with
  | 0, _ => rfl
  | 1, _ => rfl
  | 2, _ => rfl

theorem decode_class0 (c : Fin 17) (op : Nat) (s : Bool) (fs : List (Nat × Nat)) (e : CoreWord) (x : Word) (env : WriteEnv)
    (h : oneWord c 0 (bit s) op fs = some e) (hw : width fs = 23) (ho : op < 64) :
    decodeCore e.core e.word (e.second.getD x) env = (match decodeScalar c s (BitVec.ofNat 32 (pack (fs ++ [(6, op), (1, bit s), (2, 0)]))) op with
      | some i => some i
      | none => if s then none else decodeControl c (BitVec.ofNat 32 (pack (fs ++ [(6, op), (1, bit s), (2, 0)]))) op) :=
  decode_one c 0 op s fs e x env h hw ho (by decide)

theorem decode_class1 (c : Fin 17) (op : Nat) (s : Bool) (fs : List (Nat × Nat)) (e : CoreWord) (x : Word) (env : WriteEnv)
    (h : oneWord c 1 (bit s) op fs = some e) (hw : width fs = 23) (ho : op < 64) :
    decodeCore e.core e.word (e.second.getD x) env = (match decodeVector c s (BitVec.ofNat 32 (pack (fs ++ [(6, op), (1, bit s), (2, 1)])))
          (fieldAt (BitVec.ofNat 32 (pack (fs ++ [(6, op), (1, bit s), (2, 1)]))) 5 3) op with
      | some i => some i
      | none => decodeAcc c s (BitVec.ofNat 32 (pack (fs ++ [(6, op), (1, bit s), (2, 1)])))
          (fieldAt (BitVec.ofNat 32 (pack (fs ++ [(6, op), (1, bit s), (2, 1)]))) 5 3) op) :=
  decode_one c 1 op s fs e x env h hw ho (by decide)

theorem decode_class2 (c : Fin 17) (op : Nat) (s : Bool) (fs : List (Nat × Nat)) (e : CoreWord) (x : Word) (env : WriteEnv)
    (h : oneWord c 2 (bit s) op fs = some e) (hw : width fs = 23) (ho : op < 64) :
    decodeCore e.core e.word (e.second.getD x) env = (if s then none else decodeMem c (BitVec.ofNat 32 (pack (fs ++ [(6, op), (1, bit s), (2, 2)]))) env op) :=
  decode_one c 2 op s fs e x env h hw ho (by decide)

/-- What the decoder makes of a two-word instruction. -/
theorem decode_two (c : Fin 17) (op : Nat) (m : Bool) (fs : List (Nat × Nat)) (y : Word) (e : CoreWord) (x : Word)
    (env : WriteEnv) (h : twoWords c (bit m) op fs y = some e) (hw : width fs = 24) (ho : op < 32) :
    decodeCore e.core e.word (e.second.getD x) env =
      decodeExt c m (BitVec.ofNat 32 (pack (fs ++ [(5, op), (1, bit m), (2, 3)]))) y op := by
  cases h
  have e1 : (fieldAt (BitVec.ofNat 32 (pack (fs ++ [(5, op), (1, bit m), (2, 3)]))) 30 2).toNat = 3 := by
    rw [fieldAt_pack _ _ _ (by decide), part_after _ _ _ _ 6 (by omega), part_tail _ _ _ _ _ (by decide),
      part_tail _ _ _ _ _ (by decide), part_head]
    rfl
  have e2 : (fieldAt (BitVec.ofNat 32 (pack (fs ++ [(5, op), (1, bit m), (2, 3)]))) 24 5).toNat = op := by
    rw [fieldAt_pack _ _ _ (by decide), part_after _ _ _ _ 0 (by omega), part_head, BitVec.toNat_ofNat]
    omega
  have e3 : flagAt (BitVec.ofNat 32 (pack (fs ++ [(5, op), (1, bit m), (2, 3)]))) 29 = m := by
    rw [flagAt_pack _ _ (by decide), part_after _ _ _ _ 5 (by omega), part_tail _ _ _ _ _ (by decide), part_head]
    exact bit_one m
  unfold decodeCore
  rw [e1, e2, e3]
  rfl

/-- The two words of a 56-bit distance put together. -/
theorem join_halves (d : BitVec 56) : BitVec.ofNat 24 (d.toNat / 2 ^ 32) ++ BitVec.setWidth 32 d = d := by
  apply BitVec.eq_of_getLsbD_eq
  intro i hi
  rw [BitVec.getLsbD_append]
  split
  · simp [*]
  · simp only [BitVec.getLsbD_ofNat, Nat.testBit_div_two_pow]
    rw [Nat.sub_add_cancel (by omega), decide_eq_true (by omega), Bool.true_and]
    rfl

theorem zeroAt_reg (g : Fin 16) : zeroAt (BitVec.ofNat 32 g.val) 4 28 = true := by revert g; decide
theorem regG_reg (g : Fin 16) : regG (BitVec.ofNat 32 g.val) 0 = g := by revert g; decide

end Sys2Proof.Laws.Words
end

