-- ==== Sys2Proof/Laws/PerInstr.lean ====
section
/-! SUPPORT. The family `Words`, constructor by constructor: decoding the words of a core instruction gives it back. -/

set_option Elab.async false

namespace Sys2Proof.Laws.Words
open Sys2Proof Machine

set_option linter.unusedSimpArgs false

/-- Decoding the words of instruction `i` gives `i` back; the word after a one-word instruction does not matter, and a store
is given the surroundings it meets. -/
def Statement (i : Instr) : Prop := ∀ (e : CoreWord) (x : Word) (env : WriteEnv), encodeCore i = some e →
  (∀ c g p m o v, i = .st c g p m o v → v = env) → decodeCore e.core e.word (e.second.getD x) env = some i

/-- A command without words has nothing to decode. -/
theorem statement_none (i : Instr) (h : encodeCore i = none) : Statement i := by
  intro e x env he _
  rw [h] at he
  cases he

theorem registerWrite (addr data env) : Statement (.registerWrite addr data env) := statement_none _ rfl
theorem mirrorWrite (addr data) : Statement (.mirrorWrite addr data) := statement_none _ rfl
theorem domainClockGood (d) : Statement (.domainClockGood d) := statement_none _ rfl
theorem clkNotReady (block) : Statement (.clkNotReady block) := statement_none _ rfl
theorem tickWrap : Statement (.tickWrap) := statement_none _ rfl
theorem anchorCommit : Statement (.anchorCommit) := statement_none _ rfl
theorem anchorRecordsEmitted : Statement (.anchorRecordsEmitted) := statement_none _ rfl
theorem rangeSyncEdge (edge frac) : Statement (.rangeSyncEdge edge frac) := statement_none _ rfl
theorem syncDeferred : Statement (.syncDeferred) := statement_none _ rfl
theorem syncOutPulseEnd : Statement (.syncOutPulseEnd) := statement_none _ rfl
theorem rangeArm : Statement (.rangeArm) := statement_none _ rfl
theorem rangeDisarm : Statement (.rangeDisarm) := statement_none _ rfl
theorem rangeLoadWrite (value) : Statement (.rangeLoadWrite value) := statement_none _ rfl
theorem queueEntryWrite (bufferFull) : Statement (.queueEntryWrite bufferFull) := statement_none _ rfl
theorem qrdWrite (core q value) : Statement (.qrdWrite core q value) := statement_none _ rfl
theorem post (core addr) : Statement (.post core addr) := statement_none _ rfl
theorem postCopied (core) : Statement (.postCopied core) := statement_none _ rfl
theorem beaconFault (core code addr) : Statement (.beaconFault core code addr) := statement_none _ rfl
theorem beaconHang (core) : Statement (.beaconHang core) := statement_none _ rfl
theorem beaconRestart (core) : Statement (.beaconRestart core) := statement_none _ rfl
theorem bcnRun (mask) : Statement (.bcnRun mask) := statement_none _ rfl
theorem bcnHalt (mask) : Statement (.bcnHalt mask) := statement_none _ rfl
theorem bcnWdogWrite (core data) : Statement (.bcnWdogWrite core data) := statement_none _ rfl
theorem queueCfgWrite (core q slots data) : Statement (.queueCfgWrite core q slots data) := statement_none _ rfl
theorem keeperTrap (code addr) : Statement (.keeperTrap code addr) := statement_none _ rfl
theorem kprWdtExpire : Statement (.kprWdtExpire) := statement_none _ rfl
theorem wdtCtrlWrite (data) : Statement (.wdtCtrlWrite data) := statement_none _ rfl
theorem wdtKick (data) : Statement (.wdtKick data) := statement_none _ rfl
theorem kprHalt : Statement (.kprHalt) := statement_none _ rfl
theorem kprResume : Statement (.kprResume) := statement_none _ rfl
theorem kprRestart : Statement (.kprRestart) := statement_none _ rfl
theorem keeperRestartDone : Statement (.keeperRestartDone) := statement_none _ rfl
theorem mboxDbRing : Statement (.mboxDbRing) := statement_none _ rfl
theorem mboxOut7Write (data) : Statement (.mboxOut7Write data) := statement_none _ rfl
theorem loadGo (data) : Statement (.loadGo data) := statement_none _ rfl
theorem imageLoadDone (source) : Statement (.imageLoadDone source) := statement_none _ rfl
theorem illegalInstruction (core word second) : Statement (.illegalInstruction core word second) := statement_none _ rfl
theorem nop (core) : Statement (.nop core) := by
  intro e x v h hv
  rw [decode_class0 core 0x0 false _ _ _ _ h rfl (by decide)]
  rfl

theorem add (core sat gd ga gb) : Statement (.add core sat gd ga gb) := by
  intro e x v h hv
  rw [decode_class0 core 0x1 sat _ _ _ _ h rfl (by decide)]
  rw [decodeScalar.eq_2, given]
  simp (disch := decide) only [fieldAt_pack, flagAt_pack, zeroAt_pack, regG_pack, regV_pack, regX_pack, regA_pack, part_head, part_tail, toFin2, toFin3, toFin4, toFin5, bit_one, List.cons_append, List.nil_append, decide_true, if_true, BitVec.ofNat_toNat, BitVec.setWidth_eq, Nat.reduceSub, BitVec.ofNat_eq_ofNat, Bool.and_self, Bool.not_false, Bool.not_true, BitVec.reduceEq, decide_false, Option.getD_some, if_false, Bool.false_eq_true]

theorem sub (core sat gd ga gb) : Statement (.sub core sat gd ga gb) := by
  intro e x v h hv
  rw [decode_class0 core 0x2 sat _ _ _ _ h rfl (by decide)]
  rw [decodeScalar.eq_3, given]
  simp (disch := decide) only [fieldAt_pack, flagAt_pack, zeroAt_pack, regG_pack, regV_pack, regX_pack, regA_pack, part_head, part_tail, toFin2, toFin3, toFin4, toFin5, bit_one, List.cons_append, List.nil_append, decide_true, if_true, BitVec.ofNat_toNat, BitVec.setWidth_eq, Nat.reduceSub, BitVec.ofNat_eq_ofNat, Bool.and_self, Bool.not_false, Bool.not_true, BitVec.reduceEq, decide_false, Option.getD_some, if_false, Bool.false_eq_true]

theorem mul (core sat gd ga gb) : Statement (.mul core sat gd ga gb) := by
  intro e x v h hv
  rw [decode_class0 core 0x3 sat _ _ _ _ h rfl (by decide)]
  rw [decodeScalar.eq_4, given]
  simp (disch := decide) only [fieldAt_pack, flagAt_pack, zeroAt_pack, regG_pack, regV_pack, regX_pack, regA_pack, part_head, part_tail, toFin2, toFin3, toFin4, toFin5, bit_one, List.cons_append, List.nil_append, decide_true, if_true, BitVec.ofNat_toNat, BitVec.setWidth_eq, Nat.reduceSub, BitVec.ofNat_eq_ofNat, Bool.and_self, Bool.not_false, Bool.not_true, BitVec.reduceEq, decide_false, Option.getD_some, if_false, Bool.false_eq_true]

theorem mulh (core gd ga gb) : Statement (.mulh core gd ga gb) := by
  intro e x v h hv
  rw [decode_class0 core 0x4 false _ _ _ _ h rfl (by decide)]
  rw [decodeScalar.eq_5, given]
  simp (disch := decide) only [fieldAt_pack, flagAt_pack, zeroAt_pack, regG_pack, regV_pack, regX_pack, regA_pack, part_head, part_tail, toFin2, toFin3, toFin4, toFin5, bit_one, List.cons_append, List.nil_append, decide_true, if_true, BitVec.ofNat_toNat, BitVec.setWidth_eq, Nat.reduceSub, BitVec.ofNat_eq_ofNat, Bool.and_self, Bool.not_false, Bool.not_true, BitVec.reduceEq, decide_false, Option.getD_some, if_false, Bool.false_eq_true]

theorem and (core gd ga gb) : Statement (.and core gd ga gb) := by
  intro e x v h hv
  rw [decode_class0 core 0x5 false _ _ _ _ h rfl (by decide)]
  rw [decodeScalar.eq_6, given]
  simp (disch := decide) only [fieldAt_pack, flagAt_pack, zeroAt_pack, regG_pack, regV_pack, regX_pack, regA_pack, part_head, part_tail, toFin2, toFin3, toFin4, toFin5, bit_one, List.cons_append, List.nil_append, decide_true, if_true, BitVec.ofNat_toNat, BitVec.setWidth_eq, Nat.reduceSub, BitVec.ofNat_eq_ofNat, Bool.and_self, Bool.not_false, Bool.not_true, BitVec.reduceEq, decide_false, Option.getD_some, if_false, Bool.false_eq_true]

theorem or (core gd ga gb) : Statement (.or core gd ga gb) := by
  intro e x v h hv
  rw [decode_class0 core 0x6 false _ _ _ _ h rfl (by decide)]
  rw [decodeScalar.eq_7, given]
  simp (disch := decide) only [fieldAt_pack, flagAt_pack, zeroAt_pack, regG_pack, regV_pack, regX_pack, regA_pack, part_head, part_tail, toFin2, toFin3, toFin4, toFin5, bit_one, List.cons_append, List.nil_append, decide_true, if_true, BitVec.ofNat_toNat, BitVec.setWidth_eq, Nat.reduceSub, BitVec.ofNat_eq_ofNat, Bool.and_self, Bool.not_false, Bool.not_true, BitVec.reduceEq, decide_false, Option.getD_some, if_false, Bool.false_eq_true]

theorem xor (core gd ga gb) : Statement (.xor core gd ga gb) := by
  intro e x v h hv
  rw [decode_class0 core 0x7 false _ _ _ _ h rfl (by decide)]
  rw [decodeScalar.eq_8, given]
  simp (disch := decide) only [fieldAt_pack, flagAt_pack, zeroAt_pack, regG_pack, regV_pack, regX_pack, regA_pack, part_head, part_tail, toFin2, toFin3, toFin4, toFin5, bit_one, List.cons_append, List.nil_append, decide_true, if_true, BitVec.ofNat_toNat, BitVec.setWidth_eq, Nat.reduceSub, BitVec.ofNat_eq_ofNat, Bool.and_self, Bool.not_false, Bool.not_true, BitVec.reduceEq, decide_false, Option.getD_some, if_false, Bool.false_eq_true]

theorem sll (core sat gd ga gb) : Statement (.sll core sat gd ga gb) := by
  intro e x v h hv
  rw [decode_class0 core 0x8 sat _ _ _ _ h rfl (by decide)]
  rw [decodeScalar.eq_9, given]
  simp (disch := decide) only [fieldAt_pack, flagAt_pack, zeroAt_pack, regG_pack, regV_pack, regX_pack, regA_pack, part_head, part_tail, toFin2, toFin3, toFin4, toFin5, bit_one, List.cons_append, List.nil_append, decide_true, if_true, BitVec.ofNat_toNat, BitVec.setWidth_eq, Nat.reduceSub, BitVec.ofNat_eq_ofNat, Bool.and_self, Bool.not_false, Bool.not_true, BitVec.reduceEq, decide_false, Option.getD_some, if_false, Bool.false_eq_true]

theorem srl (core gd ga gb) : Statement (.srl core gd ga gb) := by
  intro e x v h hv
  rw [decode_class0 core 0x9 false _ _ _ _ h rfl (by decide)]
  rw [decodeScalar.eq_10, given]
  simp (disch := decide) only [fieldAt_pack, flagAt_pack, zeroAt_pack, regG_pack, regV_pack, regX_pack, regA_pack, part_head, part_tail, toFin2, toFin3, toFin4, toFin5, bit_one, List.cons_append, List.nil_append, decide_true, if_true, BitVec.ofNat_toNat, BitVec.setWidth_eq, Nat.reduceSub, BitVec.ofNat_eq_ofNat, Bool.and_self, Bool.not_false, Bool.not_true, BitVec.reduceEq, decide_false, Option.getD_some, if_false, Bool.false_eq_true]

theorem sra (core gd ga gb) : Statement (.sra core gd ga gb) := by
  intro e x v h hv
  rw [decode_class0 core 0xa false _ _ _ _ h rfl (by decide)]
  rw [decodeScalar.eq_11, given]
  simp (disch := decide) only [fieldAt_pack, flagAt_pack, zeroAt_pack, regG_pack, regV_pack, regX_pack, regA_pack, part_head, part_tail, toFin2, toFin3, toFin4, toFin5, bit_one, List.cons_append, List.nil_append, decide_true, if_true, BitVec.ofNat_toNat, BitVec.setWidth_eq, Nat.reduceSub, BitVec.ofNat_eq_ofNat, Bool.and_self, Bool.not_false, Bool.not_true, BitVec.reduceEq, decide_false, Option.getD_some, if_false, Bool.false_eq_true]

theorem slt (core gd ga gb) : Statement (.slt core gd ga gb) := by
  intro e x v h hv
  rw [decode_class0 core 0xb false _ _ _ _ h rfl (by decide)]
  rw [decodeScalar.eq_12, given]
  simp (disch := decide) only [fieldAt_pack, flagAt_pack, zeroAt_pack, regG_pack, regV_pack, regX_pack, regA_pack, part_head, part_tail, toFin2, toFin3, toFin4, toFin5, bit_one, List.cons_append, List.nil_append, decide_true, if_true, BitVec.ofNat_toNat, BitVec.setWidth_eq, Nat.reduceSub, BitVec.ofNat_eq_ofNat, Bool.and_self, Bool.not_false, Bool.not_true, BitVec.reduceEq, decide_false, Option.getD_some, if_false, Bool.false_eq_true]

theorem sltu (core gd ga gb) : Statement (.sltu core gd ga gb) := by
  intro e x v h hv
  rw [decode_class0 core 0xc false _ _ _ _ h rfl (by decide)]
  rw [decodeScalar.eq_13, given]
  simp (disch := decide) only [fieldAt_pack, flagAt_pack, zeroAt_pack, regG_pack, regV_pack, regX_pack, regA_pack, part_head, part_tail, toFin2, toFin3, toFin4, toFin5, bit_one, List.cons_append, List.nil_append, decide_true, if_true, BitVec.ofNat_toNat, BitVec.setWidth_eq, Nat.reduceSub, BitVec.ofNat_eq_ofNat, Bool.and_self, Bool.not_false, Bool.not_true, BitVec.reduceEq, decide_false, Option.getD_some, if_false, Bool.false_eq_true]

theorem min (core gd ga gb) : Statement (.min core gd ga gb) := by
  intro e x v h hv
  rw [decode_class0 core 0xd false _ _ _ _ h rfl (by decide)]
  rw [decodeScalar.eq_14, given]
  simp (disch := decide) only [fieldAt_pack, flagAt_pack, zeroAt_pack, regG_pack, regV_pack, regX_pack, regA_pack, part_head, part_tail, toFin2, toFin3, toFin4, toFin5, bit_one, List.cons_append, List.nil_append, decide_true, if_true, BitVec.ofNat_toNat, BitVec.setWidth_eq, Nat.reduceSub, BitVec.ofNat_eq_ofNat, Bool.and_self, Bool.not_false, Bool.not_true, BitVec.reduceEq, decide_false, Option.getD_some, if_false, Bool.false_eq_true]

theorem max (core gd ga gb) : Statement (.max core gd ga gb) := by
  intro e x v h hv
  rw [decode_class0 core 0xe false _ _ _ _ h rfl (by decide)]
  rw [decodeScalar.eq_15, given]
  simp (disch := decide) only [fieldAt_pack, flagAt_pack, zeroAt_pack, regG_pack, regV_pack, regX_pack, regA_pack, part_head, part_tail, toFin2, toFin3, toFin4, toFin5, bit_one, List.cons_append, List.nil_append, decide_true, if_true, BitVec.ofNat_toNat, BitVec.setWidth_eq, Nat.reduceSub, BitVec.ofNat_eq_ofNat, Bool.and_self, Bool.not_false, Bool.not_true, BitVec.reduceEq, decide_false, Option.getD_some, if_false, Bool.false_eq_true]

theorem abs (core sat gd ga) : Statement (.abs core sat gd ga) := by
  intro e x v h hv
  rw [decode_class0 core 0xf sat _ _ _ _ h rfl (by decide)]
  rw [decodeScalar.eq_16, given]
  simp (disch := decide) only [fieldAt_pack, flagAt_pack, zeroAt_pack, regG_pack, regV_pack, regX_pack, regA_pack, part_head, part_tail, toFin2, toFin3, toFin4, toFin5, bit_one, List.cons_append, List.nil_append, decide_true, if_true, BitVec.ofNat_toNat, BitVec.setWidth_eq, Nat.reduceSub, BitVec.ofNat_eq_ofNat, Bool.and_self, Bool.not_false, Bool.not_true, BitVec.reduceEq, decide_false, Option.getD_some, if_false, Bool.false_eq_true]

theorem addi (core sat gd ga imm) : Statement (.addi core sat gd ga imm) := by
  intro e x v h hv
  rw [decode_class0 core 0x10 sat _ _ _ _ h rfl (by decide)]
  simp (disch := decide) only [fieldAt_pack, flagAt_pack, zeroAt_pack, regG_pack, regV_pack, regX_pack, regA_pack, part_head, part_tail, toFin2, toFin3, toFin4, toFin5, bit_one, List.cons_append, List.nil_append, decide_true, if_true, BitVec.ofNat_toNat, BitVec.setWidth_eq, Nat.reduceSub, BitVec.ofNat_eq_ofNat, Bool.and_self, Bool.not_false, Bool.not_true, BitVec.reduceEq, decide_false, Option.getD_some, if_false, Bool.false_eq_true, decodeScalar, given]

theorem andi (core gd ga imm) : Statement (.andi core gd ga imm) := by
  intro e x v h hv
  rw [decode_class0 core 0x11 false _ _ _ _ h rfl (by decide)]
  rw [decodeScalar.eq_18, given]
  simp (disch := decide) only [fieldAt_pack, flagAt_pack, zeroAt_pack, regG_pack, regV_pack, regX_pack, regA_pack, part_head, part_tail, toFin2, toFin3, toFin4, toFin5, bit_one, List.cons_append, List.nil_append, decide_true, if_true, BitVec.ofNat_toNat, BitVec.setWidth_eq, Nat.reduceSub, BitVec.ofNat_eq_ofNat, Bool.and_self, Bool.not_false, Bool.not_true, BitVec.reduceEq, decide_false, Option.getD_some, if_false, Bool.false_eq_true]

theorem ori (core gd ga imm) : Statement (.ori core gd ga imm) := by
  intro e x v h hv
  rw [decode_class0 core 0x12 false _ _ _ _ h rfl (by decide)]
  rw [decodeScalar.eq_19, given]
  simp (disch := decide) only [fieldAt_pack, flagAt_pack, zeroAt_pack, regG_pack, regV_pack, regX_pack, regA_pack, part_head, part_tail, toFin2, toFin3, toFin4, toFin5, bit_one, List.cons_append, List.nil_append, decide_true, if_true, BitVec.ofNat_toNat, BitVec.setWidth_eq, Nat.reduceSub, BitVec.ofNat_eq_ofNat, Bool.and_self, Bool.not_false, Bool.not_true, BitVec.reduceEq, decide_false, Option.getD_some, if_false, Bool.false_eq_true]

theorem xori (core gd ga imm) : Statement (.xori core gd ga imm) := by
  intro e x v h hv
  rw [decode_class0 core 0x13 false _ _ _ _ h rfl (by decide)]
  rw [decodeScalar.eq_20, given]
  simp (disch := decide) only [fieldAt_pack, flagAt_pack, zeroAt_pack, regG_pack, regV_pack, regX_pack, regA_pack, part_head, part_tail, toFin2, toFin3, toFin4, toFin5, bit_one, List.cons_append, List.nil_append, decide_true, if_true, BitVec.ofNat_toNat, BitVec.setWidth_eq, Nat.reduceSub, BitVec.ofNat_eq_ofNat, Bool.and_self, Bool.not_false, Bool.not_true, BitVec.reduceEq, decide_false, Option.getD_some, if_false, Bool.false_eq_true]

theorem slli (core sat gd ga n) : Statement (.slli core sat gd ga n) := by
  intro e x v h hv
  rw [decode_class0 core 0x14 sat _ _ _ _ h rfl (by decide)]
  rw [decodeScalar.eq_21, given]
  simp (disch := decide) only [fieldAt_pack, flagAt_pack, zeroAt_pack, regG_pack, regV_pack, regX_pack, regA_pack, part_head, part_tail, toFin2, toFin3, toFin4, toFin5, bit_one, List.cons_append, List.nil_append, decide_true, if_true, BitVec.ofNat_toNat, BitVec.setWidth_eq, Nat.reduceSub, BitVec.ofNat_eq_ofNat, Bool.and_self, Bool.not_false, Bool.not_true, BitVec.reduceEq, decide_false, Option.getD_some, if_false, Bool.false_eq_true]

theorem srli (core gd ga n) : Statement (.srli core gd ga n) := by
  intro e x v h hv
  rw [decode_class0 core 0x15 false _ _ _ _ h rfl (by decide)]
  rw [decodeScalar.eq_22, given]
  simp (disch := decide) only [fieldAt_pack, flagAt_pack, zeroAt_pack, regG_pack, regV_pack, regX_pack, regA_pack, part_head, part_tail, toFin2, toFin3, toFin4, toFin5, bit_one, List.cons_append, List.nil_append, decide_true, if_true, BitVec.ofNat_toNat, BitVec.setWidth_eq, Nat.reduceSub, BitVec.ofNat_eq_ofNat, Bool.and_self, Bool.not_false, Bool.not_true, BitVec.reduceEq, decide_false, Option.getD_some, if_false, Bool.false_eq_true]

theorem srai (core gd ga n) : Statement (.srai core gd ga n) := by
  intro e x v h hv
  rw [decode_class0 core 0x16 false _ _ _ _ h rfl (by decide)]
  rw [decodeScalar.eq_23, given]
  simp (disch := decide) only [fieldAt_pack, flagAt_pack, zeroAt_pack, regG_pack, regV_pack, regX_pack, regA_pack, part_head, part_tail, toFin2, toFin3, toFin4, toFin5, bit_one, List.cons_append, List.nil_append, decide_true, if_true, BitVec.ofNat_toNat, BitVec.setWidth_eq, Nat.reduceSub, BitVec.ofNat_eq_ofNat, Bool.and_self, Bool.not_false, Bool.not_true, BitVec.reduceEq, decide_false, Option.getD_some, if_false, Bool.false_eq_true]

theorem slti (core gd ga imm) : Statement (.slti core gd ga imm) := by
  intro e x v h hv
  rw [decode_class0 core 0x17 false _ _ _ _ h rfl (by decide)]
  rw [decodeScalar.eq_24, given]
  simp (disch := decide) only [fieldAt_pack, flagAt_pack, zeroAt_pack, regG_pack, regV_pack, regX_pack, regA_pack, part_head, part_tail, toFin2, toFin3, toFin4, toFin5, bit_one, List.cons_append, List.nil_append, decide_true, if_true, BitVec.ofNat_toNat, BitVec.setWidth_eq, Nat.reduceSub, BitVec.ofNat_eq_ofNat, Bool.and_self, Bool.not_false, Bool.not_true, BitVec.reduceEq, decide_false, Option.getD_some, if_false, Bool.false_eq_true]

theorem lui (core gd imm) : Statement (.lui core gd imm) := by
  intro e x v h hv
  rw [decode_class0 core 0x18 false _ _ _ _ h rfl (by decide)]
  rw [decodeScalar.eq_25, given]
  simp (disch := decide) only [fieldAt_pack, flagAt_pack, zeroAt_pack, regG_pack, regV_pack, regX_pack, regA_pack, part_head, part_tail, toFin2, toFin3, toFin4, toFin5, bit_one, List.cons_append, List.nil_append, decide_true, if_true, BitVec.ofNat_toNat, BitVec.setWidth_eq, Nat.reduceSub, BitVec.ofNat_eq_ofNat, Bool.and_self, Bool.not_false, Bool.not_true, BitVec.reduceEq, decide_false, Option.getD_some, if_false, Bool.false_eq_true]

theorem lli (core gd imm) : Statement (.lli core gd imm) := by
  intro e x v h hv
  rw [decode_class0 core 0x19 false _ _ _ _ h rfl (by decide)]
  rw [decodeScalar.eq_26, given]
  simp (disch := decide) only [fieldAt_pack, flagAt_pack, zeroAt_pack, regG_pack, regV_pack, regX_pack, regA_pack, part_head, part_tail, toFin2, toFin3, toFin4, toFin5, bit_one, List.cons_append, List.nil_append, decide_true, if_true, BitVec.ofNat_toNat, BitVec.setWidth_eq, Nat.reduceSub, BitVec.ofNat_eq_ofNat, Bool.and_self, Bool.not_false, Bool.not_true, BitVec.reduceEq, decide_false, Option.getD_some, if_false, Bool.false_eq_true]

theorem beq (core ga gb off) : Statement (.beq core ga gb off) := by
  intro e x v h hv
  rw [decode_class0 core 0x20 false _ _ _ _ h rfl (by decide)]
  simp (disch := decide) only [fieldAt_pack, flagAt_pack, zeroAt_pack, regG_pack, regV_pack, regX_pack, regA_pack, part_head, part_tail, toFin2, toFin3, toFin4, toFin5, bit_one, List.cons_append, List.nil_append, decide_true, if_true, BitVec.ofNat_toNat, BitVec.setWidth_eq, Nat.reduceSub, BitVec.ofNat_eq_ofNat, Bool.and_self, Bool.not_false, Bool.not_true, BitVec.reduceEq, decide_false, Option.getD_some, if_false, Bool.false_eq_true, decodeScalar, decodeControl, given]

theorem bne (core ga gb off) : Statement (.bne core ga gb off) := by
  intro e x v h hv
  rw [decode_class0 core 0x21 false _ _ _ _ h rfl (by decide)]
  simp (disch := decide) only [fieldAt_pack, flagAt_pack, zeroAt_pack, regG_pack, regV_pack, regX_pack, regA_pack, part_head, part_tail, toFin2, toFin3, toFin4, toFin5, bit_one, List.cons_append, List.nil_append, decide_true, if_true, BitVec.ofNat_toNat, BitVec.setWidth_eq, Nat.reduceSub, BitVec.ofNat_eq_ofNat, Bool.and_self, Bool.not_false, Bool.not_true, BitVec.reduceEq, decide_false, Option.getD_some, if_false, Bool.false_eq_true, decodeScalar, decodeControl, given]

theorem blt (core ga gb off) : Statement (.blt core ga gb off) := by
  intro e x v h hv
  rw [decode_class0 core 0x22 false _ _ _ _ h rfl (by decide)]
  simp (disch := decide) only [fieldAt_pack, flagAt_pack, zeroAt_pack, regG_pack, regV_pack, regX_pack, regA_pack, part_head, part_tail, toFin2, toFin3, toFin4, toFin5, bit_one, List.cons_append, List.nil_append, decide_true, if_true, BitVec.ofNat_toNat, BitVec.setWidth_eq, Nat.reduceSub, BitVec.ofNat_eq_ofNat, Bool.and_self, Bool.not_false, Bool.not_true, BitVec.reduceEq, decide_false, Option.getD_some, if_false, Bool.false_eq_true, decodeScalar, decodeControl, given]

theorem bge (core ga gb off) : Statement (.bge core ga gb off) := by
  intro e x v h hv
  rw [decode_class0 core 0x23 false _ _ _ _ h rfl (by decide)]
  simp (disch := decide) only [fieldAt_pack, flagAt_pack, zeroAt_pack, regG_pack, regV_pack, regX_pack, regA_pack, part_head, part_tail, toFin2, toFin3, toFin4, toFin5, bit_one, List.cons_append, List.nil_append, decide_true, if_true, BitVec.ofNat_toNat, BitVec.setWidth_eq, Nat.reduceSub, BitVec.ofNat_eq_ofNat, Bool.and_self, Bool.not_false, Bool.not_true, BitVec.reduceEq, decide_false, Option.getD_some, if_false, Bool.false_eq_true, decodeScalar, decodeControl, given]

theorem bltu (core ga gb off) : Statement (.bltu core ga gb off) := by
  intro e x v h hv
  rw [decode_class0 core 0x24 false _ _ _ _ h rfl (by decide)]
  simp (disch := decide) only [fieldAt_pack, flagAt_pack, zeroAt_pack, regG_pack, regV_pack, regX_pack, regA_pack, part_head, part_tail, toFin2, toFin3, toFin4, toFin5, bit_one, List.cons_append, List.nil_append, decide_true, if_true, BitVec.ofNat_toNat, BitVec.setWidth_eq, Nat.reduceSub, BitVec.ofNat_eq_ofNat, Bool.and_self, Bool.not_false, Bool.not_true, BitVec.reduceEq, decide_false, Option.getD_some, if_false, Bool.false_eq_true, decodeScalar, decodeControl, given]

theorem bgeu (core ga gb off) : Statement (.bgeu core ga gb off) := by
  intro e x v h hv
  rw [decode_class0 core 0x25 false _ _ _ _ h rfl (by decide)]
  simp (disch := decide) only [fieldAt_pack, flagAt_pack, zeroAt_pack, regG_pack, regV_pack, regX_pack, regA_pack, part_head, part_tail, toFin2, toFin3, toFin4, toFin5, bit_one, List.cons_append, List.nil_append, decide_true, if_true, BitVec.ofNat_toNat, BitVec.setWidth_eq, Nat.reduceSub, BitVec.ofNat_eq_ofNat, Bool.and_self, Bool.not_false, Bool.not_true, BitVec.reduceEq, decide_false, Option.getD_some, if_false, Bool.false_eq_true, decodeScalar, decodeControl, given]

theorem jmp (core off) : Statement (.jmp core off) := by
  intro e x v h hv
  rw [decode_class0 core 0x26 false _ _ _ _ h rfl (by decide)]
  simp (disch := decide) only [fieldAt_pack, flagAt_pack, zeroAt_pack, regG_pack, regV_pack, regX_pack, regA_pack, part_head, part_tail, toFin2, toFin3, toFin4, toFin5, bit_one, List.cons_append, List.nil_append, decide_true, if_true, BitVec.ofNat_toNat, BitVec.setWidth_eq, Nat.reduceSub, BitVec.ofNat_eq_ofNat, Bool.and_self, Bool.not_false, Bool.not_true, BitVec.reduceEq, decide_false, Option.getD_some, if_false, Bool.false_eq_true, decodeScalar, decodeControl, given]

theorem jal (core off) : Statement (.jal core off) := by
  intro e x v h hv
  rw [decode_class0 core 0x27 false _ _ _ _ h rfl (by decide)]
  simp (disch := decide) only [fieldAt_pack, flagAt_pack, zeroAt_pack, regG_pack, regV_pack, regX_pack, regA_pack, part_head, part_tail, toFin2, toFin3, toFin4, toFin5, bit_one, List.cons_append, List.nil_append, decide_true, if_true, BitVec.ofNat_toNat, BitVec.setWidth_eq, Nat.reduceSub, BitVec.ofNat_eq_ofNat, Bool.and_self, Bool.not_false, Bool.not_true, BitVec.reduceEq, decide_false, Option.getD_some, if_false, Bool.false_eq_true, decodeScalar, decodeControl, given]

theorem jr (core ga) : Statement (.jr core ga) := by
  intro e x v h hv
  rw [decode_class0 core 0x28 false _ _ _ _ h rfl (by decide)]
  simp (disch := decide) only [fieldAt_pack, flagAt_pack, zeroAt_pack, regG_pack, regV_pack, regX_pack, regA_pack, part_head, part_tail, toFin2, toFin3, toFin4, toFin5, bit_one, List.cons_append, List.nil_append, decide_true, if_true, BitVec.ofNat_toNat, BitVec.setWidth_eq, Nat.reduceSub, BitVec.ofNat_eq_ofNat, Bool.and_self, Bool.not_false, Bool.not_true, BitVec.reduceEq, decide_false, Option.getD_some, if_false, Bool.false_eq_true, decodeScalar, decodeControl, given]

theorem jalr (core gd ga) : Statement (.jalr core gd ga) := by
  intro e x v h hv
  rw [decode_class0 core 0x29 false _ _ _ _ h rfl (by decide)]
  simp (disch := decide) only [fieldAt_pack, flagAt_pack, zeroAt_pack, regG_pack, regV_pack, regX_pack, regA_pack, part_head, part_tail, toFin2, toFin3, toFin4, toFin5, bit_one, List.cons_append, List.nil_append, decide_true, if_true, BitVec.ofNat_toNat, BitVec.setWidth_eq, Nat.reduceSub, BitVec.ofNat_eq_ofNat, Bool.and_self, Bool.not_false, Bool.not_true, BitVec.reduceEq, decide_false, Option.getD_some, if_false, Bool.false_eq_true, decodeScalar, decodeControl, given]

theorem loop (core ga len) : Statement (.loop core ga len) := by
  intro e x v h hv
  rw [decode_class0 core 0x2a false _ _ _ _ h rfl (by decide)]
  simp (disch := decide) only [fieldAt_pack, flagAt_pack, zeroAt_pack, regG_pack, regV_pack, regX_pack, regA_pack, part_head, part_tail, toFin2, toFin3, toFin4, toFin5, bit_one, List.cons_append, List.nil_append, decide_true, if_true, BitVec.ofNat_toNat, BitVec.setWidth_eq, Nat.reduceSub, BitVec.ofNat_eq_ofNat, Bool.and_self, Bool.not_false, Bool.not_true, BitVec.reduceEq, decide_false, Option.getD_some, if_false, Bool.false_eq_true, decodeScalar, decodeControl, given]

theorem loopi (core count len) : Statement (.loopi core count len) := by
  intro e x v h hv
  rw [decode_class0 core 0x2b false _ _ _ _ h rfl (by decide)]
  simp (disch := decide) only [fieldAt_pack, flagAt_pack, zeroAt_pack, regG_pack, regV_pack, regX_pack, regA_pack, part_head, part_tail, toFin2, toFin3, toFin4, toFin5, bit_one, List.cons_append, List.nil_append, decide_true, if_true, BitVec.ofNat_toNat, BitVec.setWidth_eq, Nat.reduceSub, BitVec.ofNat_eq_ofNat, Bool.and_self, Bool.not_false, Bool.not_true, BitVec.reduceEq, decide_false, Option.getD_some, if_false, Bool.false_eq_true, decodeScalar, decodeControl, given]

theorem loopBackEdge (core) : Statement (.loopBackEdge core) := statement_none _ rfl
theorem movs (core dst src) : Statement (.movs core dst src) := by
  intro e x v h hv
  rw [decode_class0 core 0x2c false _ _ _ _ h rfl (by decide)]
  simp (disch := decide) only [fieldAt_pack, flagAt_pack, zeroAt_pack, regG_pack, regV_pack, regX_pack, regA_pack, part_head, part_tail, toFin2, toFin3, toFin4, toFin5, bit_one, List.cons_append, List.nil_append, decide_true, if_true, BitVec.ofNat_toNat, BitVec.setWidth_eq, Nat.reduceSub, BitVec.ofNat_eq_ofNat, Bool.and_self, Bool.not_false, Bool.not_true, BitVec.reduceEq, decide_false, Option.getD_some, if_false, Bool.false_eq_true, decodeScalar, decodeControl, given]

theorem movsi (core dst imm) : Statement (.movsi core dst imm) := by
  intro e x v h hv
  rw [decode_class0 core 0x2d false _ _ _ _ h rfl (by decide)]
  simp (disch := decide) only [fieldAt_pack, flagAt_pack, zeroAt_pack, regG_pack, regV_pack, regX_pack, regA_pack, part_head, part_tail, toFin2, toFin3, toFin4, toFin5, bit_one, List.cons_append, List.nil_append, decide_true, if_true, BitVec.ofNat_toNat, BitVec.setWidth_eq, Nat.reduceSub, BitVec.ofNat_eq_ofNat, Bool.and_self, Bool.not_false, Bool.not_true, BitVec.reduceEq, decide_false, Option.getD_some, if_false, Bool.false_eq_true, decodeScalar, decodeControl, given]

theorem fence (core) : Statement (.fence core) := by
  intro e x v h hv
  rw [decode_class0 core 0x30 false _ _ _ _ h rfl (by decide)]
  simp (disch := decide) only [fieldAt_pack, flagAt_pack, zeroAt_pack, regG_pack, regV_pack, regX_pack, regA_pack, part_head, part_tail, toFin2, toFin3, toFin4, toFin5, bit_one, List.cons_append, List.nil_append, decide_true, if_true, BitVec.ofNat_toNat, BitVec.setWidth_eq, Nat.reduceSub, BitVec.ofNat_eq_ofNat, Bool.and_self, Bool.not_false, Bool.not_true, BitVec.reduceEq, decide_false, Option.getD_some, if_false, Bool.false_eq_true, decodeScalar, decodeControl, given]

theorem brk (core) : Statement (.brk core) := by
  intro e x v h hv
  rw [decode_class0 core 0x31 false _ _ _ _ h rfl (by decide)]
  simp (disch := decide) only [fieldAt_pack, flagAt_pack, zeroAt_pack, regG_pack, regV_pack, regX_pack, regA_pack, part_head, part_tail, toFin2, toFin3, toFin4, toFin5, bit_one, List.cons_append, List.nil_append, decide_true, if_true, BitVec.ofNat_toNat, BitVec.setWidth_eq, Nat.reduceSub, BitVec.ofNat_eq_ofNat, Bool.and_self, Bool.not_false, Bool.not_true, BitVec.reduceEq, decide_false, Option.getD_some, if_false, Bool.false_eq_true, decodeScalar, decodeControl, given]

theorem rett (core) : Statement (.rett core) := by
  intro e x v h hv
  rw [decode_class0 core 0x32 false _ _ _ _ h rfl (by decide)]
  simp (disch := decide) only [fieldAt_pack, flagAt_pack, zeroAt_pack, regG_pack, regV_pack, regX_pack, regA_pack, part_head, part_tail, toFin2, toFin3, toFin4, toFin5, bit_one, List.cons_append, List.nil_append, decide_true, if_true, BitVec.ofNat_toNat, BitVec.setWidth_eq, Nat.reduceSub, BitVec.ofNat_eq_ofNat, Bool.and_self, Bool.not_false, Bool.not_true, BitVec.reduceEq, decide_false, Option.getD_some, if_false, Bool.false_eq_true, decodeScalar, decodeControl, given]

theorem amod (core x imm) : Statement (.amod core x imm) := by
  intro e x v h hv
  rw [decode_class0 core 0x33 false _ _ _ _ h rfl (by decide)]
  simp (disch := decide) only [fieldAt_pack, flagAt_pack, zeroAt_pack, regG_pack, regV_pack, regX_pack, regA_pack, part_head, part_tail, toFin2, toFin3, toFin4, toFin5, bit_one, List.cons_append, List.nil_append, decide_true, if_true, BitVec.ofNat_toNat, BitVec.setWidth_eq, Nat.reduceSub, BitVec.ofNat_eq_ofNat, Bool.and_self, Bool.not_false, Bool.not_true, BitVec.reduceEq, decide_false, Option.getD_some, if_false, Bool.false_eq_true, decodeScalar, decodeControl, given]

theorem waitq (core q ga) : Statement (.waitq core q ga) := by
  intro e x v h hv
  rw [decode_class0 core 0x34 false _ _ _ _ h rfl (by decide)]
  simp (disch := decide) only [fieldAt_pack, flagAt_pack, zeroAt_pack, regG_pack, regV_pack, regX_pack, regA_pack, part_head, part_tail, toFin2, toFin3, toFin4, toFin5, bit_one, List.cons_append, List.nil_append, decide_true, if_true, BitVec.ofNat_toNat, BitVec.setWidth_eq, Nat.reduceSub, BitVec.ofNat_eq_ofNat, Bool.and_self, Bool.not_false, Bool.not_true, BitVec.reduceEq, decide_false, Option.getD_some, if_false, Bool.false_eq_true, decodeScalar, decodeControl, given]

theorem waitqWake (core) : Statement (.waitqWake core) := statement_none _ rfl
theorem signal (core imm) : Statement (.signal core imm) := by
  intro e x v h hv
  rw [decode_class0 core 0x35 false _ _ _ _ h rfl (by decide)]
  simp (disch := decide) only [fieldAt_pack, flagAt_pack, zeroAt_pack, regG_pack, regV_pack, regX_pack, regA_pack, part_head, part_tail, toFin2, toFin3, toFin4, toFin5, bit_one, List.cons_append, List.nil_append, decide_true, if_true, BitVec.ofNat_toNat, BitVec.setWidth_eq, Nat.reduceSub, BitVec.ofNat_eq_ofNat, Bool.and_self, Bool.not_false, Bool.not_true, BitVec.reduceEq, decide_false, Option.getD_some, if_false, Bool.false_eq_true, decodeScalar, decodeControl, given]

theorem vmov (core fmt vd va) : Statement (.vmov core fmt vd va) := by
  intro e x v h hv
  rw [decode_class1 core 0x0 false _ _ _ _ h rfl (by decide)]
  rw [decodeVector.eq_1, given]
  simp (disch := decide) only [fieldAt_pack, flagAt_pack, zeroAt_pack, regV_pack, part_head, part_tail, toFin5, bit_one, List.cons_append, List.nil_append, decide_true, if_true, BitVec.ofNat_toNat, BitVec.setWidth_eq, Nat.reduceSub, BitVec.ofNat_eq_ofNat, Bool.and_self, Bool.not_false, Bool.not_true, BitVec.reduceEq, decide_false, Option.getD_some, if_false, Bool.false_eq_true]

theorem vadd (core sat fmt vd va vb) : Statement (.vadd core sat fmt vd va vb) := by
  intro e x v h hv
  rw [decode_class1 core 0x1 sat _ _ _ _ h rfl (by decide)]
  rw [decodeVector.eq_2, given]
  simp (disch := decide) only [fieldAt_pack, flagAt_pack, zeroAt_pack, regV_pack, part_head, part_tail, toFin5, bit_one, List.cons_append, List.nil_append, decide_true, if_true, BitVec.ofNat_toNat, BitVec.setWidth_eq, Nat.reduceSub, BitVec.ofNat_eq_ofNat, Bool.and_self, Bool.not_false, Bool.not_true, BitVec.reduceEq, decide_false, Option.getD_some, if_false, Bool.false_eq_true]

theorem vsub (core sat fmt vd va vb) : Statement (.vsub core sat fmt vd va vb) := by
  intro e x v h hv
  rw [decode_class1 core 0x2 sat _ _ _ _ h rfl (by decide)]
  rw [decodeVector.eq_3, given]
  simp (disch := decide) only [fieldAt_pack, flagAt_pack, zeroAt_pack, regV_pack, part_head, part_tail, toFin5, bit_one, List.cons_append, List.nil_append, decide_true, if_true, BitVec.ofNat_toNat, BitVec.setWidth_eq, Nat.reduceSub, BitVec.ofNat_eq_ofNat, Bool.and_self, Bool.not_false, Bool.not_true, BitVec.reduceEq, decide_false, Option.getD_some, if_false, Bool.false_eq_true]

theorem vmulq (core sat fmt vd va vb) : Statement (.vmulq core sat fmt vd va vb) := by
  intro e x v h hv
  rw [decode_class1 core 0x3 sat _ _ _ _ h rfl (by decide)]
  rw [decodeVector.eq_4, given]
  simp (disch := decide) only [fieldAt_pack, flagAt_pack, zeroAt_pack, regV_pack, part_head, part_tail, toFin5, bit_one, List.cons_append, List.nil_append, decide_true, if_true, BitVec.ofNat_toNat, BitVec.setWidth_eq, Nat.reduceSub, BitVec.ofNat_eq_ofNat, Bool.and_self, Bool.not_false, Bool.not_true, BitVec.reduceEq, decide_false, Option.getD_some, if_false, Bool.false_eq_true]

theorem vmin (core fmt vd va vb) : Statement (.vmin core fmt vd va vb) := by
  intro e x v h hv
  rw [decode_class1 core 0x4 false _ _ _ _ h rfl (by decide)]
  rw [decodeVector.eq_5, given]
  simp (disch := decide) only [fieldAt_pack, flagAt_pack, zeroAt_pack, regV_pack, part_head, part_tail, toFin5, bit_one, List.cons_append, List.nil_append, decide_true, if_true, BitVec.ofNat_toNat, BitVec.setWidth_eq, Nat.reduceSub, BitVec.ofNat_eq_ofNat, Bool.and_self, Bool.not_false, Bool.not_true, BitVec.reduceEq, decide_false, Option.getD_some, if_false, Bool.false_eq_true]

theorem vmax (core fmt vd va vb) : Statement (.vmax core fmt vd va vb) := by
  intro e x v h hv
  rw [decode_class1 core 0x5 false _ _ _ _ h rfl (by decide)]
  rw [decodeVector.eq_6, given]
  simp (disch := decide) only [fieldAt_pack, flagAt_pack, zeroAt_pack, regV_pack, part_head, part_tail, toFin5, bit_one, List.cons_append, List.nil_append, decide_true, if_true, BitVec.ofNat_toNat, BitVec.setWidth_eq, Nat.reduceSub, BitVec.ofNat_eq_ofNat, Bool.and_self, Bool.not_false, Bool.not_true, BitVec.reduceEq, decide_false, Option.getD_some, if_false, Bool.false_eq_true]

theorem vabs (core sat fmt vd va) : Statement (.vabs core sat fmt vd va) := by
  intro e x v h hv
  rw [decode_class1 core 0x6 sat _ _ _ _ h rfl (by decide)]
  rw [decodeVector.eq_7, given]
  simp (disch := decide) only [fieldAt_pack, flagAt_pack, zeroAt_pack, regV_pack, part_head, part_tail, toFin5, bit_one, List.cons_append, List.nil_append, decide_true, if_true, BitVec.ofNat_toNat, BitVec.setWidth_eq, Nat.reduceSub, BitVec.ofNat_eq_ofNat, Bool.and_self, Bool.not_false, Bool.not_true, BitVec.reduceEq, decide_false, Option.getD_some, if_false, Bool.false_eq_true]

theorem vneg (core sat fmt vd va) : Statement (.vneg core sat fmt vd va) := by
  intro e x v h hv
  rw [decode_class1 core 0x7 sat _ _ _ _ h rfl (by decide)]
  rw [decodeVector.eq_8, given]
  simp (disch := decide) only [fieldAt_pack, flagAt_pack, zeroAt_pack, regV_pack, part_head, part_tail, toFin5, bit_one, List.cons_append, List.nil_append, decide_true, if_true, BitVec.ofNat_toNat, BitVec.setWidth_eq, Nat.reduceSub, BitVec.ofNat_eq_ofNat, Bool.and_self, Bool.not_false, Bool.not_true, BitVec.reduceEq, decide_false, Option.getD_some, if_false, Bool.false_eq_true]

theorem vand (core fmt vd va vb) : Statement (.vand core fmt vd va vb) := by
  intro e x v h hv
  rw [decode_class1 core 0x8 false _ _ _ _ h rfl (by decide)]
  rw [decodeVector.eq_9, given]
  simp (disch := decide) only [fieldAt_pack, flagAt_pack, zeroAt_pack, regV_pack, part_head, part_tail, toFin5, bit_one, List.cons_append, List.nil_append, decide_true, if_true, BitVec.ofNat_toNat, BitVec.setWidth_eq, Nat.reduceSub, BitVec.ofNat_eq_ofNat, Bool.and_self, Bool.not_false, Bool.not_true, BitVec.reduceEq, decide_false, Option.getD_some, if_false, Bool.false_eq_true]

theorem vor (core fmt vd va vb) : Statement (.vor core fmt vd va vb) := by
  intro e x v h hv
  rw [decode_class1 core 0x9 false _ _ _ _ h rfl (by decide)]
  rw [decodeVector.eq_10, given]
  simp (disch := decide) only [fieldAt_pack, flagAt_pack, zeroAt_pack, regV_pack, part_head, part_tail, toFin5, bit_one, List.cons_append, List.nil_append, decide_true, if_true, BitVec.ofNat_toNat, BitVec.setWidth_eq, Nat.reduceSub, BitVec.ofNat_eq_ofNat, Bool.and_self, Bool.not_false, Bool.not_true, BitVec.reduceEq, decide_false, Option.getD_some, if_false, Bool.false_eq_true]

theorem vxor (core fmt vd va vb) : Statement (.vxor core fmt vd va vb) := by
  intro e x v h hv
  rw [decode_class1 core 0xa false _ _ _ _ h rfl (by decide)]
  rw [decodeVector.eq_11, given]
  simp (disch := decide) only [fieldAt_pack, flagAt_pack, zeroAt_pack, regV_pack, part_head, part_tail, toFin5, bit_one, List.cons_append, List.nil_append, decide_true, if_true, BitVec.ofNat_toNat, BitVec.setWidth_eq, Nat.reduceSub, BitVec.ofNat_eq_ofNat, Bool.and_self, Bool.not_false, Bool.not_true, BitVec.reduceEq, decide_false, Option.getD_some, if_false, Bool.false_eq_true]

theorem vshl (core sat fmt vd va n) : Statement (.vshl core sat fmt vd va n) := by
  intro e x v h hv
  rw [decode_class1 core 0xb sat _ _ _ _ h rfl (by decide)]
  rw [decodeVector.eq_12, given]
  simp (disch := decide) only [fieldAt_pack, flagAt_pack, zeroAt_pack, regV_pack, part_head, part_tail, toFin5, bit_one, List.cons_append, List.nil_append, decide_true, if_true, BitVec.ofNat_toNat, BitVec.setWidth_eq, Nat.reduceSub, BitVec.ofNat_eq_ofNat, Bool.and_self, Bool.not_false, Bool.not_true, BitVec.reduceEq, decide_false, Option.getD_some, if_false, Bool.false_eq_true]

theorem vsra (core fmt vd va n) : Statement (.vsra core fmt vd va n) := by
  intro e x v h hv
  rw [decode_class1 core 0xc false _ _ _ _ h rfl (by decide)]
  rw [decodeVector.eq_13, given]
  simp (disch := decide) only [fieldAt_pack, flagAt_pack, zeroAt_pack, regV_pack, part_head, part_tail, toFin5, bit_one, List.cons_append, List.nil_append, decide_true, if_true, BitVec.ofNat_toNat, BitVec.setWidth_eq, Nat.reduceSub, BitVec.ofNat_eq_ofNat, Bool.and_self, Bool.not_false, Bool.not_true, BitVec.reduceEq, decide_false, Option.getD_some, if_false, Bool.false_eq_true]

theorem vsrl (core fmt vd va n) : Statement (.vsrl core fmt vd va n) := by
  intro e x v h hv
  rw [decode_class1 core 0xd false _ _ _ _ h rfl (by decide)]
  rw [decodeVector.eq_14, given]
  simp (disch := decide) only [fieldAt_pack, flagAt_pack, zeroAt_pack, regV_pack, part_head, part_tail, toFin5, bit_one, List.cons_append, List.nil_append, decide_true, if_true, BitVec.ofNat_toNat, BitVec.setWidth_eq, Nat.reduceSub, BitVec.ofNat_eq_ofNat, Bool.and_self, Bool.not_false, Bool.not_true, BitVec.reduceEq, decide_false, Option.getD_some, if_false, Bool.false_eq_true]

theorem vconj (core sat fmt vd va) : Statement (.vconj core sat fmt vd va) := by
  intro e x v h hv
  rw [decode_class1 core 0xe sat _ _ _ _ h rfl (by decide)]
  rw [decodeVector.eq_15, given]
  simp (disch := decide) only [fieldAt_pack, flagAt_pack, zeroAt_pack, regV_pack, part_head, part_tail, toFin5, bit_one, List.cons_append, List.nil_append, decide_true, if_true, BitVec.ofNat_toNat, BitVec.setWidth_eq, Nat.reduceSub, BitVec.ofNat_eq_ofNat, Bool.and_self, Bool.not_false, Bool.not_true, BitVec.reduceEq, decide_false, Option.getD_some, if_false, Bool.false_eq_true]

theorem vmag2 (core sat fmt vd va) : Statement (.vmag2 core sat fmt vd va) := by
  intro e x v h hv
  rw [decode_class1 core 0xf sat _ _ _ _ h rfl (by decide)]
  rw [decodeVector.eq_16, given]
  simp (disch := decide) only [fieldAt_pack, flagAt_pack, zeroAt_pack, regV_pack, part_head, part_tail, toFin5, bit_one, List.cons_append, List.nil_append, decide_true, if_true, BitVec.ofNat_toNat, BitVec.setWidth_eq, Nat.reduceSub, BitVec.ofNat_eq_ofNat, Bool.and_self, Bool.not_false, Bool.not_true, BitVec.reduceEq, decide_false, Option.getD_some, if_false, Bool.false_eq_true]

theorem vfma (core sat fmt vd va vb) : Statement (.vfma core sat fmt vd va vb) := by
  intro e x v h hv
  rw [decode_class1 core 0x10 sat _ _ _ _ h rfl (by decide)]
  rw [decodeVector.eq_17, given]
  simp (disch := decide) only [fieldAt_pack, flagAt_pack, zeroAt_pack, regV_pack, part_head, part_tail, toFin5, bit_one, List.cons_append, List.nil_append, decide_true, if_true, BitVec.ofNat_toNat, BitVec.setWidth_eq, Nat.reduceSub, BitVec.ofNat_eq_ofNat, Bool.and_self, Bool.not_false, Bool.not_true, BitVec.reduceEq, decide_false, Option.getD_some, if_false, Bool.false_eq_true]

theorem vcvt (core sat fmt vd va src half) : Statement (.vcvt core sat fmt vd va src half) := by
  intro e x v h hv
  rw [decode_class1 core 0x11 sat _ _ _ _ h rfl (by decide)]
  rw [decodeVector.eq_18, given]
  simp (disch := decide) only [fieldAt_pack, flagAt_pack, zeroAt_pack, regV_pack, part_head, part_tail, toFin5, bit_one, List.cons_append, List.nil_append, decide_true, if_true, BitVec.ofNat_toNat, BitVec.setWidth_eq, Nat.reduceSub, BitVec.ofNat_eq_ofNat, Bool.and_self, Bool.not_false, Bool.not_true, BitVec.reduceEq, decide_false, Option.getD_some, if_false, Bool.false_eq_true]

theorem vperm (core fmt vd va vb) : Statement (.vperm core fmt vd va vb) := by
  intro e x v h hv
  rw [decode_class1 core 0x12 false _ _ _ _ h rfl (by decide)]
  rw [decodeVector.eq_19, given]
  simp (disch := decide) only [fieldAt_pack, flagAt_pack, zeroAt_pack, regV_pack, part_head, part_tail, toFin5, bit_one, List.cons_append, List.nil_append, decide_true, if_true, BitVec.ofNat_toNat, BitVec.setWidth_eq, Nat.reduceSub, BitVec.ofNat_eq_ofNat, Bool.and_self, Bool.not_false, Bool.not_true, BitVec.reduceEq, decide_false, Option.getD_some, if_false, Bool.false_eq_true]

theorem valn (core fmt vd va vb n) : Statement (.valn core fmt vd va vb n) := by
  intro e x v h hv
  rw [decode_class1 core 0x13 false _ _ _ _ h rfl (by decide)]
  rw [decodeVector.eq_20, given]
  simp (disch := decide) only [fieldAt_pack, flagAt_pack, zeroAt_pack, regV_pack, part_head, part_tail, toFin5, bit_one, List.cons_append, List.nil_append, decide_true, if_true, BitVec.ofNat_toNat, BitVec.setWidth_eq, Nat.reduceSub, BitVec.ofNat_eq_ofNat, Bool.and_self, Bool.not_false, Bool.not_true, BitVec.reduceEq, decide_false, Option.getD_some, if_false, Bool.false_eq_true]

theorem vget (core fmt gd va j) : Statement (.vget core fmt gd va j) := by
  intro e x v h hv
  rw [decode_class1 core 0x14 false _ _ _ _ h rfl (by decide)]
  rw [decodeVector.eq_21, given]
  simp (disch := decide) only [fieldAt_pack, flagAt_pack, zeroAt_pack, regG_pack, regV_pack, part_head, part_tail, toFin5, toFin4, bit_one, List.cons_append, List.nil_append, decide_true, if_true, BitVec.ofNat_toNat, BitVec.setWidth_eq, Nat.reduceSub, BitVec.ofNat_eq_ofNat, Bool.and_self, Bool.not_false, Bool.not_true, BitVec.reduceEq, decide_false, Option.getD_some, if_false, Bool.false_eq_true]

theorem vput (core fmt vd ga j) : Statement (.vput core fmt vd ga j) := by
  intro e x v h hv
  rw [decode_class1 core 0x15 false _ _ _ _ h rfl (by decide)]
  rw [decodeVector.eq_22, given]
  simp (disch := decide) only [fieldAt_pack, flagAt_pack, zeroAt_pack, regG_pack, regV_pack, part_head, part_tail, toFin5, toFin4, bit_one, List.cons_append, List.nil_append, decide_true, if_true, BitVec.ofNat_toNat, BitVec.setWidth_eq, Nat.reduceSub, BitVec.ofNat_eq_ofNat, Bool.and_self, Bool.not_false, Bool.not_true, BitVec.reduceEq, decide_false, Option.getD_some, if_false, Bool.false_eq_true]

theorem vhmax (core fmt vd va) : Statement (.vhmax core fmt vd va) := by
  intro e x v h hv
  rw [decode_class1 core 0x16 false _ _ _ _ h rfl (by decide)]
  rw [decodeVector.eq_23, given]
  simp (disch := decide) only [fieldAt_pack, flagAt_pack, zeroAt_pack, regV_pack, part_head, part_tail, toFin5, bit_one, List.cons_append, List.nil_append, decide_true, if_true, BitVec.ofNat_toNat, BitVec.setWidth_eq, Nat.reduceSub, BitVec.ofNat_eq_ofNat, Bool.and_self, Bool.not_false, Bool.not_true, BitVec.reduceEq, decide_false, Option.getD_some, if_false, Bool.false_eq_true]

theorem vmac (core sat fmt an zero neg va vb) : Statement (.vmac core sat fmt an zero neg va vb) := by
  intro e x v h hv
  rw [decode_class1 core 0x18 sat _ _ _ _ h rfl (by decide)]
  simp (disch := decide) only [fieldAt_pack, flagAt_pack, zeroAt_pack, regV_pack, regA_pack, part_head, part_tail, toFin5, toFin2, bit_one, List.cons_append, List.nil_append, decide_true, if_true, BitVec.ofNat_toNat, BitVec.setWidth_eq, Nat.reduceSub, BitVec.ofNat_eq_ofNat, Bool.and_self, Bool.not_false, Bool.not_true, BitVec.reduceEq, decide_false, Option.getD_some, if_false, Bool.false_eq_true, decodeVector, decodeAcc, given]

theorem vmacp (core sat fmt an zero neg va) : Statement (.vmacp core sat fmt an zero neg va) := by
  intro e x v h hv
  rw [decode_class1 core 0x19 sat _ _ _ _ h rfl (by decide)]
  simp (disch := decide) only [fieldAt_pack, flagAt_pack, zeroAt_pack, regV_pack, regA_pack, part_head, part_tail, toFin5, toFin2, bit_one, List.cons_append, List.nil_append, decide_true, if_true, BitVec.ofNat_toNat, BitVec.setWidth_eq, Nat.reduceSub, BitVec.ofNat_eq_ofNat, Bool.and_self, Bool.not_false, Bool.not_true, BitVec.reduceEq, decide_false, Option.getD_some, if_false, Bool.false_eq_true, decodeVector, decodeAcc, given]

theorem vpmac (core sat fmt an zero neg va vb) : Statement (.vpmac core sat fmt an zero neg va vb) := by
  intro e x v h hv
  rw [decode_class1 core 0x1a sat _ _ _ _ h rfl (by decide)]
  simp (disch := decide) only [fieldAt_pack, flagAt_pack, zeroAt_pack, regV_pack, regA_pack, part_head, part_tail, toFin5, toFin2, bit_one, List.cons_append, List.nil_append, decide_true, if_true, BitVec.ofNat_toNat, BitVec.setWidth_eq, Nat.reduceSub, BitVec.ofNat_eq_ofNat, Bool.and_self, Bool.not_false, Bool.not_true, BitVec.reduceEq, decide_false, Option.getD_some, if_false, Bool.false_eq_true, decodeVector, decodeAcc, given]

theorem vpmsc (core sat fmt an zero neg va vb) : Statement (.vpmsc core sat fmt an zero neg va vb) := by
  intro e x v h hv
  rw [decode_class1 core 0x1b sat _ _ _ _ h rfl (by decide)]
  simp (disch := decide) only [fieldAt_pack, flagAt_pack, zeroAt_pack, regV_pack, regA_pack, part_head, part_tail, toFin5, toFin2, bit_one, List.cons_append, List.nil_append, decide_true, if_true, BitVec.ofNat_toNat, BitVec.setWidth_eq, Nat.reduceSub, BitVec.ofNat_eq_ofNat, Bool.and_self, Bool.not_false, Bool.not_true, BitVec.reduceEq, decide_false, Option.getD_some, if_false, Bool.false_eq_true, decodeVector, decodeAcc, given]

theorem vcmac (core sat fmt an zero neg va vb) : Statement (.vcmac core sat fmt an zero neg va vb) := by
  intro e x v h hv
  rw [decode_class1 core 0x1c sat _ _ _ _ h rfl (by decide)]
  simp (disch := decide) only [fieldAt_pack, flagAt_pack, zeroAt_pack, regV_pack, regA_pack, part_head, part_tail, toFin5, toFin2, bit_one, List.cons_append, List.nil_append, decide_true, if_true, BitVec.ofNat_toNat, BitVec.setWidth_eq, Nat.reduceSub, BitVec.ofNat_eq_ofNat, Bool.and_self, Bool.not_false, Bool.not_true, BitVec.reduceEq, decide_false, Option.getD_some, if_false, Bool.false_eq_true, decodeVector, decodeAcc, given]

theorem vcmacj (core sat fmt an zero neg va vb) : Statement (.vcmacj core sat fmt an zero neg va vb) := by
  intro e x v h hv
  rw [decode_class1 core 0x1d sat _ _ _ _ h rfl (by decide)]
  simp (disch := decide) only [fieldAt_pack, flagAt_pack, zeroAt_pack, regV_pack, regA_pack, part_head, part_tail, toFin5, toFin2, bit_one, List.cons_append, List.nil_append, decide_true, if_true, BitVec.ofNat_toNat, BitVec.setWidth_eq, Nat.reduceSub, BitVec.ofNat_eq_ofNat, Bool.and_self, Bool.not_false, Bool.not_true, BitVec.reduceEq, decide_false, Option.getD_some, if_false, Bool.false_eq_true, decodeVector, decodeAcc, given]

theorem vcmacp (core sat fmt an zero neg va) : Statement (.vcmacp core sat fmt an zero neg va) := by
  intro e x v h hv
  rw [decode_class1 core 0x1e sat _ _ _ _ h rfl (by decide)]
  simp (disch := decide) only [fieldAt_pack, flagAt_pack, zeroAt_pack, regV_pack, regA_pack, part_head, part_tail, toFin5, toFin2, bit_one, List.cons_append, List.nil_append, decide_true, if_true, BitVec.ofNat_toNat, BitVec.setWidth_eq, Nat.reduceSub, BitVec.ofNat_eq_ofNat, Bool.and_self, Bool.not_false, Bool.not_true, BitVec.reduceEq, decide_false, Option.getD_some, if_false, Bool.false_eq_true, decodeVector, decodeAcc, given]

theorem vcmacpj (core sat fmt an zero neg va) : Statement (.vcmacpj core sat fmt an zero neg va) := by
  intro e x v h hv
  rw [decode_class1 core 0x1f sat _ _ _ _ h rfl (by decide)]
  simp (disch := decide) only [fieldAt_pack, flagAt_pack, zeroAt_pack, regV_pack, regA_pack, part_head, part_tail, toFin5, toFin2, bit_one, List.cons_append, List.nil_append, decide_true, if_true, BitVec.ofNat_toNat, BitVec.setWidth_eq, Nat.reduceSub, BitVec.ofNat_eq_ofNat, Bool.and_self, Bool.not_false, Bool.not_true, BitVec.reduceEq, decide_false, Option.getD_some, if_false, Bool.false_eq_true, decodeVector, decodeAcc, given]

theorem vrnd (core sat fmt vd an n) : Statement (.vrnd core sat fmt vd an n) := by
  intro e x v h hv
  rw [decode_class1 core 0x20 sat _ _ _ _ h rfl (by decide)]
  simp (disch := decide) only [fieldAt_pack, flagAt_pack, zeroAt_pack, regV_pack, regA_pack, part_head, part_tail, toFin5, toFin2, bit_one, List.cons_append, List.nil_append, decide_true, if_true, BitVec.ofNat_toNat, BitVec.setWidth_eq, Nat.reduceSub, BitVec.ofNat_eq_ofNat, Bool.and_self, Bool.not_false, Bool.not_true, BitVec.reduceEq, decide_false, Option.getD_some, if_false, Bool.false_eq_true, decodeVector, decodeAcc, given]

theorem vrndw (core sat fmt vd an n half) : Statement (.vrndw core sat fmt vd an n half) := by
  intro e x v h hv
  rw [decode_class1 core 0x21 sat _ _ _ _ h rfl (by decide)]
  simp (disch := decide) only [fieldAt_pack, flagAt_pack, zeroAt_pack, regV_pack, regA_pack, part_head, part_tail, toFin5, toFin2, bit_one, List.cons_append, List.nil_append, decide_true, if_true, BitVec.ofNat_toNat, BitVec.setWidth_eq, Nat.reduceSub, BitVec.ofNat_eq_ofNat, Bool.and_self, Bool.not_false, Bool.not_true, BitVec.reduceEq, decide_false, Option.getD_some, if_false, Bool.false_eq_true, decodeVector, decodeAcc, given]

theorem vamov (core fmt an va n) : Statement (.vamov core fmt an va n) := by
  intro e x v h hv
  rw [decode_class1 core 0x22 false _ _ _ _ h rfl (by decide)]
  simp (disch := decide) only [fieldAt_pack, flagAt_pack, zeroAt_pack, regV_pack, regA_pack, part_head, part_tail, toFin5, toFin2, bit_one, List.cons_append, List.nil_append, decide_true, if_true, BitVec.ofNat_toNat, BitVec.setWidth_eq, Nat.reduceSub, BitVec.ofNat_eq_ofNat, Bool.and_self, Bool.not_false, Bool.not_true, BitVec.reduceEq, decide_false, Option.getD_some, if_false, Bool.false_eq_true, decodeVector, decodeAcc, given]

theorem vaclr (core fmt an) : Statement (.vaclr core fmt an) := by
  intro e x v h hv
  rw [decode_class1 core 0x23 false _ _ _ _ h rfl (by decide)]
  simp (disch := decide) only [fieldAt_pack, flagAt_pack, zeroAt_pack, regV_pack, regA_pack, part_head, part_tail, toFin2, bit_one, List.cons_append, List.nil_append, decide_true, if_true, BitVec.ofNat_toNat, BitVec.setWidth_eq, Nat.reduceSub, BitVec.ofNat_eq_ofNat, Bool.and_self, Bool.not_false, Bool.not_true, BitVec.reduceEq, decide_false, Option.getD_some, if_false, Bool.false_eq_true, decodeVector, decodeAcc, given]

theorem ld (core gd x mode off) : Statement (.ld core gd x mode off) := by
  intro e x v h hv
  rw [decode_class2 core 0x0 false _ _ _ _ h rfl (by decide)]
  simp (disch := decide) only [fieldAt_pack, flagAt_pack, zeroAt_pack, regG_pack, regV_pack, regX_pack, regA_pack, part_head, part_tail, toFin2, toFin3, toFin4, toFin5, bit_one, List.cons_append, List.nil_append, decide_true, if_true, BitVec.ofNat_toNat, BitVec.setWidth_eq, Nat.reduceSub, BitVec.ofNat_eq_ofNat, Bool.and_self, Bool.not_false, Bool.not_true, BitVec.reduceEq, decide_false, Option.getD_some, if_false, Bool.false_eq_true, decodeMem, given]

theorem st (core ga x mode off env) : Statement (.st core ga x mode off env) := by
  intro e x v h hv
  rw [hv _ _ _ _ _ _ rfl]
  rw [decode_class2 core 0x1 false _ _ _ _ h rfl (by decide)]
  simp (disch := decide) only [fieldAt_pack, flagAt_pack, zeroAt_pack, regG_pack, regV_pack, regX_pack, regA_pack, part_head, part_tail, toFin2, toFin3, toFin4, toFin5, bit_one, List.cons_append, List.nil_append, decide_true, if_true, BitVec.ofNat_toNat, BitVec.setWidth_eq, Nat.reduceSub, BitVec.ofNat_eq_ofNat, Bool.and_self, Bool.not_false, Bool.not_true, BitVec.reduceEq, decide_false, Option.getD_some, if_false, Bool.false_eq_true, decodeMem, given]

theorem vld (core vd x mode off) : Statement (.vld core vd x mode off) := by
  intro e x v h hv
  rw [decode_class2 core 0x8 false _ _ _ _ h rfl (by decide)]
  simp (disch := decide) only [fieldAt_pack, flagAt_pack, zeroAt_pack, regG_pack, regV_pack, regX_pack, regA_pack, part_head, part_tail, toFin2, toFin3, toFin4, toFin5, bit_one, List.cons_append, List.nil_append, decide_true, if_true, BitVec.ofNat_toNat, BitVec.setWidth_eq, Nat.reduceSub, BitVec.ofNat_eq_ofNat, Bool.and_self, Bool.not_false, Bool.not_true, BitVec.reduceEq, decide_false, Option.getD_some, if_false, Bool.false_eq_true, decodeMem, given]

theorem vst (core va x mode off) : Statement (.vst core va x mode off) := by
  intro e x v h hv
  rw [decode_class2 core 0x9 false _ _ _ _ h rfl (by decide)]
  simp (disch := decide) only [fieldAt_pack, flagAt_pack, zeroAt_pack, regG_pack, regV_pack, regX_pack, regA_pack, part_head, part_tail, toFin2, toFin3, toFin4, toFin5, bit_one, List.cons_append, List.nil_append, decide_true, if_true, BitVec.ofNat_toNat, BitVec.setWidth_eq, Nat.reduceSub, BitVec.ofNat_eq_ofNat, Bool.and_self, Bool.not_false, Bool.not_true, BitVec.reduceEq, decide_false, Option.getD_some, if_false, Bool.false_eq_true, decodeMem, given]

theorem vldb (core vd x mode off) : Statement (.vldb core vd x mode off) := by
  intro e x v h hv
  rw [decode_class2 core 0xa false _ _ _ _ h rfl (by decide)]
  simp (disch := decide) only [fieldAt_pack, flagAt_pack, zeroAt_pack, regG_pack, regV_pack, regX_pack, regA_pack, part_head, part_tail, toFin2, toFin3, toFin4, toFin5, bit_one, List.cons_append, List.nil_append, decide_true, if_true, BitVec.ofNat_toNat, BitVec.setWidth_eq, Nat.reduceSub, BitVec.ofNat_eq_ofNat, Bool.and_self, Bool.not_false, Bool.not_true, BitVec.reduceEq, decide_false, Option.getD_some, if_false, Bool.false_eq_true, decodeMem, given]

theorem vld2 (core vx px mx vy py my) : Statement (.vld2 core vx px mx vy py my) := by
  intro e x v h hv
  rw [decode_class2 core 0x10 false _ _ _ _ h rfl (by decide)]
  simp (disch := decide) only [fieldAt_pack, flagAt_pack, zeroAt_pack, regG_pack, regV_pack, regX_pack, regA_pack, part_head, part_tail, toFin2, toFin3, toFin4, toFin5, bit_one, List.cons_append, List.nil_append, decide_true, if_true, BitVec.ofNat_toNat, BitVec.setWidth_eq, Nat.reduceSub, BitVec.ofNat_eq_ofNat, Bool.and_self, Bool.not_false, Bool.not_true, BitVec.reduceEq, decide_false, Option.getD_some, if_false, Bool.false_eq_true, decodeMem, given]

theorem vldst (core vx px mx vy py my) : Statement (.vldst core vx px mx vy py my) := by
  intro e x v h hv
  rw [decode_class2 core 0x11 false _ _ _ _ h rfl (by decide)]
  simp (disch := decide) only [fieldAt_pack, flagAt_pack, zeroAt_pack, regG_pack, regV_pack, regX_pack, regA_pack, part_head, part_tail, toFin2, toFin3, toFin4, toFin5, bit_one, List.cons_append, List.nil_append, decide_true, if_true, BitVec.ofNat_toNat, BitVec.setWidth_eq, Nat.reduceSub, BitVec.ofNat_eq_ofNat, Bool.and_self, Bool.not_false, Bool.not_true, BitVec.reduceEq, decide_false, Option.getD_some, if_false, Bool.false_eq_true, decodeMem, given]

theorem vstld (core vx px mx vy py my) : Statement (.vstld core vx px mx vy py my) := by
  intro e x v h hv
  rw [decode_class2 core 0x12 false _ _ _ _ h rfl (by decide)]
  simp (disch := decide) only [fieldAt_pack, flagAt_pack, zeroAt_pack, regG_pack, regV_pack, regX_pack, regA_pack, part_head, part_tail, toFin2, toFin3, toFin4, toFin5, bit_one, List.cons_append, List.nil_append, decide_true, if_true, BitVec.ofNat_toNat, BitVec.setWidth_eq, Nat.reduceSub, BitVec.ofNat_eq_ofNat, Bool.and_self, Bool.not_false, Bool.not_true, BitVec.reduceEq, decide_false, Option.getD_some, if_false, Bool.false_eq_true, decodeMem, given]

theorem vst2 (core vx px mx vy py my) : Statement (.vst2 core vx px mx vy py my) := by
  intro e x v h hv
  rw [decode_class2 core 0x13 false _ _ _ _ h rfl (by decide)]
  simp (disch := decide) only [fieldAt_pack, flagAt_pack, zeroAt_pack, regG_pack, regV_pack, regX_pack, regA_pack, part_head, part_tail, toFin2, toFin3, toFin4, toFin5, bit_one, List.cons_append, List.nil_append, decide_true, if_true, BitVec.ofNat_toNat, BitVec.setWidth_eq, Nat.reduceSub, BitVec.ofNat_eq_ofNat, Bool.and_self, Bool.not_false, Bool.not_true, BitVec.reduceEq, decide_false, Option.getD_some, if_false, Bool.false_eq_true, decodeMem, given]

theorem li (core gd imm) : Statement (.li core gd imm) := by
  intro e x v h hv
  rw [decode_two core 0x10 false _ _ _ _ _ h rfl (by decide)]
  simp (disch := decide) only [fieldAt_pack, flagAt_pack, zeroAt_pack, regG_pack, regV_pack, regX_pack, regA_pack, part_head, part_tail, toFin2, toFin3, toFin4, toFin5, bit_one, List.cons_append, List.nil_append, decide_true, if_true, BitVec.ofNat_toNat, BitVec.setWidth_eq, Nat.reduceSub, BitVec.ofNat_eq_ofNat, Bool.and_self, Bool.not_false, Bool.not_true, BitVec.reduceEq, decide_false, Option.getD_some, if_false, Bool.false_eq_true, decodeExt, given]

theorem tlAt (core ga gb) : Statement (.tlAt core ga gb) := by
  intro e x v h hv
  rw [decode_two core 0x0 false _ _ _ _ _ h rfl (by decide)]
  simp (disch := decide) only [fieldAt_pack, flagAt_pack, zeroAt_pack, regG_pack, regV_pack, regX_pack, regA_pack, part_head, part_tail, toFin2, toFin3, toFin4, toFin5, bit_one, List.cons_append, List.nil_append, decide_true, if_true, BitVec.ofNat_toNat, BitVec.setWidth_eq, Nat.reduceSub, BitVec.ofNat_eq_ofNat, Bool.and_self, Bool.not_false, Bool.not_true, BitVec.reduceEq, decide_false, Option.getD_some, if_false, Bool.false_eq_true, decodeExt, given]

theorem tlAtd (core delta) : Statement (.tlAtd core delta) := by
  intro e x v h hv
  rw [decode_two core 0x1 false _ _ _ _ _ h rfl (by decide)]
  simp (disch := decide) only [fieldAt_pack, flagAt_pack, zeroAt_pack, regG_pack, regV_pack, regX_pack, regA_pack, part_head, part_tail, toFin2, toFin3, toFin4, toFin5, bit_one, List.cons_append, List.nil_append, decide_true, if_true, BitVec.ofNat_toNat, BitVec.setWidth_eq, Nat.reduceSub, BitVec.ofNat_eq_ofNat, Bool.and_self, Bool.not_false, Bool.not_true, BitVec.reduceEq, decide_false, Option.getD_some, if_false, Bool.false_eq_true, decodeExt, given, join_halves]

theorem tlSet (core unit sel opnd imm) : Statement (.tlSet core unit sel opnd imm) := by
  intro e x v h hv
  rw [decode_two core 0x2 imm _ _ _ _ _ h rfl (by decide)]
  simp (disch := decide) only [fieldAt_pack, flagAt_pack, zeroAt_pack, regG_pack, regV_pack, regX_pack, regA_pack, part_head, part_tail, toFin2, toFin3, toFin4, toFin5, bit_one, List.cons_append, List.nil_append, decide_true, if_true, BitVec.ofNat_toNat, BitVec.setWidth_eq, Nat.reduceSub, BitVec.ofNat_eq_ofNat, Bool.and_self, Bool.not_false, Bool.not_true, BitVec.reduceEq, decide_false, Option.getD_some, if_false, Bool.false_eq_true, decodeExt, given]

theorem tlSetr (core unit sel ga imm) : Statement (.tlSetr core unit sel ga imm) := by
  intro e x v h hv
  rw [decode_two core 0x3 imm _ _ _ _ _ h rfl (by decide)]
  simp (disch := decide) only [fieldAt_pack, flagAt_pack, zeroAt_pack, regG_pack, regV_pack, regX_pack, regA_pack, part_head, part_tail, toFin2, toFin3, toFin4, toFin5, bit_one, List.cons_append, List.nil_append, decide_true, if_true, BitVec.ofNat_toNat, BitVec.setWidth_eq, Nat.reduceSub, BitVec.ofNat_eq_ofNat, Bool.and_self, Bool.not_false, Bool.not_true, BitVec.reduceEq, decide_false, Option.getD_some, if_false, Bool.false_eq_true, decodeExt, given, zeroAt_reg, regG_reg]

theorem tlLoad (core unit sel desc imm) : Statement (.tlLoad core unit sel desc imm) := by
  intro e x v h hv
  rw [decode_two core 0x4 imm _ _ _ _ _ h rfl (by decide)]
  simp (disch := decide) only [fieldAt_pack, flagAt_pack, zeroAt_pack, regG_pack, regV_pack, regX_pack, regA_pack, part_head, part_tail, toFin2, toFin3, toFin4, toFin5, bit_one, List.cons_append, List.nil_append, decide_true, if_true, BitVec.ofNat_toNat, BitVec.setWidth_eq, Nat.reduceSub, BitVec.ofNat_eq_ofNat, Bool.and_self, Bool.not_false, Bool.not_true, BitVec.reduceEq, decide_false, Option.getD_some, if_false, Bool.false_eq_true, decodeExt, given]

theorem tlStallEnd : Statement (.tlStallEnd) := statement_none _ rfl
theorem tlLoadCopyDone : Statement (.tlLoadCopyDone) := statement_none _ rfl
theorem tlFlush (units) : Statement (.tlFlush units) := statement_none _ rfl
theorem atten (n label) : Statement (.atten n label) := statement_none _ rfl
theorem preamp (n label) : Statement (.preamp n label) := statement_none _ rfl
theorem ftThr (n label) : Statement (.ftThr n label) := statement_none _ rfl
theorem ftCtrl (n label beyond0 beyond1) : Statement (.ftCtrl n label beyond0 beyond1) := statement_none _ rfl
theorem ncoFreq (n label) : Statement (.ncoFreq n label) := statement_none _ rfl
theorem ncoPhase (n label) : Statement (.ncoPhase n label) := statement_none _ rfl
theorem decK (n label) : Statement (.decK n label) := statement_none _ rfl
theorem spanMode (n label) : Statement (.spanMode n label) := statement_none _ rfl
theorem rankCtrl (n label) : Statement (.rankCtrl n label) := statement_none _ rfl
theorem thrHigh (n label) : Statement (.thrHigh n label) := statement_none _ rfl
theorem thrLow (n label) : Statement (.thrLow n label) := statement_none _ rfl
theorem outCtrl (n label) : Statement (.outCtrl n label) := statement_none _ rfl
theorem enable (n label) : Statement (.enable n label) := statement_none _ rfl
theorem fftLog2n (n label) : Statement (.fftLog2n n label) := statement_none _ rfl
theorem window (n label) : Statement (.window n label) := statement_none _ rfl
theorem kaiserBeta (n label) : Statement (.kaiserBeta n label) := statement_none _ rfl
theorem hopDiv (n label) : Statement (.hopDiv n label) := statement_none _ rfl
theorem detMode (n label) : Statement (.detMode n label) := statement_none _ rfl
theorem detCount (n label) : Statement (.detCount n label) := statement_none _ rfl
theorem binFirst (n label) : Statement (.binFirst n label) := statement_none _ rfl
theorem binLast (n label) : Statement (.binLast n label) := statement_none _ rfl
theorem format (n label) : Statement (.format n label) := statement_none _ rfl
theorem userWindow (n label) : Statement (.userWindow n label) := statement_none _ rfl
theorem maskCtrl (label) : Statement (.maskCtrl label) := statement_none _ rfl
theorem mask (label) : Statement (.mask label) := statement_none _ rfl
theorem progCtrl (label) : Statement (.progCtrl label) := statement_none _ rfl
theorem prog (label) : Statement (.prog label) := statement_none _ rfl
theorem holdoff (label) : Statement (.holdoff label) := statement_none _ rfl
theorem auto (label) : Statement (.auto label) := statement_none _ rfl
theorem pre (label) : Statement (.pre label) := statement_none _ rfl
theorem sectorPost (label) : Statement (.sectorPost label) := statement_none _ rfl
theorem segRing (label) : Statement (.segRing label) := statement_none _ rfl
theorem arm (label) : Statement (.arm label) := statement_none _ rfl
theorem disarm (label) : Statement (.disarm label) := statement_none _ rfl
theorem geom (n label) : Statement (.geom n label) := statement_none _ rfl
theorem integ (label) : Statement (.integ label) := statement_none _ rfl
theorem persist (label) : Statement (.persist label) := statement_none _ rfl
theorem snapCtrl (label) : Statement (.snapCtrl label) := statement_none _ rfl
theorem lut (label) : Statement (.lut label) := statement_none _ rfl
theorem startSrc (label) : Statement (.startSrc label) := statement_none _ rfl
theorem stopMask (label) : Statement (.stopMask label) := statement_none _ rfl
theorem gateCtrl (label) : Statement (.gateCtrl label) := statement_none _ rfl
theorem statN (label) : Statement (.statN label) := statement_none _ rfl
theorem calCtrl (label) : Statement (.calCtrl label) := statement_none _ rfl
theorem cap (n label) : Statement (.cap n label) := statement_none _ rfl
theorem ring (n label) : Statement (.ring n label) := statement_none _ rfl
theorem streamEn (k label) : Statement (.streamEn k label) := statement_none _ rfl
theorem mark (label) : Statement (.mark label) := statement_none _ rfl
theorem freeze (label) : Statement (.freeze label) := statement_none _ rfl
theorem rotate (label) : Statement (.rotate label) := statement_none _ rfl
theorem swapSched (label) : Statement (.swapSched label) := statement_none _ rfl
theorem scanMask (label) : Statement (.scanMask label) := statement_none _ rfl
theorem urgent (label) : Statement (.urgent label) := statement_none _ rfl
theorem bind (label) : Statement (.bind label) := statement_none _ rfl
theorem cpage (label) : Statement (.cpage label) := statement_none _ rfl
theorem resyncV (label) : Statement (.resyncV label) := statement_none _ rfl
theorem resync (label) : Statement (.resync label) := statement_none _ rfl
theorem syncOut (label edge) : Statement (.syncOut label edge) := statement_none _ rfl
theorem trigoutSrc (p label) : Statement (.trigoutSrc p label) := statement_none _ rfl
theorem xtrigCtrl (label) : Statement (.xtrigCtrl label) := statement_none _ rfl
theorem frontEndStepEnd (n) : Statement (.frontEndStepEnd n) := statement_none _ rfl
theorem thresholdHoldEnd (n c) : Statement (.thresholdHoldEnd n c) := statement_none _ rfl
theorem comparatorTransition (n c v label) : Statement (.comparatorTransition n c v label) := statement_none _ rfl
theorem ovrFire (n label) : Statement (.ovrFire n label) := statement_none _ rfl
theorem tripFire (n label) : Statement (.tripFire n label) := statement_none _ rfl
theorem ovrMarkEnd (n) : Statement (.ovrMarkEnd n) := statement_none _ rfl
theorem overloadEpisodeEnd (n) : Statement (.overloadEpisodeEnd n) := statement_none _ rfl
theorem lampEntryArrive (u) : Statement (.lampEntryArrive u) := statement_none _ rfl
theorem peakClear (n) : Statement (.peakClear n) := statement_none _ rfl
theorem trigoutPulseStart (p label) : Statement (.trigoutPulseStart p label) := statement_none _ rfl
theorem trigoutPulseEnd (p) : Statement (.trigoutPulseEnd p) := statement_none _ rfl
theorem swapGridPoint (n arrived) : Statement (.swapGridPoint n arrived) := statement_none _ rfl
theorem deferredSwapPerform (n) : Statement (.deferredSwapPerform n) := statement_none _ rfl
theorem referenceWindowEnd (n) : Statement (.referenceWindowEnd n) := statement_none _ rfl
theorem checkWindowStart (n) : Statement (.checkWindowStart n) := statement_none _ rfl
theorem checkWindowEnd (n bg lowsig residOffset residGain) : Statement (.checkWindowEnd n bg lowsig residOffset residGain) := statement_none _ rfl
theorem factoryTrimReadDone (data) : Statement (.factoryTrimReadDone data) := statement_none _ rfl
theorem userTrimReadDone (data) : Statement (.userTrimReadDone data) := statement_none _ rfl
theorem trimSetApplied (label) : Statement (.trimSetApplied label) := statement_none _ rfl
theorem refinWindowEnd (edges seen khz) : Statement (.refinWindowEnd edges seen khz) := statement_none _ rfl
theorem holdoverLock (y) : Statement (.holdoverLock y) := statement_none _ rfl
theorem backupClockLock : Statement (.backupClockLock) := statement_none _ rfl
theorem clkStart : Statement (.clkStart) := statement_none _ rfl
theorem towerSynthLock : Statement (.towerSynthLock) := statement_none _ rfl
theorem refNomWrite (data) : Statement (.refNomWrite data) := statement_none _ rfl
theorem scApply (sclkIn) : Statement (.scApply sclkIn) := statement_none _ rfl
theorem scRetune (label) : Statement (.scRetune label) := statement_none _ rfl
theorem scLock (label) : Statement (.scLock label) := statement_none _ rfl
theorem scLoss (label) : Statement (.scLoss label) := statement_none _ rfl
theorem sclkInLoss (label) : Statement (.sclkInLoss label) := statement_none _ rfl
theorem towerClkLoss : Statement (.towerClkLoss) := statement_none _ rfl
theorem memClkLoss : Statement (.memClkLoss) := statement_none _ rfl
theorem memClkRelock : Statement (.memClkRelock) := statement_none _ rfl
theorem panelClkLoss : Statement (.panelClkLoss) := statement_none _ rfl
theorem panelClkRelock : Statement (.panelClkRelock) := statement_none _ rfl
theorem aclkLoss : Statement (.aclkLoss) := statement_none _ rfl
theorem spreadWrite (y data) : Statement (.spreadWrite y data) := statement_none _ rfl
theorem spreadChange (y) : Statement (.spreadChange y) := statement_none _ rfl
theorem forwardFrame (lanes pairs) : Statement (.forwardFrame lanes pairs) := statement_none _ rfl
theorem laneSwitch (ret) : Statement (.laneSwitch ret) := statement_none _ rfl
theorem clockLaneFail : Statement (.clockLaneFail) := statement_none _ rfl
theorem returnFrame (lanes) : Statement (.returnFrame lanes) := statement_none _ rfl
theorem returnResend : Statement (.returnResend) := statement_none _ rfl
theorem returnLinkTimeout : Statement (.returnLinkTimeout) := statement_none _ rfl
theorem retrain : Statement (.retrain) := statement_none _ rfl
theorem trainingPhaseDone (bad margins) : Statement (.trainingPhaseDone bad margins) := statement_none _ rfl
theorem filterOutput (n codes) : Statement (.filterOutput n codes) := statement_none _ rfl
theorem lensFrame (n) : Statement (.lensFrame n) := statement_none _ rfl
theorem maxExpClear (n) : Statement (.maxExpClear n) := statement_none _ rfl
theorem sectorEvent : Statement (.sectorEvent) := statement_none _ rfl
theorem sectorLabel (label) : Statement (.sectorLabel label) := statement_none _ rfl
theorem stepTimeout (p) : Statement (.stepTimeout p) := statement_none _ rfl
theorem autoTrigger : Statement (.autoTrigger) := statement_none _ rfl
theorem segmentEnd : Statement (.segmentEnd) := statement_none _ rfl
theorem xtrigEdge (tau) : Statement (.xtrigEdge tau) := statement_none _ rfl
theorem xtrigPulseStart (label) : Statement (.xtrigPulseStart label) := statement_none _ rfl
theorem xtrigPulseEnd : Statement (.xtrigPulseEnd) := statement_none _ rfl
theorem trigInEdge (c rising stop code) : Statement (.trigInEdge c rising stop code) := statement_none _ rfl
theorem coarseOverflow : Statement (.coarseOverflow) := statement_none _ rfl
theorem gateOpen (label) : Statement (.gateOpen label) := statement_none _ rfl
theorem gateClose (label) : Statement (.gateClose label) := statement_none _ rfl
theorem twoPeriodCalibration (c one two) : Statement (.twoPeriodCalibration c one two) := statement_none _ rfl
theorem codeDensityTable (c hits) : Statement (.codeDensityTable c hits) := statement_none _ rfl
theorem roleChange (c) : Statement (.roleChange c) := statement_none _ rfl
theorem glowUpdate (n) : Statement (.glowUpdate n) := statement_none _ rfl
theorem snapshotComplete (n) : Statement (.snapshotComplete n) := statement_none _ rfl
theorem amcApply (data dimms) : Statement (.amcApply data dimms) := statement_none _ rfl
theorem initialTrainingDone : Statement (.initialTrainingDone) := statement_none _ rfl
theorem dimmTempCheck (temps) : Statement (.dimmTempCheck temps) := statement_none _ rfl
theorem tempRetrain : Statement (.tempRetrain) := statement_none _ rfl
theorem fullRetrainDone : Statement (.fullRetrainDone) := statement_none _ rfl
theorem alertN (c) : Statement (.alertN c) := statement_none _ rfl
theorem correctableError (c) : Statement (.correctableError c) := statement_none _ rfl
theorem uncorrectableError (c reader) : Statement (.uncorrectableError c reader) := statement_none _ rfl
theorem slotFrame (c) : Statement (.slotFrame c) := statement_none _ rfl
theorem captureFifoIntake : Statement (.captureFifoIntake) := statement_none _ rfl
theorem fifoIntakeResume : Statement (.fifoIntakeResume) := statement_none _ rfl
theorem captureWrite : Statement (.captureWrite) := statement_none _ rfl
theorem selfRefreshEnter : Statement (.selfRefreshEnter) := statement_none _ rfl
theorem selfRefreshExit : Statement (.selfRefreshExit) := statement_none _ rfl
theorem selfRefreshExitDone : Statement (.selfRefreshExitDone) := statement_none _ rfl
theorem bar5Access (offset len data) : Statement (.bar5Access offset len data) := statement_none _ rfl
theorem fifoPeakClear : Statement (.fifoPeakClear) := statement_none _ rfl
theorem linkUp (rate width) : Statement (.linkUp rate width) := statement_none _ rfl
theorem hotReset : Statement (.hotReset) := statement_none _ rfl
theorem dmaStart (c data) : Statement (.dmaStart c data) := statement_none _ rfl
theorem descriptorFinish (c code moved data) : Statement (.descriptorFinish c code moved data) := statement_none _ rfl
theorem dmaResume (c data) : Statement (.dmaResume c data) := statement_none _ rfl
theorem dmaFlush (c data) : Statement (.dmaFlush c data) := statement_none _ rfl
theorem dmaStopForced (c moved data) : Statement (.dmaStopForced c moved data) := statement_none _ rfl
theorem recordRelease (k) : Statement (.recordRelease k) := statement_none _ rfl
theorem producerUpdate (k) : Statement (.producerUpdate k) := statement_none _ rfl
theorem streamAdmit (k) : Statement (.streamAdmit k) := statement_none _ rfl
theorem streamRelease (k) : Statement (.streamRelease k) := statement_none _ rfl
theorem consumerWrite (k count) : Statement (.consumerWrite k count) := statement_none _ rfl
theorem streamCfgWrite (k reg data) : Statement (.streamCfgWrite k reg data) := statement_none _ rfl
theorem nvqCfgWrite (q reg data) : Statement (.nvqCfgWrite q reg data) := statement_none _ rfl
theorem nvqKick : Statement (.nvqKick) := statement_none _ rfl
theorem completionPoll : Statement (.completionPoll) := statement_none _ rfl
theorem nvmeCompletion (q cid status) : Statement (.nvmeCompletion q cid status) := statement_none _ rfl
theorem nvmeTimeout (q) : Statement (.nvmeTimeout q) := statement_none _ rfl
theorem stripeWrite (k) : Statement (.stripeWrite k) := statement_none _ rfl
theorem stripePartialTimeout (k) : Statement (.stripePartialTimeout k) := statement_none _ rfl
theorem bar4Read (what) : Statement (.bar4Read what) := statement_none _ rfl
theorem tagsPeakClear : Statement (.tagsPeakClear) := statement_none _ rfl
theorem d3hot (pmeEn) : Statement (.d3hot pmeEn) := statement_none _ rfl
theorem panelEnable (data) : Statement (.panelEnable data) := statement_none _ rfl
theorem panelDisable (data) : Statement (.panelDisable data) := statement_none _ rfl
theorem panelLinkUp : Statement (.panelLinkUp) := statement_none _ rfl
theorem panelCfgWrite (reg data) : Statement (.panelCfgWrite reg data) := statement_none _ rfl
theorem full (data) : Statement (.full data) := statement_none _ rfl
theorem dcsSend (data) : Statement (.dcsSend data) := statement_none _ rfl
theorem teEdge (us) : Statement (.teEdge us) := statement_none _ rfl
theorem frameTimer (us) : Statement (.frameTimer us) := statement_none _ rfl
theorem teLost : Statement (.teLost) := statement_none _ rfl
theorem commitGo : Statement (.commitGo) := statement_none _ rfl
theorem commitHost : Statement (.commitHost) := statement_none _ rfl
theorem hostRowRead (data) : Statement (.hostRowRead data) := statement_none _ rfl
theorem pushDone : Statement (.pushDone) := statement_none _ rfl
theorem conversionDone (code) : Statement (.conversionDone code) := statement_none _ rfl
theorem urgentRequest (input) : Statement (.urgentRequest input) := statement_none _ rfl
theorem snapLatch (input) : Statement (.snapLatch input) := statement_none _ rfl
theorem snapClear (input) : Statement (.snapClear input) := statement_none _ rfl
theorem testCtrlWrite (data) : Statement (.testCtrlWrite data) := statement_none _ rfl
theorem operatingSecond : Statement (.operatingSecond) := statement_none _ rfl
theorem logCommit : Statement (.logCommit) := statement_none _ rfl
theorem pwrWarnFall : Statement (.pwrWarnFall) := statement_none _ rfl
theorem slotWriteDone (ok) : Statement (.slotWriteDone ok) := statement_none _ rfl
theorem eraseSectorDone : Statement (.eraseSectorDone) := statement_none _ rfl
theorem logbookLoadDone (answers) : Statement (.logbookLoadDone answers) := statement_none _ rfl
theorem cursorWrite (age) : Statement (.cursorWrite age) := statement_none _ rfl
theorem windowCopyDone : Statement (.windowCopyDone) := statement_none _ rfl
theorem logClear : Statement (.logClear) := statement_none _ rfl
theorem clearCheckDone : Statement (.clearCheckDone) := statement_none _ rfl
theorem identityRead : Statement (.identityRead) := statement_none _ rfl
theorem temperatureRead : Statement (.temperatureRead) := statement_none _ rfl
theorem stateRead : Statement (.stateRead) := statement_none _ rfl
theorem causeRead : Statement (.causeRead) := statement_none _ rfl
theorem smbusCursorSet (word) : Statement (.smbusCursorSet word) := statement_none _ rfl
theorem smbusBlockRead : Statement (.smbusBlockRead) := statement_none _ rfl
theorem seqLowRead : Statement (.seqLowRead) := statement_none _ rfl
theorem seqHighRead : Statement (.seqHighRead) := statement_none _ rfl
theorem powerOnReset : Statement (.powerOnReset) := statement_none _ rfl
theorem resetN : Statement (.resetN) := statement_none _ rfl
theorem resetNRise (boot clk) : Statement (.resetNRise boot clk) := statement_none _ rfl
theorem perstN : Statement (.perstN) := statement_none _ rfl
theorem perstNRise : Statement (.perstNRise) := statement_none _ rfl
theorem releaseStepDone (step boot clk repairs unrepaired) : Statement (.releaseStepDone step boot clk repairs unrepaired) := statement_none _ rfl
theorem thermalTrip (sensor) : Statement (.thermalTrip sensor) := statement_none _ rfl
theorem thermalClear : Statement (.thermalClear) := statement_none _ rfl
theorem rstBlockReq (data) : Statement (.rstBlockReq data) := statement_none _ rfl
theorem blockIdle (block) : Statement (.blockIdle block) := statement_none _ rfl
theorem quiesceTimeout (block) : Statement (.quiesceTimeout block) := statement_none _ rfl
theorem blockResetElapsed (block) : Statement (.blockResetElapsed block) := statement_none _ rfl
theorem blockClockGood (block) : Statement (.blockClockGood block) := statement_none _ rfl
theorem blockClockTimeout (block) : Statement (.blockClockTimeout block) := statement_none _ rfl
theorem powerRequest (data) : Statement (.powerRequest data) := statement_none _ rfl
theorem powerTransitionDone : Statement (.powerTransitionDone) := statement_none _ rfl
theorem standbyDrainTimeout : Statement (.standbyDrainTimeout) := statement_none _ rfl
theorem acquisitionStop (label) : Statement (.acquisitionStop label) := statement_none _ rfl
theorem acquisitionResume (label) : Statement (.acquisitionResume label) := statement_none _ rfl
theorem wake (source) : Statement (.wake source) := statement_none _ rfl
theorem provision (how) : Statement (.provision how) := statement_none _ rfl
theorem programSlot (ok) : Statement (.programSlot ok) := statement_none _ rfl
theorem secure (how) : Statement (.secure how) := statement_none _ rfl
theorem revokeSlot (ok) : Statement (.revokeSlot ok) := statement_none _ rfl
theorem returnLcs (how) : Statement (.returnLcs how) := statement_none _ rfl
theorem scrap (how) : Statement (.scrap how) := statement_none _ rfl
theorem raiseSvn (ok) : Statement (.raiseSvn ok) := statement_none _ rfl
theorem transitionResume : Statement (.transitionResume) := statement_none _ rfl
theorem trngFail : Statement (.trngFail) := statement_none _ rfl
theorem idReady : Statement (.idReady) := statement_none _ rfl
theorem extend : Statement (.extend) := statement_none _ rfl
theorem attest : Statement (.attest) := statement_none _ rfl
theorem reportBuilt : Statement (.reportBuilt) := statement_none _ rfl
theorem bypass : Statement (.bypass) := statement_none _ rfl
theorem idcode : Statement (.idcode) := statement_none _ rfl
theorem samplePreload : Statement (.samplePreload) := statement_none _ rfl
theorem extest : Statement (.extest) := statement_none _ rfl
theorem extestPulse : Statement (.extestPulse) := statement_none _ rfl
theorem extestTrain : Statement (.extestTrain) := statement_none _ rfl
theorem clamp : Statement (.clamp) := statement_none _ rfl
theorem highz : Statement (.highz) := statement_none _ rfl
theorem intscan : Statement (.intscan) := statement_none _ rfl
theorem repair : Statement (.repair) := statement_none _ rfl
theorem bstGo (data) : Statement (.bstGo data) := statement_none _ rfl
theorem bstTestEnd (test end_) : Statement (.bstTestEnd test end_) := statement_none _ rfl
theorem bstAbort (data) : Statement (.bstAbort data) := statement_none _ rfl
theorem fuseSram (data) : Statement (.fuseSram data) := statement_none _ rfl
theorem fuseTether (data) : Statement (.fuseTether data) := statement_none _ rfl
theorem repairBurnDone (ok) : Statement (.repairBurnDone ok) := statement_none _ rfl
theorem patrolSlice : Statement (.patrolSlice) := statement_none _ rfl
theorem patrolSliceDone (complete ok repairs unrepaired) : Statement (.patrolSliceDone complete ok repairs unrepaired) := statement_none _ rfl
theorem swEvent (mask) : Statement (.swEvent mask) := statement_none _ rfl
theorem gpioEdge (pin) : Statement (.gpioEdge pin) := statement_none _ rfl
theorem eventOccurrence (which) : Statement (.eventOccurrence which) := statement_none _ rfl
theorem pendClear (w data) : Statement (.pendClear w data) := statement_none _ rfl
theorem clrCnt : Statement (.clrCnt) := statement_none _ rfl
theorem cntClear (which) : Statement (.cntClear which) := statement_none _ rfl
theorem minGapExpiry (v) : Statement (.minGapExpiry v) := statement_none _ rfl
theorem msixUnmask (v) : Statement (.msixUnmask v) := statement_none _ rfl
theorem msixEnable (enable funcMask) : Statement (.msixEnable enable funcMask) := statement_none _ rfl
theorem gpioPulseEnd (pin) : Statement (.gpioPulseEnd pin) := statement_none _ rfl
theorem registerRead (addr len) : Statement (.registerRead addr len) := statement_none _ rfl
theorem bar2Write (by_ offset data) : Statement (.bar2Write by_ offset data) := statement_none _ rfl
theorem returnToD0 : Statement (.returnToD0) := statement_none _ rfl
theorem pwrWarnRise : Statement (.pwrWarnRise) := statement_none _ rfl

end Sys2Proof.Laws.Words
end

