-- ==== Sys2Proof/Safety.lean ====
section
/-! DEFINITION. What a safe run is: every step answers a next state, and the lists that stand for memories and registers stay
in their canonical form. -/

namespace Sys2Proof
open Machine

/-- The canonical forms of a state: registers, on-chip SRAM, acquisition memory and every buffer and flash image the spec
gives the block (log entry 5). -/
def Canonical (s : State) : Prop :=
  Regs.wf s.regs = true ∧ Mem.wf s.sram = true ∧ Mem.wf s.amem = true ∧ Mem.wf s.log.live = true ∧
  Mem.wf s.log.staging = true ∧ (∀ x ∈ s.log.slots, Mem.wf x.2 = true) ∧ Mem.wf s.log.win = true ∧
  Mem.wf s.log.smbBuf = true ∧ Mem.wf s.log.cmd = true ∧ Mem.wf s.lcs.cmdBuf = true ∧ Mem.wf s.lcs.report = true

/-- A state from which the next step goes on. -/
def GoesOn (s : State) : Prop := ∃ t, step s = .next t

/-- A run of `k` steps that never stops. -/
def SafeFor : Nat → State → Prop
  | 0, _ => True
  | k + 1, s => ∃ t, step s = .next t ∧ SafeFor k t

/-! ### Words the statements are said in -/

/-- `exec` answers a next state of which `P` holds. -/
def Does (s : State) (i : Instr) (P : State → Prop) : Prop := ∃ t, exec i s = .next t ∧ P t

/-- An instruction of core `c`: it answers a next state; `P` holds of that state when the core executes instructions (running,
and held in none), and nothing changes when it does not, but that a restarting core has started when it comes to one (R82). -/
def CoreDoes (s : State) (c : Fin 17) (i : Instr) (P : State → Prop) : Prop :=
  ∃ t, exec i s = .next t ∧ (s.coreRuns c = true → P t) ∧
    (s.coreRuns c = false →
      if isKeeper c = false ∧ s.coreState c = 3 then exec i (s.startRestarted c) = .next t else t = s)

/-- The converter at the first lamp block start at or after the sample labelled `t`. -/
def Machine.State.atBlock (s : State) (t : Long) : State :=
  (s.advanceTo t).advanceSamples (blockUp ((s.advanceTo t).sampleOf t))

/-- What an instruction of core `c` that stores nothing leaves as it is: the other cores, every memory, the streams, the
timeline and the Keeper's own state; and every register unless a halt waits for this instruction's end. -/
def RestKept (s t : State) (c : Fin 17) : Prop :=
  (∀ d : Fin 17, d ≠ c → t.cores[d] = s.cores[d]) ∧ t.sram = s.sram ∧ t.amem = s.amem ∧ t.streams = s.streams ∧
  t.tl = s.tl ∧ t.keeper = s.keeper ∧ t.pending = s.pending ∧
  (isKeeper c = true ∨ s.on (haltBit c) = false → t.regs = s.regs)

/-- The instruction of `n` bytes is over and, where the next address may be fetched, core `c` stands there and is `k` but for
its PC; nothing else changed. -/
def FellThrough (s t : State) (c : Fin 17) (n : Nat) (k : Core) : Prop :=
  fetchOk c (s.pcOf c + BitVec.ofNat 32 n) = true →
    t.cores[c] = { k with pc := s.pcOf c + BitVec.ofNat 32 n } ∧ RestKept s t c

/-- Core `c` wrote `v` to general register `gd` (a write to g0 is discarded, R58) and kept the others; an instruction of
`n` bytes. -/
def GetsWord (s t : State) (c : Fin 17) (n : Nat) (gd : Fin 16) (v : Word) : Prop :=
  t.g c gd = (if gd = 0 then 0 else v) ∧ (∀ r : Fin 16, r ≠ gd → t.g c r = s.g c r) ∧
  FellThrough s t c n { s.cores[c] with g := (t.cores[c]).g }

/-- As `GetsWord`, with an exact result `x`: clamped (`sat`) or wrapped to 32 bits, and where it does not fit, the sticky bit
SV or OV set (R69). -/
def GetsFit (s t : State) (c : Fin 17) (sat : Bool) (gd : Fin 16) (x : Int) : Prop :=
  t.g c gd = (if gd = 0 then 0 else
    if sat = true then BitVec.ofInt 32 (max (-(2 ^ 31)) (min x (2 ^ 31 - 1))) else BitVec.ofInt 32 x) ∧
  (∀ r : Fin 16, r ≠ gd → t.g c r = s.g c r) ∧
  (t.cores[c]).cst.getLsbD 0 = ((s.cores[c]).cst.getLsbD 0 || (!sat && !(decide (-(2 ^ 31) ≤ x) && decide (x < 2 ^ 31)))) ∧
  (t.cores[c]).cst.getLsbD 1 = ((s.cores[c]).cst.getLsbD 1 || (sat && !(decide (-(2 ^ 31) ≤ x) && decide (x < 2 ^ 31)))) ∧
  FellThrough s t c 4 { s.cores[c] with g := (t.cores[c]).g, cst := (t.cores[c]).cst }

/-- The instruction raised the fault or trap of `w` at `addr` (R81, R83): its code and address are recorded, a Beacon core
stops, and no general or vector register is written.  The Keeper goes to its handler with the PC and the loop stack saved
(R104); in the handler, or with a trap vector that it may not fetch, it restarts. -/
def Faults (s t : State) (c : Fin 17) (w : CoreFault) (addr : Word) : Prop :=
  (if isKeeper c = true then
     (if (s.cores[c]).trapOn = false ∧ fetchOk c (s.cores[c]).trapPc = false then
        t.f F.KPR_TRAP_CODE = 2 ∧ t.reg A.KPR_TRAP_ADDR = (s.cores[c]).trapPc
      else t.f F.KPR_TRAP_CODE = w.keeper ∧ t.reg A.KPR_TRAP_ADDR = addr) ∧
     ((s.cores[c]).trapOn = false → fetchOk c (s.cores[c]).trapPc = true →
        t.pcOf c = (s.cores[c]).trapPc ∧ (t.cores[c]).epc = s.pcOf c ∧ (t.cores[c]).shadow = (s.cores[c]).loops ∧
        (t.cores[c]).loops = [])
   else t.f (bcnState c) = 2 ∧ t.f (F.BCN_n_FAULT_CODE c) = w.beacon ∧ t.reg (A.BCN_n_FAULT_ADDR c) = addr ∧
     t.reg (A.BCN_n_PC c) = s.pcOf c) ∧
  (t.cores[c]).g = (s.cores[c]).g ∧ (t.cores[c]).v = (s.cores[c]).v ∧ (t.cores[c]).acc = (s.cores[c]).acc

/-- The instruction raised ILLEGAL at its own address. -/
def Illegal (s t : State) (c : Fin 17) : Prop := Faults s t c .illegal (s.pcOf c)

/-- Control of core `c` went to `target`, where that address may be fetched; its general registers are as in `k`. -/
def GoesTo (s t : State) (c : Fin 17) (target : Word) (k : Core) : Prop :=
  (t.cores[c]).g = k.g ∧ (fetchOk c target = true → t.pcOf c = target ∧ RestKept s t c)

/-- Core `c` wrote vector register `vd`, kept the others and every accumulator, and set OV or SV where a lane did not fit. -/
def GetsVec (s t : State) (c : Fin 17) (sat : Bool) (vd : Fin 32) (r : VRes) : Prop :=
  t.vec c vd = r.1 ∧ (∀ x : Fin 32, x ≠ vd → t.vec c x = s.vec c x) ∧ (t.cores[c]).acc = (s.cores[c]).acc ∧
  (t.cores[c]).g = (s.cores[c]).g ∧
  (t.cores[c]).cst.getLsbD 0 = ((s.cores[c]).cst.getLsbD 0 || (r.2 && !sat)) ∧
  (t.cores[c]).cst.getLsbD 1 = ((s.cores[c]).cst.getLsbD 1 || (r.2 && sat)) ∧
  FellThrough s t c 4 { s.cores[c] with v := (t.cores[c]).v, cst := (t.cores[c]).cst }

/-- Core `c` wrote accumulator `an`, kept the others and every vector register. -/
def GetsAcc (s t : State) (c : Fin 17) (an : Fin 4) (xs : List (BitVec 40)) : Prop :=
  (t.cores[c]).acc[an] = fromLanes 40 640 xs ∧ (∀ x : Fin 4, x ≠ an → (t.cores[c]).acc[x] = (s.cores[c]).acc[x]) ∧
  (t.cores[c]).v = (s.cores[c]).v ∧ (t.cores[c]).g = (s.cores[c]).g

/-- The 32 bytes of coefficient memory that the third operand of core `c` names (R63). -/
def Machine.State.coef (s : State) (c : Fin 17) : BitVec 256 :=
  BitVec.ofNat 256 (Mem.readLE s.sram (0x2000000 + ((s.cores[c]).ap[7]).toNat) 32)

/-- Core `c` added the products to accumulator `an`, or subtracted them (`neg`), from zero (`zero`) or from its value: each sum
clamped or wrapped to 40 bits, and where one did not fit, SV or OV set (R69, R107). -/
def AccumulatesIn (s t : State) (c : Fin 17) (sat : Bool) (an : Fin 4) (zero neg : Bool) (prods : List Int) : Prop :=
  (let sums := List.zipWith (fun (o p : Int) => if neg then o - p else o + p)
     (if zero then List.replicate 16 0 else accLanes (s.cores[c]).acc[an]) prods
   GetsAcc s t c an (sums.map (fitS sat 40)) ∧
   (t.cores[c]).cst.getLsbD 0 = ((s.cores[c]).cst.getLsbD 0 || (!sat && sums.any fun x => !fits 40 x)) ∧
   (t.cores[c]).cst.getLsbD 1 = ((s.cores[c]).cst.getLsbD 1 || (sat && sums.any fun x => !fits 40 x)))

/-- Pointer `x` of core `c` after a single access of `size` bytes: mode 1 moves it by its increment, mode 2 by `size` times the
offset, both in its ring; other modes and the other pointers keep their value (R67, R111). -/
def PointerMoved (s t : State) (c : Fin 17) (x : Fin 8) (mode : BitVec 3) (off : BitVec 12) (size : Nat) : Prop :=
  (t.cores[c]).ap[x] =
    (if mode = 1 then ringStep ((s.cores[c]).ap[x]) ((s.cores[c]).inc[x]) ((s.cores[c]).rs[x]) ((s.cores[c]).rz[x])
     else if mode = 2 then
       ringStep ((s.cores[c]).ap[x]) (BitVec.ofInt 32 (off.toInt * size)) ((s.cores[c]).rs[x]) ((s.cores[c]).rz[x])
     else (s.cores[c]).ap[x]) ∧
  ∀ y : Fin 8, y ≠ x → (t.cores[c]).ap[y] = (s.cores[c]).ap[y]

/-- The address of a single access: the pointer, plus in mode 3 `size` times the offset (R111). -/
def accessAddr (s : State) (c : Fin 17) (x : Fin 8) (mode : BitVec 3) (off : BitVec 12) (size : Nat) : Word :=
  if mode = 3 then (s.cores[c]).ap[x] + BitVec.ofInt 32 (off.toInt * size) else (s.cores[c]).ap[x]

/-- On-chip SRAM holds `bs` from `a` on, and every other byte of it reads as before. -/
def Stored (s t : State) (a : Nat) (bs : List Byte) : Prop :=
  (Mem.wf s.sram = true → Mem.readN t.sram a bs.length = bs) ∧
  ∀ b, b < a ∨ a + bs.length ≤ b → Mem.read t.sram b = Mem.read s.sram b

/-- Every register but `a` is as before. -/
def OnlyReg (s t : State) (a : Nat) : Prop := ∀ b, b ≠ a → t.reg b = s.reg b

/-- The entry that the element labelled `at_`, at which the converter stands, takes on unit `u`, with the bytes of its table load
and the state it acts on: a selector that the command speaks of, its target reached, the unit not stopped, its load copied
and within its table (R129 to R136).  As TL.* makes entries, one of a table selector has a load and no other has (R126). -/
def TakesHere (s : State) (u : Fin 15) (sel : Nat → Bool) (at_ : Long) (e : Entry) (tab : List Byte) (s2 : State)
    (stage : Nat) : Prop :=
  ∃ a b, s.nextEntry u stage = some (a, e, b) ∧ s.takesEntry u sel at_ e = true ∧
    s.loaded e = true ∧ tab = (match s.loadOf e with
      | some l => l.shadow
      | none => []) ∧
    (e.table.isSome = true → tab.length ≤ tableSize u e.sel) ∧ (e.table.isSome = true ↔ 0x10000 ≤ e.sel) ∧
    s2 = (s.finishEntry u a e b).dropLoad e

/-- As `TakesHere` once the converter has come to the sample labelled `at_`. -/
def Takes (s : State) (u : Fin 15) (sel : Nat → Bool) (at_ : Long) (e : Entry) (tab : List Byte) (s2 : State)
    (stage : Nat := 0) : Prop :=
  TakesHere (s.advanceTo at_) u sel at_ e tab s2 stage

/-- No entry of unit `u` that the command speaks of is ready at the element labelled `at_`, at which the converter stands, or the
unit is stopped. -/
def WaitsHere (s : State) (u : Fin 15) (sel : Nat → Bool) (at_ : Long) (stage : Nat) : Prop :=
  ∀ a e b, s.nextEntry u stage = some (a, e, b) → s.takesEntry u sel at_ e = false

/-- As `WaitsHere` once the converter has come to the sample labelled `at_`. -/
def Waits (s : State) (u : Fin 15) (sel : Nat → Bool) (at_ : Long) (stage : Nat := 0) : Prop :=
  WaitsHere (s.advanceTo at_) u sel at_ stage

/-- `REFUSED` of unit `u` counts one more. -/
def CountsRefusal (s t : State) (u : Fin 15) : Prop :=
  t.f (F.KPR_TLQ_u_ERRS_REFUSED u) = min (s.f (F.KPR_TLQ_u_ERRS_REFUSED u) + 1) (2 ^ (F.KPR_TLQ_u_ERRS_REFUSED u).width - 1)

/-- The command `i` answers a next state: the same one while no entry waits for it; where it takes an entry whose operand is
good, `P` holds; an entry whose operand is not good is refused, which `REFUSED` counts (R129 to R133). -/
def EntryActs (s : State) (u : Fin 15) (sel : Nat → Bool) (at_ : Long) (i : Instr) (good : Entry → List Byte → State → Prop)
    (P : Entry → List Byte → State → State → Prop) (stage : Nat := 0) : Prop :=
  ∃ t, exec i s = .next t ∧ (Waits s u sel at_ stage → t = s) ∧
    ∀ e tab s2, Takes s u sel at_ e tab s2 stage →
      (good e tab s2 → P e tab s2 t) ∧ (¬ good e tab s2 → CountsRefusal s2 t u)

/-- As `EntryActs` for selector `sel` of unit 8, once the measurements have taken every edge stamped before the element: while a
measurement is open the entry waits for its end and nothing else happens (R298). -/
def IntervalEntryActs (s : State) (sel : Nat) (at_ : Long) (i : Instr) (good : Entry → List Byte → State → Prop)
    (P : Entry → List Byte → State → State → Prop) : Prop :=
  let u := (s.advanceTo at_).ivuFlush (1024 * (s.advanceTo at_).sampleOf at_)
  ∃ t, exec i s = .next t ∧
    (u.ivu.meas.isSome = true → t = { u with ivu := { u.ivu with waits := u.ivu.waits ++ [(sel, at_)] } }) ∧
    (u.ivu.meas = none → (WaitsHere u 8 (fun x => x = sel) at_ sel → t = u) ∧
      ∀ e tab s2, TakesHere u 8 (fun x => x = sel) at_ e tab s2 sel →
        (good e tab s2 → P e tab s2 t) ∧ (¬ good e tab s2 → CountsRefusal s2 t 8))

/-- As `EntryActs` for unit 6 where its entries wait until every earlier label has been examined (R282). -/
def SecActs (s : State) (sel : Nat → Bool) (at_ : Long) (i : Instr) (good : Entry → List Byte → State → Prop)
    (P : Entry → List Byte → State → State → Prop) : Prop :=
  ((s.pipeRuns && s.secReached (s.sampleOf at_)) = true → EntryActs s 6 sel at_ i good P 0x20) ∧
  ((s.pipeRuns && s.secReached (s.sampleOf at_)) = false → exec i s = .next s)

/-! ### Which commands reach which unit -/

/-- No output is held for its time and no synchronising reset waits, so that moving time on is counting alone (R40, R50). -/
def Quiet (s : State) : Prop := s.held = [] ∧ s.time.waiting = []

/-- Does the command reach other units through a register write or a reset (R421, R424, R427, R435)? -/
def resetting : Instr → Bool
  | .registerWrite .. | .st .. | .powerOnReset .. | .resetN .. | .perstN .. | .thermalTrip .. | .blockIdle ..
  | .quiesceTimeout .. | .blockResetElapsed .. | .provision .. | .programSlot .. | .secure .. | .revokeSlot ..
  | .returnLcs .. | .scrap .. | .raiseSvn .. | .bstGo .. | .bstAbort .. => true
  | _ => false

/-- May the command change the Gauge? -/
def gaugeCommand : Instr → Bool
  | .scanMask .. | .urgent .. | .conversionDone .. | .urgentRequest .. | .snapLatch .. | .snapClear .. | .testCtrlWrite ..
  | .releaseStepDone .. | .blockClockGood .. | .powerTransitionDone .. => true
  | _ => false

/-- May the command change an NVMe queue pair? -/
def nvmeCommand : Instr → Bool
  | .hotReset .. | .nvqCfgWrite .. | .nvqKick .. | .completionPoll .. | .nvmeCompletion .. | .stripeWrite ..
  | .stripePartialTimeout .. | .bar4Read .. => true
  | _ => false

/-- May the command change the interval unit, time apart? -/
def intervalCommand : Instr → Bool
  | .startSrc .. | .stopMask .. | .gateCtrl .. | .statN .. | .calCtrl .. | .trigInEdge .. | .coarseOverflow ..
  | .gateOpen .. | .gateClose .. | .twoPeriodCalibration .. | .codeDensityTable .. | .roleChange .. | .acquisitionStop .. => true
  | _ => false

/-- May the command change a filter chain, time apart? -/
def filterCommand : Instr → Bool
  | .ncoFreq .. | .ncoPhase .. | .decK .. | .spanMode .. | .rankCtrl .. | .thrHigh .. | .thrLow .. | .outCtrl ..
  | .resync .. | .forwardFrame .. | .trainingPhaseDone .. | .filterOutput .. | .sectorLabel .. | .stepTimeout ..
  | .autoTrigger .. | .acquisitionResume .. => true
  | _ => false

/-- May the command change a Glow channel? -/
def glowCommand : Instr → Bool
  | .geom .. | .integ .. | .persist .. | .snapCtrl .. | .lut .. | .glowUpdate .. | .snapshotComplete ..
  | .uncorrectableError .. | .recordRelease .. | .blockClockGood .. => true
  | _ => false

/-- May the command change the settings Glow keeps? -/
def glowSetCommand : Instr → Bool
  | .geom .. | .integ .. | .persist .. | .snapCtrl .. | .lut .. => true
  | _ => false

/-- May the command change a Lens engine? -/
def lensCommand : Instr → Bool
  | .enable .. | .fftLog2n .. | .window .. | .kaiserBeta .. | .hopDiv .. | .detMode .. | .detCount .. | .binFirst ..
  | .binLast .. | .format .. | .userWindow .. | .filterOutput .. | .lensFrame .. => true
  | _ => false

/-- May the command change the spectra on their way to Glow? -/
def spectrumCommand : Instr → Bool
  | .lensFrame .. | .glowUpdate .. => true
  | _ => false

/-- May the command change the capture writer of a channel? -/
def captureCommand : Instr → Bool
  | .arm .. | .disarm .. | .cap .. | .ring .. | .filterOutput .. | .segmentEnd .. | .captureFifoIntake .. | .captureWrite ..
  | .blockClockGood .. | .acquisitionStop .. => true
  | _ => false

/-- May the command change the calibration of a channel? -/
def calCommand : Instr → Bool
  | .freeze .. | .rotate .. | .swapSched .. | .tripFire .. | .overloadEpisodeEnd .. | .swapGridPoint ..
  | .deferredSwapPerform .. | .checkWindowStart .. | .checkWindowEnd .. | .trimSetApplied .. | .trigInEdge ..
  | .twoPeriodCalibration .. | .hotReset .. | .releaseStepDone .. | .blockClockGood .. | .acquisitionStop .. => true
  | _ => false

/-- May the command change the trim load? -/
def trimCommand : Instr → Bool
  | .factoryTrimReadDone .. | .userTrimReadDone .. | .trimSetApplied .. | .hotReset .. | .releaseStepDone ..
  | .blockClockGood .. => true
  | _ => false

/-- May the command change a DMA channel? -/
def dmaCommand : Instr → Bool
  | .keeperRestartDone .. | .imageLoadDone .. | .factoryTrimReadDone .. | .towerClkLoss .. | .forwardFrame ..
  | .clockLaneFail .. | .returnFrame .. | .returnLinkTimeout .. | .trainingPhaseDone .. | .uncorrectableError ..
  | .hotReset .. | .dmaStart .. | .descriptorFinish .. | .dmaResume .. | .dmaFlush .. | .dmaStopForced ..
  | .powerTransitionDone .. | .acquisitionStop .. => true
  | _ => false

/-- May the command change the Sector unit, time apart? -/
def sectorCommand : Instr → Bool
  | .rangeSyncEdge .. | .maskCtrl .. | .mask .. | .progCtrl .. | .prog .. | .holdoff .. | .auto .. | .arm .. | .disarm ..
  | .resync .. | .xtrigCtrl .. | .forwardFrame .. | .trainingPhaseDone .. | .filterOutput .. | .lensFrame ..
  | .sectorEvent .. | .sectorLabel .. | .stepTimeout .. | .autoTrigger .. | .segmentEnd .. | .xtrigEdge ..
  | .xtrigPulseStart .. | .xtrigPulseEnd .. | .trigInEdge .. | .glowUpdate .. | .captureWrite .. | .acquisitionResume .. => true
  | _ => false

/-- May the command change the tower side of a trigger pin? -/
def pinCommand : Instr → Bool
  | .arm .. | .disarm .. | .trigoutSrc .. | .trigoutPulseStart .. | .trigoutPulseEnd .. | .sectorLabel .. | .stepTimeout ..
  | .autoTrigger .. | .segmentEnd .. => true
  | _ => false

/-- May the command change a channel of the lamp die? -/
def lampCommand : Instr → Bool
  | .ld .. | .atten .. | .preamp .. | .ftThr .. | .ftCtrl .. | .freeze .. | .rotate .. | .frontEndStepEnd ..
  | .thresholdHoldEnd .. | .comparatorTransition .. | .ovrFire .. | .tripFire .. | .ovrMarkEnd .. | .overloadEpisodeEnd ..
  | .peakClear .. | .swapGridPoint .. | .deferredSwapPerform .. | .trimSetApplied .. | .scRetune .. | .scLock ..
  | .scLoss .. | .sclkInLoss .. | .forwardFrame .. | .trainingPhaseDone .. | .hotReset .. | .releaseStepDone ..
  | .blockClockGood .. | .registerRead .. => true
  | _ => false

/-- May the command change the clock unit? -/
def clockCommand : Instr → Bool
  | .clkNotReady .. | .refinWindowEnd .. | .holdoverLock .. | .backupClockLock .. | .towerSynthLock .. | .scApply ..
  | .scRetune .. | .scLock .. | .scLoss .. | .sclkInLoss .. | .memClkRelock .. | .panelClkRelock .. | .spreadChange ..
  | .sectorLabel .. | .stepTimeout .. | .autoTrigger .. | .trigInEdge .. | .amcApply .. | .selfRefreshExit ..
  | .bar5Access .. | .hotReset .. | .d3hot .. | .panelEnable .. | .panelDisable .. | .panelLinkUp .. | .full ..
  | .hostRowRead .. | .pushDone .. | .releaseStepDone .. | .rstBlockReq .. | .blockClockGood .. | .blockClockTimeout ..
  | .powerRequest .. | .powerTransitionDone .. | .wake .. | .bstTestEnd .. | .returnToD0 .. => true
  | _ => false

/-- May the command change the Tether, time apart? -/
def tetherCommand : Instr → Bool
  | .imageLoadDone .. | .ld .. | .tlSet .. | .tlSetr .. | .tlLoad .. | .tlStallEnd .. | .resync .. | .forwardFrame ..
  | .laneSwitch .. | .clockLaneFail .. | .returnFrame .. | .returnResend .. | .returnLinkTimeout .. | .retrain ..
  | .trainingPhaseDone .. | .d3hot .. | .releaseStepDone .. | .blockClockGood .. | .powerRequest ..
  | .powerTransitionDone .. | .acquisitionResume .. | .wake .. | .registerRead .. | .returnToD0 .. => true
  | _ => false

/-- May the command change the panel engine? -/
def panelCommand : Instr → Bool
  | .clkNotReady .. | .keeperRestartDone .. | .imageLoadDone .. | .ld .. | .factoryTrimReadDone .. | .towerClkLoss ..
  | .panelClkLoss .. | .panelClkRelock .. | .forwardFrame .. | .clockLaneFail .. | .returnFrame .. | .returnLinkTimeout ..
  | .trainingPhaseDone .. | .snapshotComplete .. | .hotReset .. | .d3hot .. | .panelEnable .. | .panelDisable ..
  | .panelLinkUp .. | .full .. | .dcsSend .. | .teEdge .. | .frameTimer .. | .commitGo .. | .commitHost .. | .hostRowRead ..
  | .pushDone .. | .releaseStepDone .. | .rstBlockReq .. | .blockClockGood .. | .blockClockTimeout .. | .powerRequest ..
  | .powerTransitionDone .. | .wake .. | .bstTestEnd .. | .registerRead .. | .returnToD0 .. => true
  | _ => false

/-- May the command change the acquisition memory controller? -/
def memoryCommand : Instr → Bool
  | .keeperRestartDone .. | .imageLoadDone .. | .factoryTrimReadDone .. | .towerClkLoss .. | .memClkLoss ..
  | .memClkRelock .. | .forwardFrame .. | .clockLaneFail .. | .returnFrame .. | .returnLinkTimeout ..
  | .trainingPhaseDone .. | .filterOutput .. | .amcApply .. | .initialTrainingDone .. | .dimmTempCheck .. | .tempRetrain ..
  | .fullRetrainDone .. | .alertN .. | .slotFrame .. | .captureFifoIntake .. | .captureWrite .. | .selfRefreshEnter ..
  | .selfRefreshExit .. | .selfRefreshExitDone .. | .bar5Access .. | .d3hot .. | .releaseStepDone .. | .blockClockGood ..
  | .powerRequest .. | .powerTransitionDone .. | .wake .. | .returnToD0 .. => true
  | _ => false

/-- May the command change the dispatch unit, time apart? -/
def dispatchCommand : Instr → Bool
  | .queueEntryWrite .. | .imageLoadDone .. | .bind .. | .cpage .. | .filterOutput .. | .lensFrame .. | .sectorLabel ..
  | .stepTimeout .. | .autoTrigger .. => true
  | _ => false

/-- May the command change the life-cycle engine? -/
def lifeCommand : Instr → Bool
  | .keeperRestartDone .. | .loadGo .. | .imageLoadDone .. | .factoryTrimReadDone .. | .towerClkLoss .. | .forwardFrame ..
  | .clockLaneFail .. | .returnFrame .. | .returnLinkTimeout .. | .trainingPhaseDone .. | .perstNRise ..
  | .releaseStepDone .. | .transitionResume .. | .extend .. | .attest .. | .reportBuilt .. => true
  | _ => false

/-- May the command change self-test? -/
def selfTestCommand : Instr → Bool
  | .keeperRestartDone .. | .imageLoadDone .. | .factoryTrimReadDone .. | .towerClkLoss .. | .forwardFrame ..
  | .clockLaneFail .. | .returnFrame .. | .returnLinkTimeout .. | .trainingPhaseDone .. | .resetNRise .. | .bypass ..
  | .idcode .. | .samplePreload .. | .extest .. | .extestPulse .. | .extestTrain .. | .clamp .. | .highz .. | .intscan ..
  | .repair .. | .bstTestEnd .. | .fuseSram .. | .fuseTether .. | .repairBurnDone .. => true
  | _ => false

/-- May the command change acquisition memory? -/
def storesAcquired : Instr → Bool
  | .keeperRestartDone .. | .imageLoadDone .. | .factoryTrimReadDone .. | .towerClkLoss .. | .forwardFrame ..
  | .clockLaneFail .. | .returnFrame .. | .returnLinkTimeout .. | .trainingPhaseDone .. | .snapshotComplete ..
  | .initialTrainingDone .. | .fullRetrainDone .. | .captureWrite .. | .selfRefreshExitDone .. | .bar5Access ..
  | .descriptorFinish .. | .dmaStopForced .. | .acquisitionStop .. => true
  | _ => false

end Sys2Proof
end

