-- ==== Sys2Proof/Certificates/Slice0/Obligations.lean ====
section
/-! DEFINITION. The statements about the block.  Each docstring names the rules of the spec it rests on. -/

open Sys2Proof Sys2Proof.Machine


/-- R44 to R49, R54 to R56: anchors, Range registers and the tick wrap. -/
def Obligations.TimelineCommandsAct : Prop :=
  (∀ s : State, Quiet s → ∃ t, exec .tickWrap s = .next t ∧ t.time.tick = 0 ∧
    t.time.samples = s.time.samples + (2 ^ 64 - s.time.tick.toNat) ∧
    ∀ k : Fin 64, s.strState k = 2 → t.pair (A.STR_s_SEQ_LO k) = (s.pair (A.STR_s_SEQ_LO k) + 1) % 2 ^ 48) ∧
  (∀ s : State, ∃ t, exec .anchorCommit s = .next t ∧ t.f F.STR_ANCHOR_STATUS_ERR = s.anchorErr ∧
    t.f F.STR_ANCHOR_STATUS_INDEX = (if s.anchorErr ≠ 0 then s.f F.STR_ANCHOR_STATUS_INDEX
      else if s.f F.STR_ANCHOR_STATUS_INDEX = 65535 then 1 else s.f F.STR_ANCHOR_STATUS_INDEX + 1) ∧
    (s.anchorErr = 0 → t.on F.STR_ANCHOR_STATUS_BUSY = true ∧ t.time.anchorPrev = some
      { tai := s.pair A.STR_ANCHOR_TAI_LO, tick := s.pair A.STR_ANCHOR_TICK_LO, frac := s.f F.STR_ANCHOR_FRAC_FRAC,
        rate := s.clk.rate })) ∧
  (∀ s : State, ∃ t, exec .anchorRecordsEmitted s = .next t ∧ t.on F.STR_ANCHOR_STATUS_BUSY = false) ∧
  (∀ s : State, ∃ t, exec .rangeArm s = .next t ∧ t.on F.SEC_RANGE_CTRL_ARM = true ∧
    ∀ a, a ≠ A.SEC_RANGE_CTRL → t.reg a = s.reg a) ∧
  (∀ s : State, ∃ t, exec .rangeDisarm s = .next t ∧ t.on F.SEC_RANGE_CTRL_ARM = false ∧
    ∀ a, a ≠ A.SEC_RANGE_CTRL → t.reg a = s.reg a) ∧
  (∀ (s : State) (v : BitVec 64), ∃ t, exec (.rangeLoadWrite v) s = .next t ∧
    t.pair A.SEC_RANGE_LOAD_LO = (if s.on F.SEC_RANGE_CTRL_ARM then s.pair A.SEC_RANGE_LOAD_LO else v.toNat) ∧
    (s.on F.SEC_RANGE_CTRL_ARM = true → t.on F.SEC_RANGE_STATUS_WR_ARMED = true)) ∧
  (∀ s : State, ∃ t, exec .syncOutPulseEnd s = .next t ∧ t.pins.syncOut = false) ∧
  (∀ (s : State) (edge : BitVec 64) (frac : BitVec 10), ∃ t, exec (.rangeSyncEdge edge frac) s = .next t ∧
    t.time.waiting = (s.advanceTo edge).time.waiting ++
      (if (s.advanceTo edge).on F.CLK_STATUS_SC_LOCKED && (s.advanceTo edge).on F.SEC_RANGE_CTRL_ARM &&
          ((s.advanceTo edge).on F.SEC_RANGE_CTRL_MODE || (s.advanceTo edge).time.waiting.all fun x => !x.pulse) then
        [{ pulse := true, value := 0, at_ := (s.advanceTo edge).sampleOf edge + 2048 + bit (frac != 0),
           edge := some (1024 * (s.advanceTo edge).sampleOf edge + frac.toNat) }] else []) ∧
    ((s.advanceTo edge).on F.CLK_STATUS_SC_LOCKED = false → t.on F.SEC_RANGE_STATUS_NOLOCK = true)) ∧
  (∀ (s : State) (m : Nat), s.held = [] → firstSync s.time.samples (2 ^ 64) (s.time.waiting.filter fun x => x.at_ % 64 = 0) = some m →
    ∃ t, exec .syncDeferred s = .next t ∧ t.time.samples = m)

/-- R20, R22, R188 to R191, R197: references, starting and spread. -/
def Obligations.ReferencesAndSynthesisersAct : Prop :=
  (∀ (s : State) (d : Domain), ∃ t, exec (.domainClockGood d) s = .next t ∧
    if s.domainLocked d = true then t.good = s.good.set d true else t = s) ∧
  (∀ (s : State) (edges : Nat) (seen : ClockInputs) (khz : Nat),
    ∃ t, exec (.refinWindowEnd edges seen khz) s = .next t ∧ t.pins.sclkIn = seen.sclkIn ∧
    t.f F.CLK_REF_STATUS_FREQ = khz % 2 ^ F.CLK_REF_STATUS_FREQ.width ∧
    t.on F.CLK_REF_STATUS_RANGE_ERR = !(decide (9500 ≤ khz) && decide (khz ≤ 525000)) ∧
    t.on F.CLK_STATUS_REF_PRESENT =
      (if 64 ≤ edges ∧ seen.swing = true ∧ 9500 ≤ khz ∧ khz ≤ 525000 then s.on F.CLK_STATUS_REF_PRESENT || decide (3 ≤ s.clk.goodRun)
       else false)) ∧
  (∀ s : State, s.on F.CLK_STATUS_REF_PRESENT = true →
    (s.f F.CLK_SC_STATUS_STATE = 3 → ∃ t, exec (.holdoverLock .sample) s = .next t ∧ t.f F.CLK_SC_STATUS_STATE = 2 ∧
      t.on F.CLK_STATUS_SC_HOLDOVER = false) ∧
    (∃ t, exec (.holdoverLock .tower) s = .next t ∧ t.clk.holdTower = false) ∧
    (∃ t, exec (.holdoverLock .memory) s = .next t ∧ t.clk.holdMem = false) ∧
    (∃ t, exec (.holdoverLock .panel) s = .next t ∧ t.clk.holdPanel = false) ∧
    (∃ t, exec (.holdoverLock .backup) s = .next t ∧ t.clk.holdBackup = false) ∧
    (∃ t, exec .backupClockLock s = .next t ∧ t.clk.holdBackup = false ∧
      t.on F.CLK_STATUS_ON_BACKUP = !s.on F.CLK_STATUS_TOWER_LOCKED)) ∧
  (∀ s : State, ∃ t, exec .clkStart s = .next t ∧
    (if 10000000 ≤ (s.reg A.CLK_REF_NOM).toNat ∧ (s.reg A.CLK_REF_NOM).toNat ≤ 500000000 then
      t.on F.CLK_SYS_CTRL_START = true
     else t.f F.CLK_CFG_ERR_CODE = 1 ∧ t.on F.CLK_SYS_CTRL_START = s.on F.CLK_SYS_CTRL_START)) ∧
  (∀ s : State, s.on F.CLK_SYS_CTRL_START = true → s.on F.CLK_STATUS_REF_PRESENT = true →
    s.good.tclk = true → s.good.kclk = true → s.on F.CLK_STATUS_TOWER_LOCKED = false →
    s.on ⟨A.PWR_FOG_CAUSE, 0, 1⟩ = false → s.pwrState ≠ 2 → s.pwrState ≠ 3 → ∃ t, exec .towerSynthLock s = .next t ∧ t.on F.CLK_STATUS_TOWER_LOCKED = true ∧ t.on F.CLK_STATUS_ON_BACKUP = false) ∧
  (∀ (s : State) (v : Word), ∃ t, exec (.refNomWrite v) s = .next t ∧
    (if s.on F.CLK_SYS_CTRL_START then t.f F.CLK_CFG_ERR_CODE = 7 ∧ t.reg A.CLK_REF_NOM = s.reg A.CLK_REF_NOM
     else t.reg A.CLK_REF_NOM = v)) ∧
  (∀ (s : State) (y : Spread) (v : Word), ∃ t, exec (.spreadWrite y v) s = .next t ∧
    (if spreadOk y v.toNat then t.reg (spreadReg y) &&& 0xFF#32 = v &&& 0xFF#32
     else t.f F.CLK_CFG_ERR_CODE = 9 ∧ t.reg (spreadReg y) = s.reg (spreadReg y))) ∧
  (∀ s : State,
    (∃ t, exec (.spreadChange .tower) s = .next t ∧ t.clk.spreadTower =
      if s.on F.CLK_STATUS_TOWER_LOCKED then s.reg A.CLK_SPREAD_TOWER &&& 0xFF#32 else s.clk.spreadTower) ∧
    (∃ t, exec (.spreadChange .panel) s = .next t ∧ t.clk.spreadPanel =
      if s.on F.CLK_STATUS_PANEL_LOCKED then s.reg A.CLK_SPREAD_PANEL &&& 0xFF#32 else s.clk.spreadPanel) ∧
    exec (.spreadChange .memory) s = .next s)

/-- R192, R196, R199, R200: the sample clock and clock losses. -/
def Obligations.SampleClockCommandsAct : Prop :=
  (∀ (s : State) (x : Bool), ∃ t, exec (.scApply x) s = .next t ∧
    (scCheck (s.f F.CLK_STATUS_MODE) (s.reg A.CLK_REF_NOM).toNat s.scSettings x ≠ 0 →
      t.f F.CLK_CFG_ERR_CODE = scCheck (s.f F.CLK_STATUS_MODE) (s.reg A.CLK_REF_NOM).toNat s.scSettings x ∧ t.clk = s.clk) ∧
    (scCheck (s.f F.CLK_STATUS_MODE) (s.reg A.CLK_REF_NOM).toNat s.scSettings x = 0 → s.f F.CLK_STATUS_MODE ≠ 2 →
      (s.on F.CLK_STATUS_REF_PRESENT = true → s.scState = 1 ∨ s.on F.CLK_STATUS_TOWER_LOCKED = true ∨
          (s.scState ≠ 0 ∧ s.clk.acquire ≠ .start) →
        t.clk.sent = some (s.scSettings, s.pair A.CLK_SC_RATE_LO)) ∧
      (s.on F.CLK_STATUS_REF_PRESENT = false →
        t.clk.held = some (s.scSettings, s.pair A.CLK_SC_RATE_LO) ∧ t.clk.sent = s.clk.sent ∧ t.scState = 5)) ∧
    (x = true → s.f F.CLK_STATUS_MODE = 2 → t.clk.rate = s.pair A.CLK_SC_RATE_LO)) ∧
  (∀ (s : State) (label : Long) (c : ScSettings) (r : Nat), s.clk.sent = some (c, r) →
    ∃ t, exec (.scRetune label) s = .next t ∧ t.clk.set_ = c ∧ t.clk.reload = some r ∧ t.clk.sent = none ∧
    (s.clk.acquire ≠ .start → t.scState = 4 ∧ t.pins.lockA = .low ∧ t.on F.CLK_STATUS_SC_LOCKED = false ∧
      t.on F.STR_ANCHOR_STATUS_SUSPECT = true)) ∧
  (∀ (s : State) (label : Long), s.scMayLock = true → ∃ t, exec (.scLock label) s = .next t ∧
    t.scState = 2 ∧ t.pins.lockA = lockPin (t.f F.CLK_STATUS_MODE) 2 ∧ t.on F.CLK_STATUS_SC_LOCKED = true ∧
    t.good.sclk = true ∧ t.clk.rate = (s.atBlock label).clk.reload.getD (s.atBlock label).clk.rate) ∧
  (∀ (s : State) (label : Long), s.f F.CLK_STATUS_MODE ≠ 2 → s.scState ≠ 0 → ∃ t, exec (.scLoss label) s = .next t ∧
    t.on F.CLK_STATUS_SC_LOCKED = false ∧ t.on F.STR_ANCHOR_STATUS_SUSPECT = true ∧ t.pins.lockA = .low ∧
    t.scState = (if (s.advanceTo label).on F.CLK_STATUS_REF_PRESENT = true ∨ (s.advanceTo label).f F.CLK_STATUS_MODE = 2 then
        (if (s.advanceTo label).scState = 1 then 1 else 4) else 5)) ∧
  (∀ (s : State) (label : Long), s.f F.CLK_STATUS_MODE = 2 → s.scState ≠ 0 → Quiet s →
    ∃ t, exec (.sclkInLoss label) s = .next t ∧ exec (.scLoss label) s = .next t ∧ t.pins.sclkIn = false ∧
      t.on F.CLK_STATUS_SC_LOCKED = false ∧ t.scState = (if s.scState = 1 then 1 else 4)) ∧
  (∀ s : State, s.on F.CLK_STATUS_TOWER_LOCKED = true → ∃ t, exec .towerClkLoss s = .next t ∧
    t.on F.CLK_STATUS_TOWER_LOCKED = false ∧ t.on F.CLK_STATUS_ON_BACKUP = true ∧ t.f F.PWR_STATUS_STATE = 4) ∧
  (∀ s : State, s.good.tclk = true → ∃ t, exec .aclkLoss s = .next t ∧ t.good.aclk = false ∧ t.on F.CLK_STATUS_ACLK_OK = false ∧ t.pins.faultN = false)

/-- R427, R428 and R22: the per-block reset machine. -/
def Obligations.BlockResetMachineRuns : Prop :=
  (∀ (s : State) (v : Word), s.pwrState ≤ 1 → ∃ t, exec (.rstBlockReq v) s = .next t ∧ ∀ b : Fin 13, t.blk b =
    (if v.getLsbD b then (match s.blk b with
      | .idle => Blk.quiesce
      | .held => Blk.waitClk
      | x => x) else s.blk b)) ∧
  (∀ (s : State) (b : Fin 13),
    (∃ t, exec (.blockIdle b) s = .next t ∧ (if s.blk b = .quiesce then t.blk b = .reset else t = s)) ∧
    (∃ t, exec (.quiesceTimeout b) s = .next t ∧
      (if s.blk b = .quiesce then t.blk b = .reset ∧ t.on (blkBit A.RST_BLOCK_FORCED b) = true else t = s)) ∧
    (∃ t, exec (.blockResetElapsed b) s = .next t ∧ (if s.blk b = .reset then t.blk b = .waitClk else t = s)) ∧
    (∃ t, exec (.blockClockGood b) s = .next t ∧
      (if s.blk b = .waitClk ∧ s.good.of (blockDomain b) = true ∧ (b = 10 → s.good.hclk = true) then
        t.blk b = .idle ∧ t.on (blkBit A.RST_BLOCK_REQ b) = false else t = s)) ∧
    (∃ t, exec (.blockClockTimeout b) s = .next t ∧
      (if s.blk b = .waitClk then t.blk b = .held ∧ t.on (blkBit A.RST_BLOCK_NOCLK b) = true ∧
        t.on (blkBit A.RST_BLOCK_HELD b) = true else t = s)) ∧
    (∃ t, exec (.clkNotReady b) s = .next t ∧
      (if s.blk b = .waitClk then t.blk b = .held ∧ t.on (blkBit A.RST_BLOCK_NOCLK b) = true ∧
        t.on (blkBit A.RST_BLOCK_HELD b) = true else t = s)))

/-- R425, R430 to R434, R436: release, power states and the power warning. -/
def Obligations.PowerStatesChange : Prop :=
  (∀ (s : State) (boot clk : BitVec 2) (n : BitVec 16) (u : Option (BitVec 26)),
    (s.pins.por = true → s.did 1 = false → ∃ t, exec (.releaseStepDone .s1 boot clk n u) s = .next t ∧ t.did 1 = true ∧
      t.good.aclk = true ∧ t.pins.por = false) ∧
    (s.did 1 = true → s.pins.resetN = true → s.did 2 = false →
      ∃ t, exec (.releaseStepDone .s2 boot clk n u) s = .next t ∧ t.did 2 = true) ∧
    (s.did 2 = true → s.did 3 = false → ∃ t, exec (.releaseStepDone .s3 boot clk n u) s = .next t ∧ t.did 3 = true) ∧
    (s.did 2 = true → s.pins.perstN = true → s.on F.BST_STATUS_WHOLE = false → s.did 4 = false →
      ∃ t, exec (.releaseStepDone .s4 boot clk n u) s = .next t ∧ t.did 4 = true ∧ t.good.hclk = true) ∧
    (s.did 2 = true → s.on F.CLK_STATUS_REF_PRESENT = true → s.lcs.otp.pend = 0 → s.on F.BST_STATUS_WHOLE = false →
      s.domainLocked .tclk = true → s.did 5 = false → ∃ t, exec (.releaseStepDone .s5 boot clk n u) s = .next t ∧ t.did 5 = true ∧ t.good.tclk = true ∧
      t.good.kclk = true) ∧
    (s.did 4 = true → s.did 5 = true → s.pwrState ≠ 4 → s.did 6 = false →
      ∃ t, exec (.releaseStepDone .s6 boot clk n u) s = .next t ∧ t.did 6 = true ∧
      t.pwrState = (if s.rst.toActive then (if s.rst.sleepTick.isSome then 3 else 2) else 0)) ∧
    (s.did 6 = true → s.on F.CLK_STATUS_TOWER_LOCKED = true → s.did 7 = false →
      ∃ t, exec (.releaseStepDone .s7 boot clk n u) s = .next t ∧ t.did 7 = true)) ∧
  (∀ (s : State) (v : Word), bitsOf v.toNat 0 3 ≤ 3 → ∃ t, exec (.powerRequest v) s = .next t ∧
    (let e := s.powerRefusal (bitsOf v.toNat 0 3) (v.getLsbD 3 && !(decide (s.pwrState ≤ 1) && decide (bitsOf v.toNat 0 3 ≤ 1)))
     (e ≠ 0 → t.f F.PWR_STATUS_RESULT = e) ∧
     (e = 0 → t.f F.PWR_STATUS_RESULT = 1 ∧ t.on F.PWR_STATUS_BUSY = true))) ∧
  (∀ (s : State) (x : Trans), s.rst.trans = some x → s.rst.paused.isSome = decide (2 ≤ x.target) →
    (x.from_ ≤ 1 → 2 ≤ x.target → s.drained = true) → ∃ t, exec .powerTransitionDone s = .next t ∧ t.pwrState = x.target % 8 ∧ t.on F.PWR_STATUS_BUSY = false ∧
    t.rst.trans = none) ∧
  (∀ (s : State) (label : Long) (x : Trans), s.rst.trans = some x → 2 ≤ x.target → x.from_ < 2 → s.rst.paused = none →
    ∃ t, exec (.acquisitionStop label) s = .next t ∧ t.rst.paused = some (s.pauseAt x label)) ∧
  (∀ (s : State) (label : Long) (x : Trans), s.rst.trans = some x → x.target ≤ 1 → 2 ≤ x.from_ → s.rst.paused.isSome = true →
    ∃ t, exec (.acquisitionResume label) s = .next t ∧ t.rst.paused = none ∧ t.tth.rx = s.pauseAt x label) ∧
  (∀ (s : State) (x : Trans), s.rst.trans = some x → 2 ≤ x.target → ∃ t, exec .standbyDrainTimeout s = .next t ∧
    ∀ k : Fin 64, (t.streams[k]).formed = []) ∧
  (∀ (s : State) (p : Fin 16), s.pwrState = 3 → s.on F.PWR_STATUS_BUSY = false → s.on ⟨A.PWR_WAKE_CFG, p.val, 1⟩ = true →
    ∃ t, exec (.wake (.gpio p)) s = .next t ∧ t.on ⟨A.PWR_WAKE_SRC, p.val, 1⟩ = true ∧ t.on F.PWR_STATUS_BUSY = true ∧
    t.rst.trans = some { target := 2, from_ := 3, at_ := none }) ∧
  (∀ s : State, s.pwrState = 3 → s.on F.PWR_STATUS_BUSY = false → s.on ⟨A.PWR_WAKE_CFG, 16, 1⟩ = true →
    s.wakeCause .gauge = true → ∃ t, exec (.wake .gauge) s = .next t ∧ t.on ⟨A.PWR_WAKE_SRC, 16, 1⟩ = true ∧
    t.on F.PWR_STATUS_BUSY = true ∧ t.rst.trans = some { target := 2, from_ := 3, at_ := none }) ∧
  (∀ (s : State) (e : Bool), s.rst.d3hot = false → ∃ t, exec (.d3hot e) s = .next t ∧ t.rst.d3hot = true ∧ t.rst.pmeEn = e) ∧
  (∀ s : State, s.rst.d3hot = true → ∃ t, exec .returnToD0 s = .next t ∧ t.rst.d3hot = false) ∧
  (∀ s : State, s.pins.pwrWarnN = true → ∃ t, exec .pwrWarnFall s = .next t ∧ t.pins.pwrWarnN = false ∧
    t.on F.PWR_STATUS_WARN = true) ∧
  (∀ s : State, ∃ t, exec .pwrWarnRise s = .next t ∧ t.pins.pwrWarnN = true ∧ t.on F.PWR_STATUS_WARN = false)

/-- R421, R422, R424, R435, R437: the scopes of the resets. -/
def Obligations.ResetScopesAct : Prop :=
  (∀ s : State, ∃ t, exec .powerOnReset s = .next t ∧ t.lcs.otp = s.lcs.otp ∧ t.log.slots = s.log.slots ∧
    t.cores = State.reset.cores ∧ t.streams = State.reset.streams ∧ t.sram = [] ∧ t.amem = [] ∧ t.pins.por = true ∧
    ∀ a, a ∉ [A.TTH_FWD_FUSE_LO, A.TTH_FWD_FUSE_LO + 4, A.TTH_RET_BAD, A.BST_SRAM_REPAIRS, A.PWR_STATUS] →
      t.reg a = resetVal a) ∧
  (∀ s : State, ∃ t, exec .resetN s = .next t ∧ t.pins.resetN = false ∧ (s.pins.por = false →
    t.on F.RST_CAUSE_PIN = true ∧ t.cores = State.reset.cores ∧ t.streams = State.reset.streams ∧
    t.reg A.DEV_SCRATCH = s.reg A.DEV_SCRATCH ∧ t.lcs.otp = s.lcs.otp ∧ t.gge = s.gge ∧ t.log = s.log ∧ t.sram = s.sram)) ∧
  (∀ (s : State) (boot clk : BitVec 2), s.pins.resetN = false → ∃ t, exec (.resetNRise boot clk) s = .next t ∧
    t.pins.resetN = true ∧ (s.pins.por = false → t.f F.RST_STRAPS_BOOT_SRC = boot.toNat ∧
      t.f F.RST_STRAPS_BOOT_USED = (if boot = 3#2 then 0 else boot.toNat))) ∧
  (∀ s : State, s.pins.por = false → s.pins.resetN = true → ∃ t, exec .perstN s = .next t ∧ t.pins.perstN = false ∧
    t.on F.RST_CAUSE_PERST = true ∧ t.streams = State.reset.streams ∧ t.dma = State.reset.dma ∧
    t.good.hclk = false ∧ t.tl.windows = []) ∧
  (∀ s : State, ∃ t, exec .perstNRise s = .next t ∧ t.pins.perstN = true) ∧
  (∀ s : State, s.evtReset = false → ∃ t, exec .hotReset s = .next t ∧ t.on F.RST_CAUSE_HOT = true ∧
    t.streams = State.reset.streams ∧ t.dma = State.reset.dma ∧ t.pwrState = s.pwrState ∧
    ∀ a, 0xD01000 ≤ a → a < 0xD02000 → t.reg a = resetVal a) ∧
  (∀ (s : State) (x : Fin 16), s.on F.PWR_THERM_HOT = false → ∃ t, exec (.thermalTrip x) s = .next t ∧
    t.on F.PWR_THERM_HOT = true ∧ t.on F.PWR_THERM_TRIPPED = true ∧ t.f F.PWR_THERM_SENSOR = x.val ∧ t.pwrState = 4 ∧
    t.on F.RST_CAUSE_THERM = true) ∧
  (∀ s : State, ∃ t, exec .thermalClear s = .next t ∧ t.on F.PWR_THERM_HOT = false)

/-- R477 to R485: events, counters, MSI-X and GPIO. -/
def Obligations.EventCommandsAct : Prop :=
  (∀ (s : State) (i : Fin 314), s.evtReset = false → evtDefined i = true → ∃ t, exec (.eventOccurrence i) s = .next t ∧
    t.on (evtPend i) = true ∧ t.f (F.EVT_CNT_i_COUNT i) = min (s.f (F.EVT_CNT_i_COUNT i) + 1) 0xFFFF) ∧
  (∀ (s : State) (m : BitVec 4), s.evtReset = false → ∃ t, exec (.swEvent m) s = .next t ∧
    ∀ k : Fin 4, m.getLsbD k = true → t.on (evtPend k) = true) ∧
  (∀ (s : State) (p : Fin 16), ∃ t, exec (.gpioEdge p) s = .next t ∧
    (if (s.reg A.DEV_GPIO_EDGE_EN).getLsbD p then t.on ⟨A.DEV_GPIO_EDGE_SRC, p, 1⟩ = true ∧
      (s.evtReset = false → t.on (evtPend 4) = true) else t = s)) ∧
  (∀ (s : State) (w : Fin 10) (v : Word), ∃ t, exec (.pendClear w v) s = .next t ∧
    t.reg (A.EVT_PEND_w w) = s.reg (A.EVT_PEND_w w) &&& ~~~v ∧
    (t.on F.EVT_FAULT_ACTIVE = true ↔ ∃ i, i < 314 ∧ t.on (evtPend i) = true ∧ t.on (F.EVT_ROUTE_i_FAULT_EN i) = true)) ∧
  (∀ (s : State) (i : Fin 314), ∃ t, exec (.cntClear i) s = .next t ∧ t.f (F.EVT_CNT_i_COUNT i) = 0 ∧
    t.on (evtSat i) = false) ∧
  (∀ s : State, ∃ t, exec .clrCnt s = .next t ∧ (∀ i : Fin 314, t.f (F.EVT_CNT_i_COUNT i) = 0) ∧
    ∀ w : Fin 10, t.reg (A.EVT_SAT_w w) = 0) ∧
  (∀ (s : State) (v : Fin 64), ∃ t, exec (.minGapExpiry v) s = .next t ∧ t.on (F.EVT_VEC_v_DEFERRED v) = false) ∧
  (∀ (s : State) (v : Fin 64), ∃ t, exec (.msixUnmask v) s = .next t ∧ t.on (F.MSIX_v_CTRL_MASK v) = false) ∧
  (∀ (s : State) (e m : Bool), ∃ t, exec (.msixEnable e m) s = .next t ∧ t.evt.msixEnable = e ∧ t.evt.funcMask = m) ∧
  (∀ (s : State) (p : Fin 16), ∃ t, exec (.gpioPulseEnd p) s = .next t ∧
    ∀ q : Fin 16, t.evt.gpioPulse.getLsbD q = (s.evt.gpioPulse.getLsbD q && decide (q ≠ p)))

/-- R58, R59, R69, R98, R99: the scalar results and their frame. -/
def Obligations.ScalarResults : Prop :=
  ∀ (s : State) (c : Fin 17) (sat : Bool) (gd ga gb : Fin 16) (imm : BitVec 15) (imm16 : BitVec 16) (n : BitVec 5),
  CoreDoes s c (.add c sat gd ga gb) (fun t => GetsFit s t c sat gd ((s.g c ga).toInt + (s.g c gb).toInt)) ∧
  CoreDoes s c (.sub c sat gd ga gb) (fun t => GetsFit s t c sat gd ((s.g c ga).toInt - (s.g c gb).toInt)) ∧
  CoreDoes s c (.mul c sat gd ga gb) (fun t => GetsFit s t c sat gd ((s.g c ga).toInt * (s.g c gb).toInt)) ∧
  CoreDoes s c (.sll c sat gd ga gb) (fun t => GetsFit s t c sat gd ((s.g c ga).toInt * 2 ^ ((s.g c gb).toNat % 32))) ∧
  CoreDoes s c (.abs c sat gd ga) (fun t => GetsFit s t c sat gd (Int.natAbs (s.g c ga).toInt)) ∧
  CoreDoes s c (.addi c sat gd ga imm) (fun t => GetsFit s t c sat gd ((s.g c ga).toInt + imm.toInt)) ∧
  CoreDoes s c (.slli c sat gd ga n) (fun t => GetsFit s t c sat gd ((s.g c ga).toInt * 2 ^ n.toNat)) ∧
  CoreDoes s c (.mulh c gd ga gb) (fun t => GetsWord s t c 4 gd (BitVec.ofInt 32 ((s.g c ga).toInt * (s.g c gb).toInt / 2 ^ 32))) ∧
  CoreDoes s c (.and c gd ga gb) (fun t => GetsWord s t c 4 gd (s.g c ga &&& s.g c gb)) ∧
  CoreDoes s c (.or c gd ga gb) (fun t => GetsWord s t c 4 gd (s.g c ga ||| s.g c gb)) ∧
  CoreDoes s c (.xor c gd ga gb) (fun t => GetsWord s t c 4 gd (s.g c ga ^^^ s.g c gb)) ∧
  CoreDoes s c (.srl c gd ga gb) (fun t => GetsWord s t c 4 gd (s.g c ga >>> ((s.g c gb).toNat % 32))) ∧
  CoreDoes s c (.sra c gd ga gb) (fun t => GetsWord s t c 4 gd ((s.g c ga).sshiftRight ((s.g c gb).toNat % 32))) ∧
  CoreDoes s c (.slt c gd ga gb) (fun t => GetsWord s t c 4 gd (if (s.g c ga).toInt < (s.g c gb).toInt then 1 else 0)) ∧
  CoreDoes s c (.sltu c gd ga gb) (fun t => GetsWord s t c 4 gd (if (s.g c ga).toNat < (s.g c gb).toNat then 1 else 0)) ∧
  CoreDoes s c (.min c gd ga gb) (fun t => GetsWord s t c 4 gd (BitVec.ofInt 32 (min (s.g c ga).toInt (s.g c gb).toInt))) ∧
  CoreDoes s c (.max c gd ga gb) (fun t => GetsWord s t c 4 gd (BitVec.ofInt 32 (max (s.g c ga).toInt (s.g c gb).toInt))) ∧
  CoreDoes s c (.andi c gd ga imm) (fun t => GetsWord s t c 4 gd (s.g c ga &&& imm.setWidth 32)) ∧
  CoreDoes s c (.ori c gd ga imm) (fun t => GetsWord s t c 4 gd (s.g c ga ||| imm.setWidth 32)) ∧
  CoreDoes s c (.xori c gd ga imm) (fun t => GetsWord s t c 4 gd (s.g c ga ^^^ imm.setWidth 32)) ∧
  CoreDoes s c (.srli c gd ga n) (fun t => GetsWord s t c 4 gd (s.g c ga >>> n.toNat)) ∧
  CoreDoes s c (.srai c gd ga n) (fun t => GetsWord s t c 4 gd ((s.g c ga).sshiftRight n.toNat)) ∧
  CoreDoes s c (.slti c gd ga imm) (fun t => GetsWord s t c 4 gd (if (s.g c ga).toInt < imm.toInt then 1 else 0)) ∧
  CoreDoes s c (.lui c gd imm16) (fun t => GetsWord s t c 4 gd (BitVec.ofNat 32 (imm16.toNat * 65536))) ∧
  CoreDoes s c (.lli c gd imm16) (fun t => GetsWord s t c 4 gd (BitVec.ofNat 32 ((s.g c gd).toNat / 65536 * 65536 + imm16.toNat)))

/-- R99, R101: control transfers. -/
def Obligations.ControlTransfers : Prop :=
  ∀ (s : State) (c : Fin 17) (gd ga gb : Fin 16) (off : BitVec 15) (far : BitVec 23),
  CoreDoes s c (.beq c ga gb off) (fun t => GoesTo s t c (if s.g c ga = s.g c gb then s.pcOf c + BitVec.ofInt 32 (off.toInt * 4) else s.pcOf c + 4) (s.cores[c])) ∧
  CoreDoes s c (.bne c ga gb off) (fun t => GoesTo s t c (if s.g c ga ≠ s.g c gb then s.pcOf c + BitVec.ofInt 32 (off.toInt * 4) else s.pcOf c + 4) (s.cores[c])) ∧
  CoreDoes s c (.blt c ga gb off) (fun t => GoesTo s t c (if (s.g c ga).toInt < (s.g c gb).toInt then s.pcOf c + BitVec.ofInt 32 (off.toInt * 4) else s.pcOf c + 4) (s.cores[c])) ∧
  CoreDoes s c (.bge c ga gb off) (fun t => GoesTo s t c (if (s.g c gb).toInt ≤ (s.g c ga).toInt then s.pcOf c + BitVec.ofInt 32 (off.toInt * 4) else s.pcOf c + 4) (s.cores[c])) ∧
  CoreDoes s c (.bltu c ga gb off) (fun t => GoesTo s t c (if (s.g c ga).toNat < (s.g c gb).toNat then s.pcOf c + BitVec.ofInt 32 (off.toInt * 4) else s.pcOf c + 4) (s.cores[c])) ∧
  CoreDoes s c (.bgeu c ga gb off) (fun t => GoesTo s t c (if (s.g c gb).toNat ≤ (s.g c ga).toNat then s.pcOf c + BitVec.ofInt 32 (off.toInt * 4) else s.pcOf c + 4) (s.cores[c])) ∧
  CoreDoes s c (.jmp c far) (fun t => GoesTo s t c (s.pcOf c + BitVec.ofInt 32 (far.toInt * 4)) (s.cores[c])) ∧
  CoreDoes s c (.jal c far) (fun t => GoesTo s t c (s.pcOf c + BitVec.ofInt 32 (far.toInt * 4)) ((s.cores[c]).writeG 15 (s.pcOf c + 4))) ∧
  CoreDoes s c (.jr c ga) (fun t => GoesTo s t c (s.g c ga) (s.cores[c])) ∧
  CoreDoes s c (.jalr c gd ga) (fun t => GoesTo s t c (s.g c ga) ((s.cores[c]).writeG gd (s.pcOf c + 4))) ∧
  CoreDoes s c (.nop c) (fun t => FellThrough s t c 4 s.cores[c]) ∧
  (∀ d : Fin 17, isKeeper d = false → s.coreRuns d = true → s.atLoopEnd d = false → fetchOk d (s.pcOf d + 4) = false →
    ∃ t, exec (.nop d) s = .next t ∧ t.f (bcnState d) = 2 ∧ t.f (F.BCN_n_FAULT_CODE d) = 2 ∧
      t.reg (A.BCN_n_FAULT_ADDR d) = s.pcOf d + 4) ∧
  (s.coreRuns keeperNo = true → s.atLoopEnd keeperNo = false → fetchOk keeperNo (s.pcOf keeperNo + 4) = false →
    ∃ t, exec (.nop keeperNo) s = .next t ∧ t.f F.KPR_TRAP_CODE = 2 ∧ t.reg A.KPR_TRAP_ADDR =
      (if (s.cores[keeperNo]).trapOn = true ∨ fetchOk keeperNo (s.cores[keeperNo]).trapPc = true then s.pcOf keeperNo + 4
       else (s.cores[keeperNo]).trapPc))

/-- R67, R100, R102: loops, register moves and amod. -/
def Obligations.LoopsAndMoves : Prop :=
  ∀ (s : State) (c : Fin 17) (gd ga : Fin 16) (len : BitVec 10) (count : BitVec 13) (dst src : BitVec 6) (imm : BitVec 17) (x : Fin 8) (mod15 : BitVec 15),
  (isKeeper c = false → len ≠ 0 → s.loopLast c len.toNat = s.pcOf c + BitVec.ofNat 32 (4 * len.toNat)) ∧
  CoreDoes s c (.loop c ga len) (fun t => ((len = 0 ∨ 4 ≤ (s.cores[c]).loops.length ∨ (isKeeper c = true ∧ (s.cores[c]).trapOn = true) ∨
      ∃ l ls, (s.cores[c]).loops = l :: ls ∧ l.last.toNat < (s.loopLast c len.toNat).toNat) → Illegal s t c) ∧
    (¬ (len = 0 ∨ 4 ≤ (s.cores[c]).loops.length ∨ (isKeeper c = true ∧ (s.cores[c]).trapOn = true) ∨
      ∃ l ls, (s.cores[c]).loops = l :: ls ∧ l.last.toNat < (s.loopLast c len.toNat).toNat) → s.g c ga ≠ 0 → fetchOk c (s.pcOf c + 4) = true →
      t.pcOf c = s.pcOf c + 4 ∧ ∃ l ls, (t.cores[c]).loops = l :: ls ∧ l.first = s.pcOf c + 4 ∧
      l.last = s.loopLast c len.toNat ∧ l.count = s.g c ga ∧ ls.length = (s.cores[c]).loops.length) ∧
    (s.g c ga = 0 → len ≠ 0 → (s.cores[c]).loops = [] → (isKeeper c = true → (s.cores[c]).trapOn = false) →
      fetchOk c (s.loopLast c len.toNat + BitVec.ofNat 32 (s.instrBytes c (s.loopLast c len.toNat))) = true →
      t.pcOf c = s.loopLast c len.toNat + BitVec.ofNat 32 (s.instrBytes c (s.loopLast c len.toNat)) ∧ (t.cores[c]).loops = [])) ∧
  CoreDoes s c (.loopi c count len) (fun t => ((len = 0 ∨ 4 ≤ (s.cores[c]).loops.length ∨ (isKeeper c = true ∧ (s.cores[c]).trapOn = true) ∨
      ∃ l ls, (s.cores[c]).loops = l :: ls ∧ l.last.toNat < (s.loopLast c len.toNat).toNat) → Illegal s t c) ∧
    (¬ (len = 0 ∨ 4 ≤ (s.cores[c]).loops.length ∨ (isKeeper c = true ∧ (s.cores[c]).trapOn = true) ∨
      ∃ l ls, (s.cores[c]).loops = l :: ls ∧ l.last.toNat < (s.loopLast c len.toNat).toNat) → BitVec.ofNat 32 count.toNat ≠ 0 → fetchOk c (s.pcOf c + 4) = true →
      t.pcOf c = s.pcOf c + 4 ∧ ∃ l ls, (t.cores[c]).loops = l :: ls ∧ l.first = s.pcOf c + 4 ∧
      l.last = s.loopLast c len.toNat ∧ l.count = BitVec.ofNat 32 count.toNat ∧ ls.length = (s.cores[c]).loops.length)) ∧
  CoreDoes s c (.loopBackEdge c) (fun t => ∀ l ls, (s.cores[c]).loops = l :: ls → s.pcOf c = l.last + BitVec.ofNat 32 (s.instrBytes c l.last) → 2 ≤ l.count.toNat →
    fetchOk c l.first = true → t.pcOf c = l.first ∧ ∃ m, (t.cores[c]).loops = m :: ls ∧ m.count = l.count - 1 ∧
      m.first = l.first ∧ m.last = l.last) ∧
  CoreDoes s c (.movs c dst src) (fun t => if srnOk c dst = true ∧ srnOk c src = true then
      (fetchOk c (s.pcOf c + 4) = true → t.pcOf c = s.pcOf c + 4 ∧
        (dst ≠ 0 → dst ≠ 48 → (t.cores[c]).readSrn dst = (s.cores[c]).readSrn src) ∧
        (dst = 48 → (t.cores[c]).cst = (s.cores[c]).cst &&& ~~~((s.cores[c]).readSrn src &&& 3)) ∧
        ∀ r : BitVec 6, r ≠ dst → r.toNat ≤ 49 → (t.cores[c]).readSrn r = (s.cores[c]).readSrn r)
    else Illegal s t c) ∧
  CoreDoes s c (.movsi c dst imm) (fun t => if srnOk c dst = true then
      (fetchOk c (s.pcOf c + 4) = true → t.pcOf c = s.pcOf c + 4 ∧
        (dst ≠ 0 → dst ≠ 48 → (t.cores[c]).readSrn dst = BitVec.ofInt 32 imm.toInt) ∧
        (dst = 48 → (t.cores[c]).cst = (s.cores[c]).cst &&& ~~~(BitVec.ofInt 32 imm.toInt &&& 3)))
    else Illegal s t c) ∧
  CoreDoes s c (.amod c x mod15) (fun t => fetchOk c (s.pcOf c + 4) = true → t.pcOf c = s.pcOf c + 4 ∧
      (t.cores[c]).ap[x] = ringStep ((s.cores[c]).ap[x]) (BitVec.ofInt 32 mod15.toInt) ((s.cores[c]).rs[x]) ((s.cores[c]).rz[x]) ∧
      ∀ y : Fin 8, y ≠ x → (t.cores[c]).ap[y] = (s.cores[c]).ap[y])

/-- R66, R83, R94, R99, R104, R115: system instructions. -/
def Obligations.SystemInstructions : Prop :=
  ∀ (s : State) (c : Fin 17) (gd ga : Fin 16) (q : Fin 4) (imm : BitVec 16) (imm32 : BitVec 32) (word second : BitVec 32),
  CoreDoes s c (.fence c) (fun t => fetchOk c (s.pcOf c + 4) = true → t.pcOf c = s.pcOf c + 4 ∧
    (if isKeeper c then t.keeper.storeBuf = [] ∧ t.sram = drainInto s.sram s.keeper.storeBuf else t.sram = s.sram)) ∧
  CoreDoes s c (.brk c) (fun t => Faults s t c .brk (s.pcOf c)) ∧
  CoreDoes s c (.rett c) (fun t => if isKeeper c then
      (fetchOk c (s.cores[c]).epc = true → t.pcOf c = (s.cores[c]).epc ∧ (t.cores[c]).trapOn = false ∧ (t.cores[c]).shadow = [])
    else Illegal s t c) ∧
  CoreDoes s c (.waitq c q ga) (fun t => if isKeeper c then Illegal s t c
    else if s.f (F.BCN_n_Qq_STATUS_WR c q) = (s.g c ga).toNat % 65536 then
      (t.cores[c]).stall = some (.waitq q ((s.g c ga).setWidth 16)) ∧ t.pcOf c = s.pcOf c ∧ t.regs = s.regs
    else FellThrough s t c 4 s.cores[c]) ∧
  CoreDoes s c (.signal c imm) (fun t => if isKeeper c then Illegal s t c
    else t.f (F.BCN_n_ATTN_CODE c) = imm.toNat ∧ t.on (F.BCN_n_ATTN_SIGNAL c) = true ∧
      (fetchOk c (s.pcOf c + 4) = true → t.pcOf c = s.pcOf c + 4)) ∧
  CoreDoes s c (.li c gd imm32) (fun t => if isKeeper c then GetsWord s t c 8 gd imm32 else Illegal s t c) ∧
  (∀ (p : Fin 4) (v : BitVec 16), (s.cores[c]).stall = some (.waitq p v) → s.f (F.BCN_n_Qq_STATUS_WR c p) ≠ v.toNat →
    ∃ t, exec (.waitqWake c) s = .next t ∧ (t.cores[c]).stall = none ∧
      (fetchOk c (s.pcOf c + 4) = true → isKeeper c = false → t.pcOf c = s.pcOf c + 4)) ∧
  (decodeCore c word second ⟨[], false, .done, true⟩ = none →
    CoreDoes s c (.illegalInstruction c word second) (fun t => Illegal s t c))

/-- R60, R69, R94 to R97, R105, R106, R109: vector results.  The free values of vget and vput are the model's own (log entry 12). -/
def Obligations.VectorResults : Prop :=
  ∀ (s : State) (c : Fin 17) (sat half : Bool) (fmt src : Fmt) (vd va vb : Fin 32) (gd ga : Fin 16) (n : BitVec 5) (n4 : BitVec 4),
  CoreDoes s c (.vmov c fmt vd va) (fun t => if isKeeper c = true ∨ fmt.toNat ∉ [0, 1, 2, 3, 4] then Illegal s t c else GetsVec s t c false vd ((s.vec c va, false))) ∧
  CoreDoes s c (.vadd c sat fmt vd va vb) (fun t => if isKeeper c = true ∨ fmt.toNat ∉ [0, 1, 2, 3, 4] then Illegal s t c else GetsVec s t c sat vd (vop2 sat fmt (· + ·) FVal.add (s.vec c va) (s.vec c vb))) ∧
  CoreDoes s c (.vsub c sat fmt vd va vb) (fun t => if isKeeper c = true ∨ fmt.toNat ∉ [0, 1, 2, 3, 4] then Illegal s t c else GetsVec s t c sat vd (vop2 sat fmt (· - ·) (fun x y => x.add y.neg) (s.vec c va) (s.vec c vb))) ∧
  CoreDoes s c (.vmulq c sat fmt vd va vb) (fun t => if isKeeper c = true ∨ fmt.toNat ∉ [0, 1, 2, 3, 4] then Illegal s t c else GetsVec s t c sat vd (if fmt = 2 then
      vfit sat 16 (parts ((List.zipWith (cmul false) (complexes (s.vec c va)) (complexes (s.vec c vb))).map fun x => (roundShift x.1 15, roundShift x.2 15)))
    else vop2 sat fmt (fun x y => if fmt = 1 then x * y else roundShift (x * y) 15) FVal.mul (s.vec c va) (s.vec c vb))) ∧
  CoreDoes s c (.vmin c fmt vd va vb) (fun t => if isKeeper c = true ∨ fmt.toNat ∉ [0, 1, 3, 4] then Illegal s t c else GetsVec s t c false vd (vop2 false fmt min (fpick true) (s.vec c va) (s.vec c vb))) ∧
  CoreDoes s c (.vmax c fmt vd va vb) (fun t => if isKeeper c = true ∨ fmt.toNat ∉ [0, 1, 3, 4] then Illegal s t c else GetsVec s t c false vd (vop2 false fmt max (fpick false) (s.vec c va) (s.vec c vb))) ∧
  CoreDoes s c (.vabs c sat fmt vd va) (fun t => if isKeeper c = true ∨ fmt.toNat ∉ [0, 1, 3, 4] then Illegal s t c else GetsVec s t c sat vd (vop1 sat fmt (fun x => Int.natAbs x) (fun x => match x with
      | .nan => .nan
      | .inf _ => .inf false
      | .fin _ m e => .fin false m e) (s.vec c va))) ∧
  CoreDoes s c (.vneg c sat fmt vd va) (fun t => if isKeeper c = true ∨ fmt.toNat ∉ [0, 1, 2, 3, 4] then Illegal s t c else GetsVec s t c sat vd (vop1 sat fmt (fun x => -x) FVal.neg (s.vec c va))) ∧
  CoreDoes s c (.vand c fmt vd va vb) (fun t => if isKeeper c = true ∨ fmt.toNat ∉ [0, 1] then Illegal s t c else GetsVec s t c false vd ((s.vec c va &&& s.vec c vb, false))) ∧
  CoreDoes s c (.vor c fmt vd va vb) (fun t => if isKeeper c = true ∨ fmt.toNat ∉ [0, 1] then Illegal s t c else GetsVec s t c false vd ((s.vec c va ||| s.vec c vb, false))) ∧
  CoreDoes s c (.vxor c fmt vd va vb) (fun t => if isKeeper c = true ∨ fmt.toNat ∉ [0, 1] then Illegal s t c else GetsVec s t c false vd ((s.vec c va ^^^ s.vec c vb, false))) ∧
  CoreDoes s c (.vshl c sat fmt vd va n) (fun t => if isKeeper c = true ∨ fmt.toNat ∉ [0, 1, 2] then Illegal s t c else GetsVec s t c sat vd (vfit sat (intWidth fmt) ((ints (intWidth fmt) (s.vec c va)).map (· * 2 ^ n.toNat)))) ∧
  CoreDoes s c (.vsra c fmt vd va n) (fun t => if isKeeper c = true ∨ fmt.toNat ∉ [0, 1, 2] then Illegal s t c else GetsVec s t c false vd ((fromLanes (intWidth fmt) 256 ((ints (intWidth fmt) (s.vec c va)).map fun x => BitVec.ofInt _ (x / 2 ^ n.toNat)), false))) ∧
  CoreDoes s c (.vsrl c fmt vd va n) (fun t => if isKeeper c = true ∨ fmt.toNat ∉ [0, 1] then Illegal s t c else GetsVec s t c false vd ((fromLanes (intWidth fmt) 256 ((lanes (intWidth fmt) (s.vec c va)).map fun x => x.ushiftRight n.toNat), false))) ∧
  CoreDoes s c (.vconj c sat fmt vd va) (fun t => if isKeeper c = true ∨ fmt.toNat ∉ [2] then Illegal s t c else GetsVec s t c sat vd (vfit sat 16 (parts ((complexes (s.vec c va)).map fun x => (x.1, -x.2))))) ∧
  CoreDoes s c (.vmag2 c sat fmt vd va) (fun t => if isKeeper c = true ∨ fmt.toNat ∉ [2] then Illegal s t c else GetsVec s t c sat vd (vfit sat 32 ((complexes (s.vec c va)).map fun x => x.1 * x.1 + x.2 * x.2))) ∧
  CoreDoes s c (.vfma c sat fmt vd va vb) (fun t => if isKeeper c = true ∨ fmt.toNat ∉ [4] then Illegal s t c else GetsVec s t c sat vd (vfloat sat 32 (List.zipWith FVal.add (floats 32 (s.vec c vd))
      (List.zipWith FVal.mul (floats 32 (s.vec c va)) (floats 32 (s.vec c vb)))))) ∧
  CoreDoes s c (.vperm c fmt vd va vb) (fun t => if isKeeper c = true ∨ fmt.toNat ∉ [0, 1, 2, 3, 4] then Illegal s t c else GetsVec s t c false vd (fromLanes (laneWidth fmt) 256 ((lanes (laneWidth fmt) (s.vec c vb)).map fun i =>
      lane (laneWidth fmt) (s.vec c va) (i.toNat % (256 / laneWidth fmt))), false)) ∧
  CoreDoes s c (.valn c fmt vd va vb n4) (fun t => if isKeeper c = true ∨ fmt.toNat ∉ [0, 1, 2, 3, 4] ∨ 256 / laneWidth fmt ≤ n4.toNat then Illegal s t c else GetsVec s t c false vd (fromLanes (laneWidth fmt) 256 (((lanes (laneWidth fmt) (s.vec c va) ++ lanes (laneWidth fmt) (s.vec c vb)).drop n4.toNat).take
      (256 / laneWidth fmt)), false)) ∧
  CoreDoes s c (.vhmax c fmt vd va) (fun t => if isKeeper c = true ∨ fmt.toNat ∉ [0, 1, 4] then Illegal s t c else GetsVec s t c false vd (if fmt = 4 then hmaxFloat (s.vec c va) else hmaxInt (intWidth fmt) (s.vec c va), false)) ∧
  CoreDoes s c (.vcvt c sat fmt vd va src half) (fun t => match vcvt fmt src half sat (s.vec c vd) (s.vec c va) with
      | some r => if isKeeper c = true then Illegal s t c else GetsVec s t c sat vd r
      | none => Illegal s t c) ∧
  CoreDoes s c (.vget c fmt gd va n) (fun t => if isKeeper c = true ∨ fmt.toNat ∉ [0, 1, 2, 3, 4] then Illegal s t c
    else if n.toNat < 256 / laneWidth fmt then
      GetsWord s t c 4 gd (if fmt = 0 then BitVec.ofInt 32 (lane 16 (s.vec c va) n.toNat).toInt else (lane (laneWidth fmt) (s.vec c va) n.toNat).setWidth 32)
    else GetsWord s t c 4 gd (Config.freeValue 32 s.free)) ∧
  CoreDoes s c (.vput c fmt vd ga n) (fun t => if isKeeper c = true ∨ fmt.toNat ∉ [0, 1, 2, 3, 4] then Illegal s t c
    else GetsVec s t c false vd (if n.toNat < 256 / laneWidth fmt then
      setLane (laneWidth fmt) (s.vec c vd) n.toNat ((s.g c ga).setWidth (laneWidth fmt)) else Config.freeValue 256 s.free, false))

/-- R62, R63, R69, R106 to R108: accumulator results.  ALIGN for a misaligned ap7 is log entry 11. -/
def Obligations.AccumulatorResults : Prop :=
  ∀ (s : State) (c : Fin 17) (sat zero neg half : Bool) (fmt : Fmt) (an : Fin 4) (vd va vb : Fin 32) (n : BitVec 5),
  CoreDoes s c (.vmac c sat fmt an zero neg va vb) (fun t => if isKeeper c = true ∨ fmt.toNat ∉ [0] then Illegal s t c
    else AccumulatesIn s t c sat an zero neg (List.zipWith (· * ·) (ints 16 (s.vec c va)) (ints 16 (s.vec c vb)))) ∧
  CoreDoes s c (.vmacp c sat fmt an zero neg va) (fun t => if isKeeper c = true ∨ fmt.toNat ∉ [0] then Illegal s t c
    else if 0x200000 ≤ ((s.cores[c]).ap[7]).toNat then Faults s t c .caddr ((s.cores[c]).ap[7])
    else if ((s.cores[c]).ap[7]).toNat % 32 ≠ 0 then Faults s t c .align ((s.cores[c]).ap[7])
    else AccumulatesIn s t c sat an zero neg (List.zipWith (· * ·) (ints 16 (s.vec c va)) (ints 16 (s.coef c))) ∧
      (t.cores[c]).ap[7] = ringStep ((s.cores[c]).ap[7]) ((s.cores[c]).inc[7]) ((s.cores[c]).rs[7]) ((s.cores[c]).rz[7])) ∧
  CoreDoes s c (.vpmac c sat fmt an zero neg va vb) (fun t => if isKeeper c = true ∨ fmt.toNat ∉ [0] then Illegal s t c
    else if 0x200000 ≤ ((s.cores[c]).ap[7]).toNat then Faults s t c .caddr ((s.cores[c]).ap[7])
    else if ((s.cores[c]).ap[7]).toNat % 32 ≠ 0 then Faults s t c .align ((s.cores[c]).ap[7])
    else AccumulatesIn s t c sat an zero neg (List.zipWith (· * ·) (List.zipWith (· + ·) (ints 16 (s.vec c va)) (ints 16 (s.vec c vb))) (ints 16 (s.coef c))) ∧
      (t.cores[c]).ap[7] = ringStep ((s.cores[c]).ap[7]) ((s.cores[c]).inc[7]) ((s.cores[c]).rs[7]) ((s.cores[c]).rz[7])) ∧
  CoreDoes s c (.vpmsc c sat fmt an zero neg va vb) (fun t => if isKeeper c = true ∨ fmt.toNat ∉ [0] then Illegal s t c
    else if 0x200000 ≤ ((s.cores[c]).ap[7]).toNat then Faults s t c .caddr ((s.cores[c]).ap[7])
    else if ((s.cores[c]).ap[7]).toNat % 32 ≠ 0 then Faults s t c .align ((s.cores[c]).ap[7])
    else AccumulatesIn s t c sat an zero neg (List.zipWith (· * ·) (List.zipWith (· - ·) (ints 16 (s.vec c va)) (ints 16 (s.vec c vb))) (ints 16 (s.coef c))) ∧
      (t.cores[c]).ap[7] = ringStep ((s.cores[c]).ap[7]) ((s.cores[c]).inc[7]) ((s.cores[c]).rs[7]) ((s.cores[c]).rz[7])) ∧
  CoreDoes s c (.vcmac c sat fmt an zero neg va vb) (fun t => if isKeeper c = true ∨ fmt.toNat ∉ [2] then Illegal s t c
    else AccumulatesIn s t c sat an zero neg (parts (List.zipWith (cmul false) (complexes (s.vec c va)) (complexes (s.vec c vb))))) ∧
  CoreDoes s c (.vcmacj c sat fmt an zero neg va vb) (fun t => if isKeeper c = true ∨ fmt.toNat ∉ [2] then Illegal s t c
    else AccumulatesIn s t c sat an zero neg (parts (List.zipWith (cmul true) (complexes (s.vec c va)) (complexes (s.vec c vb))))) ∧
  CoreDoes s c (.vcmacp c sat fmt an zero neg va) (fun t => if isKeeper c = true ∨ fmt.toNat ∉ [2] then Illegal s t c
    else if 0x200000 ≤ ((s.cores[c]).ap[7]).toNat then Faults s t c .caddr ((s.cores[c]).ap[7])
    else if ((s.cores[c]).ap[7]).toNat % 32 ≠ 0 then Faults s t c .align ((s.cores[c]).ap[7])
    else AccumulatesIn s t c sat an zero neg (parts (List.zipWith (cmul false) (complexes (s.vec c va)) (complexes (s.coef c)))) ∧
      (t.cores[c]).ap[7] = ringStep ((s.cores[c]).ap[7]) ((s.cores[c]).inc[7]) ((s.cores[c]).rs[7]) ((s.cores[c]).rz[7])) ∧
  CoreDoes s c (.vcmacpj c sat fmt an zero neg va) (fun t => if isKeeper c = true ∨ fmt.toNat ∉ [2] then Illegal s t c
    else if 0x200000 ≤ ((s.cores[c]).ap[7]).toNat then Faults s t c .caddr ((s.cores[c]).ap[7])
    else if ((s.cores[c]).ap[7]).toNat % 32 ≠ 0 then Faults s t c .align ((s.cores[c]).ap[7])
    else AccumulatesIn s t c sat an zero neg (parts (List.zipWith (cmul true) (complexes (s.vec c va)) (complexes (s.coef c)))) ∧
      (t.cores[c]).ap[7] = ringStep ((s.cores[c]).ap[7]) ((s.cores[c]).inc[7]) ((s.cores[c]).rs[7]) ((s.cores[c]).rz[7])) ∧
  CoreDoes s c (.vrnd c sat fmt vd an n) (fun t => if isKeeper c = true ∨ fmt.toNat ∉ [0, 2] then Illegal s t c else GetsVec s t c sat vd (vfit sat 16 ((accLanes (s.cores[c]).acc[an]).map fun x => roundShift x n.toNat))) ∧
  CoreDoes s c (.vrndw c sat fmt vd an n half) (fun t => if isKeeper c = true ∨ fmt.toNat ∉ [1] then Illegal s t c else GetsVec s t c sat vd (vfit sat 32 (((if half then (accLanes (s.cores[c]).acc[an]).drop 8
      else (accLanes (s.cores[c]).acc[an]).take 8)).map fun x => roundShift x n.toNat))) ∧
  CoreDoes s c (.vamov c fmt an va n) (fun t => if isKeeper c = true ∨ fmt.toNat ∉ [0, 2] ∨ 23 < n.toNat then Illegal s t c
    else GetsAcc s t c an ((ints 16 (s.vec c va)).map fun x => BitVec.ofInt 40 (x * 2 ^ n.toNat))) ∧
  CoreDoes s c (.vaclr c fmt an) (fun t => if fmt.toNat ∉ [0] ∨ isKeeper c = true then Illegal s t c
    else GetsAcc s t c an (List.replicate 16 0))

/-- R61, R62, R64 to R67, R80, R86, R110 to R112: single accesses.  The order of the checks is the model's (NOTES.md). -/
def Obligations.SingleAccesses : Prop :=
  ∀ (s : State) (c : Fin 17) (gd ga : Fin 16) (vd va : Fin 32) (x : Fin 8) (mode : BitVec 3) (off : BitVec 12) (env : WriteEnv),
  CoreDoes s c (.vld c vd x mode off) (fun t => if isKeeper c = true ∨ 3 < mode.toNat then Illegal s t c
    else match beaconCheck .vector (accessAddr s c x mode off 32) 32 with
      | some w => Faults s t c w (accessAddr s c x mode off 32)
      | none => PointerMoved s t c x mode off 32 ∧ t.vec c vd = BitVec.ofNat 256 (Mem.readLE s.sram (xyAt c (accessAddr s c x mode off 32).toNat) 32) ∧
        (∀ y : Fin 32, y ≠ vd → t.vec c y = s.vec c y) ∧ t.sram = s.sram ∧ t.amem = s.amem) ∧
  CoreDoes s c (.vst c va x mode off) (fun t => if isKeeper c = true ∨ 3 < mode.toNat then Illegal s t c
    else match beaconCheck .vector (accessAddr s c x mode off 32) 32 with
      | some w => Faults s t c w (accessAddr s c x mode off 32)
      | none => PointerMoved s t c x mode off 32 ∧ (t.cores[c]).v = (s.cores[c]).v ∧ t.amem = s.amem ∧
        Stored s t (xyAt c (accessAddr s c x mode off 32).toNat) (bytesOf 32 (s.vec c va).toNat)) ∧
  CoreDoes s c (.vldb c vd x mode off) (fun t => if isKeeper c = true ∨ 3 < mode.toNat then Illegal s t c
    else match beaconCheck .vector (accessAddr s c x mode off 4) 4 with
      | some w => Faults s t c w (accessAddr s c x mode off 4)
      | none => PointerMoved s t c x mode off 4 ∧ (∀ j, j < 8 → lane 32 (t.vec c vd) j = BitVec.ofNat 32 (Mem.readLE s.sram (xyAt c (accessAddr s c x mode off 4).toNat) 4)) ∧
        (∀ y : Fin 32, y ≠ vd → t.vec c y = s.vec c y) ∧ t.sram = s.sram ∧ t.amem = s.amem) ∧
  CoreDoes s c (.ld c gd x mode off) (fun t => if 3 < mode.toNat then Illegal s t c
    else match s.scalarCheck c false (accessAddr s c x mode off 4) with
      | some w => Faults s t c w (accessAddr s c x mode off 4)
      | none => PointerMoved s t c x mode off 4 ∧ (∀ r : Fin 16, r ≠ gd → t.g c r = s.g c r) ∧ (gd = 0 → t.g c gd = 0) ∧
        (gd ≠ 0 → isKeeper c = false → (accessAddr s c x mode off 4).toNat < 0x40000 →
          t.g c gd = BitVec.ofNat 32 (Mem.readLE s.sram (xyAt c (accessAddr s c x mode off 4).toNat) 4) ∧ t.sram = s.sram ∧ t.amem = s.amem) ∧
        (∀ q : Fin 4, gd ≠ 0 → isKeeper c = false → (accessAddr s c x mode off 4).toNat = 0x40000 + 4 * q.val →
          t.g c gd = BitVec.ofNat 32 (s.f (F.BCN_n_Qq_STATUS_WR c q))) ∧
        (∀ q : Fin 4, gd ≠ 0 → isKeeper c = false → (accessAddr s c x mode off 4).toNat = 0x40010 + 4 * q.val →
          t.g c gd = BitVec.ofNat 32 (s.f (F.BCN_n_Qq_STATUS_RD c q))) ∧
        (gd ≠ 0 → isKeeper c = true → (accessAddr s c x mode off 4).toNat < 0x80000 → t.g c gd = s.keeperWord (accessAddr s c x mode off 4).toNat) ∧
        (gd ≠ 0 → isKeeper c = true → (accessAddr s c x mode off 4).toNat = 0x30000010 → t.g c gd = if s.keeper.mbox then 1 else 0)) ∧
  CoreDoes s c (.st c ga x mode off env) (fun t => if 3 < mode.toNat then Illegal s t c
    else match s.scalarCheck c true (accessAddr s c x mode off 4) with
      | some w => Faults s t c w (accessAddr s c x mode off 4)
      | none => (isKeeper c = false → PointerMoved s t c x mode off 4 ∧ (t.cores[c]).g = (s.cores[c]).g) ∧
        (isKeeper c = false → (accessAddr s c x mode off 4).toNat < 0x40000 → t.amem = s.amem ∧
          Stored s t (xyAt c (accessAddr s c x mode off 4).toNat) (bytesOf 4 (s.g c ga).toNat)) ∧
        (isKeeper c = true → (accessAddr s c x mode off 4).toNat < 0x80000 → fetchOk c (s.pcOf c + 4) = true → t.amem = s.amem ∧
          t.keeper.storeBuf = (if 4 ≤ s.keeper.storeBuf.length then s.keeper.storeBuf.drop 1 else s.keeper.storeBuf) ++
            [((accessAddr s c x mode off 4).toNat, s.g c ga)] ∧
          t.sram = (if 4 ≤ s.keeper.storeBuf.length then drainInto s.sram (s.keeper.storeBuf.take 1) else s.sram)) ∧
        (isKeeper c = true → 0x12000000 ≤ (accessAddr s c x mode off 4).toNat → (accessAddr s c x mode off 4).toNat < 0x12200000 → fetchOk c (s.pcOf c + 4) = true →
          if s.pageBusy (((accessAddr s c x mode off 4).toNat - 0x12000000) / 0x8000) = true then
            t.sram = s.sram ∧ t.on F.KPR_LOAD_STATUS_COEF_BUSY = true
          else Stored s t ((accessAddr s c x mode off 4).toNat - 0x10000000) (bytesOf 4 (s.g c ga).toNat)))

/-- R61, R62, R67, R112, R113: dual accesses.  X before Y in the checks is log entry 13. -/
def Obligations.DualAccesses : Prop :=
  ∀ (s : State) (c : Fin 17) (vx vy : Fin 32) (px py : Fin 8) (mx my : Bool),
  CoreDoes s c (.vld2 c vx px mx vy py my) (fun t => if isKeeper c = true ∨ px = py ∨ vx = vy then Illegal s t c
    else match beaconCheck .x ((s.cores[c]).ap[px]) 32, beaconCheck .y ((s.cores[c]).ap[py]) 32 with
      | some w, _ => Faults s t c w ((s.cores[c]).ap[px])
      | none, some w => Faults s t c w ((s.cores[c]).ap[py])
      | none, none =>
        (t.cores[c]).ap[px] = (if mx then ringStep ((s.cores[c]).ap[px]) ((s.cores[c]).inc[px]) ((s.cores[c]).rs[px]) ((s.cores[c]).rz[px])
          else (s.cores[c]).ap[px]) ∧
        (t.cores[c]).ap[py] = (if my then ringStep ((s.cores[c]).ap[py]) ((s.cores[c]).inc[py]) ((s.cores[c]).rs[py]) ((s.cores[c]).rz[py])
          else (s.cores[c]).ap[py]) ∧ t.vec c vx = BitVec.ofNat 256 (Mem.readLE s.sram (xyAt c ((s.cores[c]).ap[px]).toNat) 32) ∧ t.vec c vy = BitVec.ofNat 256 (Mem.readLE s.sram (xyAt c ((s.cores[c]).ap[py]).toNat) 32) ∧
        (∀ z : Fin 32, z ≠ vx → z ≠ vy → t.vec c z = s.vec c z) ∧ t.sram = s.sram) ∧
  CoreDoes s c (.vldst c vx px mx vy py my) (fun t => if isKeeper c = true ∨ px = py then Illegal s t c
    else match beaconCheck .x ((s.cores[c]).ap[px]) 32, beaconCheck .y ((s.cores[c]).ap[py]) 32 with
      | some w, _ => Faults s t c w ((s.cores[c]).ap[px])
      | none, some w => Faults s t c w ((s.cores[c]).ap[py])
      | none, none =>
        (t.cores[c]).ap[px] = (if mx then ringStep ((s.cores[c]).ap[px]) ((s.cores[c]).inc[px]) ((s.cores[c]).rs[px]) ((s.cores[c]).rz[px])
          else (s.cores[c]).ap[px]) ∧
        (t.cores[c]).ap[py] = (if my then ringStep ((s.cores[c]).ap[py]) ((s.cores[c]).inc[py]) ((s.cores[c]).rs[py]) ((s.cores[c]).rz[py])
          else (s.cores[c]).ap[py]) ∧ t.vec c vx = BitVec.ofNat 256 (Mem.readLE s.sram (xyAt c ((s.cores[c]).ap[px]).toNat) 32) ∧ (∀ z : Fin 32, z ≠ vx → t.vec c z = s.vec c z) ∧
        Stored s t (xyAt c ((s.cores[c]).ap[py]).toNat) (bytesOf 32 (s.vec c vy).toNat)) ∧
  CoreDoes s c (.vstld c vx px mx vy py my) (fun t => if isKeeper c = true ∨ px = py then Illegal s t c
    else match beaconCheck .x ((s.cores[c]).ap[px]) 32, beaconCheck .y ((s.cores[c]).ap[py]) 32 with
      | some w, _ => Faults s t c w ((s.cores[c]).ap[px])
      | none, some w => Faults s t c w ((s.cores[c]).ap[py])
      | none, none =>
        (t.cores[c]).ap[px] = (if mx then ringStep ((s.cores[c]).ap[px]) ((s.cores[c]).inc[px]) ((s.cores[c]).rs[px]) ((s.cores[c]).rz[px])
          else (s.cores[c]).ap[px]) ∧
        (t.cores[c]).ap[py] = (if my then ringStep ((s.cores[c]).ap[py]) ((s.cores[c]).inc[py]) ((s.cores[c]).rs[py]) ((s.cores[c]).rz[py])
          else (s.cores[c]).ap[py]) ∧ t.vec c vy = BitVec.ofNat 256 (Mem.readLE s.sram (xyAt c ((s.cores[c]).ap[py]).toNat) 32) ∧ (∀ z : Fin 32, z ≠ vy → t.vec c z = s.vec c z) ∧
        Stored s t (xyAt c ((s.cores[c]).ap[px]).toNat) (bytesOf 32 (s.vec c vx).toNat)) ∧
  CoreDoes s c (.vst2 c vx px mx vy py my) (fun t => if isKeeper c = true ∨ px = py then Illegal s t c
    else match beaconCheck .x ((s.cores[c]).ap[px]) 32, beaconCheck .y ((s.cores[c]).ap[py]) 32 with
      | some w, _ => Faults s t c w ((s.cores[c]).ap[px])
      | none, some w => Faults s t c w ((s.cores[c]).ap[py])
      | none, none =>
        (t.cores[c]).ap[px] = (if mx then ringStep ((s.cores[c]).ap[px]) ((s.cores[c]).inc[px]) ((s.cores[c]).rs[px]) ((s.cores[c]).rz[px])
          else (s.cores[c]).ap[px]) ∧
        (t.cores[c]).ap[py] = (if my then ringStep ((s.cores[c]).ap[py]) ((s.cores[c]).inc[py]) ((s.cores[c]).rs[py]) ((s.cores[c]).rz[py])
          else (s.cores[c]).ap[py]) ∧ (t.cores[c]).v = (s.cores[c]).v ∧
        (Mem.wf s.sram = true → Mem.readN t.sram (xyAt c ((s.cores[c]).ap[px]).toNat) 32 = (bytesOf 32 (s.vec c vx).toNat) ∧ Mem.readN t.sram (xyAt c ((s.cores[c]).ap[py]).toNat) 32 = (bytesOf 32 (s.vec c vy).toNat)) ∧
        ∀ b, b < (xyAt c ((s.cores[c]).ap[px]).toNat) ∨ (xyAt c ((s.cores[c]).ap[px]).toNat) + 32 ≤ b → b < (xyAt c ((s.cores[c]).ap[py]).toNat) ∨ (xyAt c ((s.cores[c]).ap[py]).toNat) + 32 ≤ b → Mem.read t.sram b = Mem.read s.sram b)

/-- R5 to R7, R21, R24, R124, R353, R476: accesses through BAR0 and BAR2.  ACC_NOCLK counts only with PERST_N high and no power-on reset. -/
def Obligations.RegisterAccesses : Prop :=
  (∀ (s : State) (a : BitVec 26) (n : Nat), badRequest a.toNat n = true → ∃ t, exec (.registerRead a n) s = .next t ∧
    t.out.head? = some .unsupported ∧ (s.barUp = true → t.on F.HST_STATUS_ACC_UR = true)) ∧
  (∀ (s : State) (a : BitVec 26), a.toNat % 4 = 0 → s.answers a.toNat = false →
    ∃ t, exec (.registerRead a 4) s = .next t ∧ t.out.head? = some (.readData 0xFFFFFFFF) ∧
      (s.barUp = true → t.on F.HST_STATUS_ACC_NOCLK = true)) ∧
  (∀ s : State, s.pins.perstN = true → s.pins.por = false →
    (s.time.latch.find? fun x => x.1 = A.DEV_SCRATCH) = none →
    ∃ t, exec (.registerRead (BitVec.ofNat 26 A.DEV_SCRATCH) 4) s = .next t ∧
      t.out = .readData (s.reg A.DEV_SCRATCH).toNat :: s.out) ∧
  (∀ (s : State) (a : BitVec 26) (data : List Byte) (env : WriteEnv), badRequest a.toNat data.length = true → s.barUp = true →
    ∃ t, exec (.registerWrite a data env) s = .next t ∧ t.on F.HST_STATUS_ACC_UR = true) ∧
  (∀ (s : State) (a : BitVec 26) (v : Word) (env : WriteEnv), a.toNat % 4 = 0 →
    ∃ t, exec (.registerWrite a (bytesOf 4 v.toNat) env) s = .next t ∧
      (s.answers a.toNat = false → (s.barUp = true → t.on F.HST_STATUS_ACC_NOCLK = true) ∧
        (a.toNat < 0xD0E000 → a.toNat ≠ A.HST_STATUS → t.reg a.toNat = s.reg a.toNat)) ∧
      (s.answers a.toNat = true → pairLow a.toNat = false → pairLow (a.toNat - 4) = false →
        (isMirror a.toNat = true → t.on F.KPR_TL_STATUS_DIRECT = true ∧ OnlyReg s t A.KPR_TL_STATUS) ∧
        (isMirror a.toNat = false → a.toNat / 0x100000 ∈ [5, 6, 9, 10] → a.toNat ≠ A.TTH_CTRL → OnlyReg s t a.toNat ∧
          ∀ r, findReg a.toNat = some r → ∀ i, i < 32 → (t.reg a.toNat).getLsbD i =
            (if v.getLsbD i = true ∧ r.w1s.getLsbD i = true then true
             else if v.getLsbD i = true ∧ r.w1c.getLsbD i = true then false
             else if r.rw.getLsbD i = true then v.getLsbD i
             else (s.reg a.toNat).getLsbD i)))) ∧
  (∀ (s : State) (a : BitVec 26) (v : Word), ∃ t, exec (.mirrorWrite a v) s = .next t ∧
    (if isMirror a.toNat = true then t.on F.KPR_TL_STATUS_DIRECT = true ∧ OnlyReg s t A.KPR_TL_STATUS else t = s)) ∧
  (∀ (s : State) (w : Bar2Writer) (o : BitVec 26) (data : List Byte), Mem.wf s.sram = true →
    ∃ t, exec (.bar2Write w o data) s = .next t ∧ t.regs = s.regs ∧ t.cores = s.cores ∧ ∀ b, Mem.read t.sram b =
      (if o.toNat ≤ b ∧ b < o.toNat + data.length ∧
          ((0x1A00000 ≤ b ∧ b < 0x1E00000 ∧ s.coreState (xyCore b) ≠ 1) ∨ (w = .peer ∧ 0x2D90000 ≤ b ∧ b < 0x2DD0000)) then
        data.getD (b - o.toNat) 0 else Mem.read s.sram b))

/-- R70 to R79: the dispatch queues. -/
def Obligations.BeaconQueuesAct : Prop :=
  (∀ (s : State) (full : BitVec 16) (d : DispItem) (ds : List DispItem) (b : Binding) (n : Fin 16) (q : Fin 4),
    s.pipeRuns = true → s.disp.waiting = d :: ds → s.disp.bindings = [b] → b.takes d = true → b.set_ = [n.val] → b.q = q.val →
    ∃ t, exec (.queueEntryWrite full) s = .next t ∧ t.disp.waiting = ds ∧
      (let w := ((s.cores[bcn n]).queues[q]).wrap
       let wr := s.f (F.BCN_n_Qq_STATUS_WR n q)
       let count := s.f (F.BCN_n_Qq_SLOTS_COUNT n q)
       let slot := s.f (F.BCN_n_Qq_CFG_SLOT n q) * 32
       if full.getLsbD n.val = true ∨ (wr + w - s.f (F.BCN_n_Qq_STATUS_RD n q)) % w = count then
         t.f (F.BCN_n_Qq_STATUS_WR n q) = wr ∧ t.sram = s.sram ∧
         t.f (F.BCN_n_Qq_DROPS_DROPS n q) = min (s.f (F.BCN_n_Qq_DROPS_DROPS n q) + 1) (2 ^ (F.BCN_n_Qq_DROPS_DROPS n q).width - 1)
       else
         t.f (F.BCN_n_Qq_STATUS_WR n q) = (wr + 1) % w % 2 ^ 16 ∧
         ∃ header, header.length = 32 ∧ Stored s t
           (xyBase n (s.on (F.BCN_n_Qq_CFG_MEM n q)) + s.f (F.BCN_n_Qq_CFG_BASE n q) * 32 + wr % count * slot)
           (header ++ d.payload.take (slot - 32)))) ∧
  (∀ (s : State) (full : BitVec 16), s.pipeRuns = false ∨ s.disp.waiting = [] → exec (.queueEntryWrite full) s = .next s) ∧
  (∀ (s : State) (c : Fin 16) (q : Fin 4) (v : Word), CoreDoes s (bcn c) (.qrdWrite c q v) (fun t =>
    let w := ((s.cores[bcn c]).queues[q]).wrap
    let rd := s.f (F.BCN_n_Qq_STATUS_RD c q)
    t.f (F.BCN_n_Qq_STATUS_RD c q) = (if w = 0 then rd else
      (rd + min ((v.toNat % 65536 % w + w - rd) % w) ((s.f (F.BCN_n_Qq_STATUS_WR c q) + w - rd) % w)) % w % 2 ^ 16) ∧
    (t.cores[bcn c]).hangFrom = s.time.tRun ∧ ∀ a, a ≠ A.BCN_n_Qq_STATUS c q → t.reg a = s.reg a)) ∧
  (∀ (s : State) (c : Fin 16) (a : Word), CoreDoes s (bcn c) (.post c a) (fun t =>
    let k := s.cores[bcn c]
    t.regs = s.regs ∧
    (if k.posts.length < 8 then (t.cores[bcn c]).posts = k.posts ++ [{ addr := a, flags := k.flagAcc }] ∧
        (t.cores[bcn c]).flagAcc = 0
      else (t.cores[bcn c]).posts = k.posts ∧ (t.cores[bcn c]).stall = some (.post a)))) ∧
  (∀ (s : State) (c : Fin 16) (p : Post) (ps : List Post), (s.cores[bcn c]).posts = p :: ps →
    (s.cores[bcn c]).stall = none → ∃ t, exec (.postCopied c) s = .next t ∧ (t.cores[bcn c]).posts = ps ∧
      t.f (F.BCN_n_POSTED_POSTED c) = (s.f (F.BCN_n_POSTED_POSTED c) + 1) % 2 ^ (F.BCN_n_POSTED_POSTED c).width) ∧
  (∀ (s : State) (c : Fin 16) (q : Fin 4) (v : Word),
    (∃ t, exec (.queueCfgWrite c q false v) s = .next t ∧
      (if ((s.cores[bcn c]).queues[q]).bound = true then t.on (F.BCN_n_ATTN_CFG_BUSY c) = true ∧
        t.reg (A.BCN_n_Qq_CFG c q) = s.reg (A.BCN_n_Qq_CFG c q)
      else t.reg (A.BCN_n_Qq_CFG c q) = v &&& 0x8FFF1FFF#32 ∧ OnlyReg s t (A.BCN_n_Qq_CFG c q))) ∧
    (∃ t, exec (.queueCfgWrite c q true v) s = .next t ∧
      (if ((s.cores[bcn c]).queues[q]).bound = true then t.on (F.BCN_n_ATTN_CFG_BUSY c) = true ∧
        t.f (F.BCN_n_Qq_SLOTS_COUNT c q) = s.f (F.BCN_n_Qq_SLOTS_COUNT c q)
      else t.f (F.BCN_n_Qq_SLOTS_COUNT c q) = v.toNat % 2 ^ (F.BCN_n_Qq_SLOTS_COUNT c q).width))) ∧
  (∀ (s s2 : State) (label : Long) (e : Entry) (tab : List Byte) (n : Fin 16) (q : Fin 4),
    Takes s 13 (fun x => decide (x < 0x40)) label e tab s2 → e.sel = 4 * n.val + q.val → e.table = none →
    s2.bindReason n q e.opnd = 0 → ∃ t, exec (.bind label) s = .next t ∧
      (if e.opnd.toNat % 16 = 0 then
        (s2.bindingOf n q ≠ none → t.reg (A.BCN_BIND_n_q n q) = 0 ∧ ((t.cores[bcn n]).queues[q]).bound = false)
       else t.reg (A.BCN_BIND_n_q n q) = e.opnd ∧ t.f (F.BCN_n_Qq_STATUS_WR n q) = 0 ∧ t.f (F.BCN_n_Qq_STATUS_RD n q) = 0 ∧
        ((t.cores[bcn n]).queues[q]).bound = true)) ∧
  (∀ (s s2 : State) (label : Long) (e : Entry) (tab : List Byte) (n : Fin 16) (q : Fin 4),
    Takes s 13 (fun x => decide (0x40 ≤ x)) label e tab s2 → e.sel = 0x40 + 4 * n.val + q.val → e.table = none → e.opnd.toNat < 64 →
    ∃ t, exec (.cpage label) s = .next t ∧
      (match s2.bindingOf n q with
       | none => t.f F.BCN_LAST_REFUSE_REASON = 6
       | some b => n.val ∈ b.set_ → t.f (F.BCN_CPAGE_n_q_PAGE n q) = e.opnd.toNat))

/-- R58, R59, R81, R82, R90: Beacon cores.  CAUSE 2 at a BCN_RUN start is the model's reading (NOTES.md). -/
def Obligations.BeaconCoresRun : Prop :=
  (∀ (s : State) (c : Fin 16) (code : BitVec 4) (addr : Word), ∃ t, exec (.beaconFault c code addr) s = .next t ∧
    (if 1 ≤ code.toNat ∧ code.toNat ≤ 7 ∧ s.coreState (bcn c) = 1 then t.f (bcnState c) = 2 ∧
      t.f (F.BCN_n_FAULT_CODE c) = code.toNat ∧ t.reg (A.BCN_n_FAULT_ADDR c) = addr ∧
      t.reg (A.BCN_n_PC c) = s.pcOf (bcn c) else t = s)) ∧
  (∀ (s : State) (c : Fin 16), ∃ t, exec (.beaconHang c) s = .next t ∧
    (let u := s.settleCore (bcn c)
     if u.coreState (bcn c) = 1 ∧ u.f (F.BCN_n_WDOG_CYCLES c) ≠ 0 ∧ (∀ q v, (u.cores[bcn c]).stall ≠ some (.waitq q v)) ∧
        u.f (F.BCN_n_WDOG_CYCLES c) * 256 ≤ (u.time.tRun - (u.cores[bcn c]).hangFrom) / u.ticksPerUs then
      t.f (bcnState c) = 2 ∧ t.f (F.BCN_n_FAULT_CODE c) = 7 ∧ t.reg (A.BCN_n_FAULT_ADDR c) = u.pcOf (bcn c) else t = u)) ∧
  (∀ (s : State) (c : Fin 16), ∃ t, exec (.beaconRestart c) s = .next t ∧
    (if s.f (bcnState c) = 2 ∧ s.f (F.BCN_n_FAULT_CODE c) ≠ 6 ∧ (s.reg A.BCN_AUTORESTART).getLsbD c = true then
      t.f (bcnState c) = 3 ∧ t.pcOf (bcn c) = (s.cores[bcn c]).restartPc ∧ (t.cores[bcn c]).flagAcc = Flag.gap ∧
      (t.cores[bcn c]).startAt = s.time.samples + s.ticksPerUs * 60 / 1000 ∧
      (t.cores[bcn c]).cst.toNat / 16 % 16 = 1 ∧ ∀ r, t.g (bcn c) r = 0 else t = s)) ∧
  (∀ (s : State) (c : Fin 16), s.f (bcnState c) = 3 → (s.cores[bcn c]).startAt ≤ s.time.samples →
    ∃ t, exec (.bcnRun (1 <<< c.val)) s = .next t ∧
    (if fetchOk (bcn c) (s.cores[bcn c]).restartPc = true then t.f (bcnState c) = 1 ∧
        t.pcOf (bcn c) = (s.cores[bcn c]).restartPc ∧ (t.cores[bcn c]).cst.toNat / 16 % 16 = 1 ∧
        (t.cores[bcn c]).flagAcc = (s.cores[bcn c]).flagAcc
      else t.f (bcnState c) = 2 ∧ t.f (F.BCN_n_FAULT_CODE c) = 2 ∧
        t.reg (A.BCN_n_FAULT_ADDR c) = (s.cores[bcn c]).restartPc)) ∧
  (∀ (s : State) (c : Fin 16), s.f (bcnState c) = 0 → ∃ t, exec (.bcnRun (1 <<< c.val)) s = .next t ∧
    (if fetchOk (bcn c) (s.cores[bcn c]).entryPc = true then t.f (bcnState c) = 1 ∧
        t.pcOf (bcn c) = (s.cores[bcn c]).entryPc ∧ (t.cores[bcn c]).cst.toNat / 16 % 16 = 2 ∧ ∀ r, t.g (bcn c) r = 0
      else t.f (bcnState c) = 2 ∧ t.f (F.BCN_n_FAULT_CODE c) = 2 ∧
        t.reg (A.BCN_n_FAULT_ADDR c) = (s.cores[bcn c]).entryPc)) ∧
  (∀ (s : State) (c : Fin 16), s.f (bcnState c) = 1 → (s.cores[bcn c]).stall = none →
    ∃ t, exec (.bcnHalt (1 <<< c.val)) s = .next t ∧ t.f (bcnState c) = 0 ∧ t.reg (A.BCN_n_PC c) = s.pcOf (bcn c) ∧
      t.cores = s.cores) ∧
  (∀ s : State, exec (.bcnRun 0) s = .next s ∧ exec (.bcnHalt 0) s = .next s) ∧
  (∀ (s : State) (c : Fin 16) (v : Word), ∃ t, exec (.bcnWdogWrite c v) s = .next t ∧
    t.f (F.BCN_n_WDOG_CYCLES c) = v.toNat % 2 ^ (F.BCN_n_WDOG_CYCLES c).width ∧
    (t.cores[bcn c]).hangFrom = s.time.tRun ∧ (t.cores[bcn c]).waitFrom = s.time.tRun)

/-- R83 to R86, R89, R438: the Keeper. -/
def Obligations.KeeperRuns : Prop :=
  (∀ (s : State) (code : BitVec 4) (addr : Word), ∃ t, exec (.keeperTrap code addr) s = .next t ∧
    (if code.toNat ∈ [1, 2, 3, 4, 6, 8] ∧ s.f F.KPR_STATUS_STATE = 1 then
      (if (s.cores[keeperNo]).trapOn = true then t.f F.KPR_TRAP_CODE = code.toNat ∧ t.reg A.KPR_TRAP_ADDR = addr ∧
         t.f F.KPR_STATUS_STATE = 3 ∧ t.keeper.cause = 4
       else if fetchOk keeperNo (s.cores[keeperNo]).trapPc = true then
         t.f F.KPR_TRAP_CODE = code.toNat ∧ t.reg A.KPR_TRAP_ADDR = addr ∧
         t.pcOf keeperNo = (s.cores[keeperNo]).trapPc ∧ (t.cores[keeperNo]).epc = s.pcOf keeperNo ∧
         (t.cores[keeperNo]).shadow = (s.cores[keeperNo]).loops ∧
         (t.cores[keeperNo]).trapOn = true ∧ (t.cores[keeperNo]).loops = []
       else t.f F.KPR_TRAP_CODE = 2 ∧ t.reg A.KPR_TRAP_ADDR = (s.cores[keeperNo]).trapPc ∧ t.f F.KPR_STATUS_STATE = 3 ∧
         t.keeper.cause = 4) else t = s)) ∧
  (∀ s : State, ∃ t, exec .kprWdtExpire s = .next t ∧
    (if s.on F.KPR_WDT_CTRL_EN = true ∧ s.f F.PWR_STATUS_STATE < 3 then t.on F.RST_CAUSE_WDT = true ∧
      (s.f F.KPR_STATUS_STATE ∈ [1, 2] → t.f F.KPR_STATUS_STATE = 3 ∧ t.keeper.cause = 3) else t = s)) ∧
  (∀ (s : State) (v : Word), ∃ t, exec (.wdtCtrlWrite v) s = .next t ∧
    (if s.on F.KPR_WDT_CTRL_EN = true then t = s
     else if 10 ≤ bitsOf v.toNat 1 20 ∧ bitsOf v.toNat 1 20 ≤ 1000000 then
       t.f F.KPR_WDT_CTRL_PERIOD = bitsOf v.toNat 1 20 ∧ t.on F.KPR_WDT_CTRL_EN = v.getLsbD 0
     else t.f F.KPR_WDT_CTRL_PERIOD = s.f F.KPR_WDT_CTRL_PERIOD)) ∧
  (∀ (s : State) (v : Word), ∃ t, exec (.wdtKick v) s = .next t ∧
    (if v.toNat % 65536 = 0x5A5A ∧ s.on F.KPR_WDT_CTRL_EN = true then
      t.f F.KPR_WDT_LEFT_LEFT = s.f F.KPR_WDT_CTRL_PERIOD ∧ t.keeper.wdtFrom = s.time.samples else t = s)) ∧
  (∀ s : State, ∃ t, exec .kprHalt s = .next t ∧ t.on F.KPR_CTRL_HALT = true ∧
    (s.f F.KPR_STATUS_STATE = 1 → t.f F.KPR_STATUS_STATE = 2 ∧ t.reg A.KPR_PC = s.pcOf keeperNo ∧
      (t.cores[keeperNo]).stall = none)) ∧
  (∀ s : State, ∃ t, exec .kprResume s = .next t ∧ t.on F.KPR_CTRL_HALT = false ∧
    t.f F.KPR_STATUS_STATE = (if s.f F.KPR_STATUS_STATE = 2 then 1 else s.f F.KPR_STATUS_STATE)) ∧
  (∀ s : State, ∃ t, exec .kprRestart s = .next t ∧
    (if s.f F.KPR_STATUS_STATE = 0 ∨ s.f F.KPR_STATUS_STATE = 3 then t = s
     else t.f F.KPR_STATUS_STATE = 3 ∧ t.keeper.cause = 2 ∧ t.keeper.storeBuf = [] ∧
       t.sram = drainInto s.sram s.keeper.storeBuf ∧ t.tl.held = none)) ∧
  (∀ s : State, ∃ t, exec .keeperRestartDone s = .next t ∧
    (s.f F.KPR_STATUS_STATE = 3 →
      if digest s.codeDigest = s.keeper.codeHash then t.on F.KPR_STATUS_CODE_OK = true ∧
        (fetchOk keeperNo (s.cores[keeperNo]).restartPc = true ∨ s.on F.KPR_CTRL_HALT = true →
          t.pcOf keeperNo = (s.cores[keeperNo]).restartPc) ∧
        (fetchOk keeperNo (s.cores[keeperNo]).restartPc = true ∨ fetchOk keeperNo (s.cores[keeperNo]).trapPc = true ∨
            s.on F.KPR_CTRL_HALT = true →
          t.f F.KPR_STATUS_STATE = (if s.on F.KPR_CTRL_HALT = true then 2 else 1)) ∧
        t.f F.KPR_STATUS_CAUSE = s.keeper.cause % 2 ^ F.KPR_STATUS_CAUSE.width
      else t.on F.KPR_STATUS_CODE_OK = false ∧ t.pwrState = 4)) ∧
  (∀ s : State, ∃ t, exec .mboxDbRing s = .next t ∧ t.keeper.mbox = true ∧ t.regs = s.regs) ∧
  (∀ (s : State) (v : Word), ∃ t, exec (.mboxOut7Write v) s = .next t ∧ t.reg (A.KPR_MBOX_OUTi 7) = v)

/-- R129 to R133, R145, R146, R155 to R157, R162: entries of units 0 and 1. -/
def Obligations.LampEntriesAct : Prop :=
  (∀ (s : State) (n : Fin 2) (label : Long) (b0 b1 : Bool),
  EntryActs s (lampUnit n) (fun x => x = 0) label (.atten n label)
    (fun e _ _ => e.opnd.toNat % 32 ≠ 31 ∧ e.opnd.toNat < 32)
    (fun e _ s2 t => t.reg (lampMirror n 0) = e.opnd ∧ t.on (F.LMP_n_STATUS_SETTLING n) = true ∧
      (t.lamp.get n).stepEnd = s2.sampleOf label + 96 ∧ t.on (ftHold n 0) = true ∧ t.on (ftHold n 1) = true) ∧
  EntryActs s (lampUnit n) (fun x => x = 1) label (.preamp n label)
    (fun e _ _ => e.opnd.toNat < 2)
    (fun e _ s2 t => t.reg (lampMirror n 1) = e.opnd ∧ t.on (F.LMP_n_STATUS_SETTLING n) = true ∧
      (t.lamp.get n).stepEnd = s2.sampleOf label + 96 ∧ t.on (ftHold n 0) = true ∧ t.on (ftHold n 1) = true) ∧
  EntryActs s (lampUnit n) (fun x => x = 2 || x = 3) label (.ftThr n label)
    (fun e _ _ => e.opnd.toNat < 1024)
    (fun e _ _ t => t.reg (lampMirror n e.sel) = e.opnd ∧ t.on (ftHold n (if e.sel = 2 then 0 else 1)) = true) ∧
  EntryActs s (lampUnit n) (fun x => x = 4) label (.ftCtrl n label b0 b1)
    (fun e _ _ => e.opnd.toNat < 65536)
    (fun e _ _ t => t.reg (lampMirror n 4) = e.opnd ∧ ∀ c : Fin 2, t.on (cmpBit n c) = t.level n c)) ∧
  (∀ (s : State) (u : Fin 15), ∃ t, exec (.lampEntryArrive u) s = .next t ∧
    match splitTransit (s.tl.queues[u]) with
    | none => t = s
    | some (a, e, b) => t.tl.queues[u] = a ++ { e with phase :=
        if e.imm = false ∧ e.target.toNat < s.time.tick.toNat then .reported else .stored, from_ :=
        if e.imm = false ∧ e.target.toNat < s.time.tick.toNat then e.from_ else s.time.samples } :: b)

/-- R152, R153, R156 to R159, R164: the inputs of the lamp. -/
def Obligations.LampInputsAct : Prop :=
  ∀ (s : State) (n c : Fin 2) (v : Bool) (label : Long),
  (∃ t, exec (.frontEndStepEnd n) s = .next t ∧
    if s.good.sclk = true then t.on (F.LMP_n_STATUS_SETTLING n) = false else t = s) ∧
  (∃ t, exec (.thresholdHoldEnd n c) s = .next t ∧
    if s.good.sclk = true then t.on (ftHold n c) = false ∧ (s.on (ftHold n c) = true → t.on (cmpBit n c) = t.level n c)
    else t = s) ∧
  (∃ t, exec (.comparatorTransition n c v label) s = .next t ∧ (t.cmp n c).live = v ∧
    (if (s.advanceTo label).on (ftHold n c) = true then t.on (cmpBit n c) = (s.advanceTo label).on (cmpBit n c)
     else t.on (cmpBit n c) = ((s.advanceTo label).on (ftEn n c) && v))) ∧
  (∃ t, exec (.ovrFire n label) s = .next t ∧ t.on (F.LMP_n_STATUS_OVR_SEEN n) = true ∧
    t.on (F.LMP_n_STATUS_OVR_ACTIVE n) = true ∧ (s.advanceTo label).sampleOf label + 128 ≤ (t.lamp.get n).ovrEnd) ∧
  (∃ t, exec (.tripFire n label) s = .next t ∧ t.on (F.LMP_n_STATUS_TRIP_SEEN n) = true ∧
    t.on (F.LMP_n_STATUS_OVR_ACTIVE n) = true ∧ (s.advanceTo label).sampleOf label + 384 ≤ (t.lamp.get n).ovrEnd ∧
    t.on (F.LMP_n_STATUS_EPISODE n) = true ∧
    ((s.advanceTo label).on (F.LMP_n_STATUS_EPISODE n) = false → t.on (F.CAL_n_STATUS_FRZ_EP n) = true ∧
      (t.lamp.get n).lastFire = (s.advanceTo label).sampleOf label)) ∧
  (∃ t, exec (.ovrMarkEnd n) s = .next t ∧ t.on (F.LMP_n_STATUS_OVR_ACTIVE n) = false) ∧
  (∃ t, exec (.overloadEpisodeEnd n) s = .next t ∧ t.on (F.LMP_n_STATUS_EPISODE n) = false ∧
    (s.on (F.LMP_n_STATUS_EPISODE n) = true → t.on (F.CAL_n_STATUS_FRZ_EP n) = false)) ∧
  (∃ t, exec (.peakClear n) s = .next t ∧ t.f (F.LMP_n_PEAK_PEAK n) = 0 ∧ OnlyReg s t (A.LMP_n_PEAK n))

/-- R125, R218 to R221, R223, R227, R228, R232: entries of units 2 and 3. -/
def Obligations.FilterEntriesAct : Prop :=
  ∀ (s : State) (n : Fin 2) (label : Long),
  EntryActs s (2 + n.castLE (by decide)) (fun x => x < 2) label (.ncoFreq n label)
    (fun e _ _ => e.sel = 0 ∨ e.opnd.toNat < 65536)
    (fun e _ s2 t => if e.sel = 0 then t.stagedLo (2 + n.val) 0 = e.opnd.toNat
      else t.ncoStored n = s2.stagedLo (2 + n.val) 0 + e.opnd.toNat * 2 ^ 32) ∧
  EntryActs s (2 + n.castLE (by decide)) (fun x => x = 2) label (.ncoPhase n label)
    (fun e _ _ => e.opnd.toNat < 65536)
    (fun e _ _ t => t.reg (fltMirror n 2) = e.opnd) ∧
  EntryActs s (2 + n.castLE (by decide)) (fun x => x = 3) label (.decK n label)
    (fun e _ _ => e.opnd.toNat ≤ 20)
    (fun e _ s2 t => t.reg (fltMirror n 3) = e.opnd ∧
      ((s2.flt.get n).grids ≠ [] → t.f (F.FLT_n_STATUS_K_EFF n) = if s2.fltFull n = true then 1 else e.opnd.toNat)) ∧
  EntryActs s (2 + n.castLE (by decide)) (fun x => x = 4) label (.spanMode n label)
    (fun e _ _ => e.opnd.toNat < 2)
    (fun e _ s2 t => t.reg (fltMirror n 4) = e.opnd ∧
      ((s2.flt.get n).grids ≠ [] → t.on (F.FLT_n_STATUS_FULL n) = e.opnd.getLsbD 0)) ∧
  EntryActs s (2 + n.castLE (by decide)) (fun x => x = 5) label (.rankCtrl n label)
    (fun e _ _ => bitsOf e.opnd.toNat 2 3 ≤ 4 ∧ e.opnd.toNat < 512 ∧ bitsOf e.opnd.toNat 5 4 ≤ rankM e.opnd)
    (fun e _ _ t => t.reg (fltMirror n 5) = e.opnd) ∧
  EntryActs s (2 + n.castLE (by decide)) (fun x => x = 6) label (.thrHigh n label)
    (fun e _ s2 => (s2.reg (fltMirror n 7)).toNat ≤ e.opnd.toNat)
    (fun e _ _ t => t.reg (fltMirror n 6) = e.opnd) ∧
  EntryActs s (2 + n.castLE (by decide)) (fun x => x = 7) label (.thrLow n label)
    (fun e _ s2 => e.opnd.toNat ≤ (s2.reg (fltMirror n 6)).toNat)
    (fun e _ _ t => t.reg (fltMirror n 7) = e.opnd) ∧
  EntryActs s (2 + n.castLE (by decide)) (fun x => x = 8) label (.outCtrl n label)
    (fun e _ _ => e.opnd.toNat % 16 ≤ 12 ∧ e.opnd.toNat < 128)
    (fun e _ _ t => t.reg (fltMirror n 8) = e.opnd)

/-- R238, R239, R241, R242, R245, R247 to R249, R254, R255: entries of units 4 and 5. -/
def Obligations.LensEntriesAct : Prop :=
  ∀ (s : State) (n : Fin 2) (label : Long),
  EntryActs s (4 + n.castLE (by decide)) (fun x => x = 0) label (.enable n label)
    (fun e _ _ => e.opnd.toNat < 2)
    (fun e _ s2 t => t.reg (lnsMirror n 0) = e.opnd ∧
      (t.lns.get n).newest = { (s2.lns.get n).newest with en := e.opnd.getLsbD 0, n := (t.lns.get n).newest.n, regrid := (t.lns.get n).newest.regrid }) ∧
  EntryActs s (4 + n.castLE (by decide)) (fun x => x = 1) label (.fftLog2n n label)
    (fun e _ s2 => 8 ≤ e.opnd.toNat ∧ e.opnd.toNat ≤ 16 ∧ 512 ≤ 2 ^ (e.opnd.toNat - (s2.lns.get n).newest.div) * 2 ^ s2.fltKAt n (s2.sampleOf label) ∧
      -(2 ^ (e.opnd.toNat - 1) : Nat) ≤ (s2.lns.get n).newest.first ∧ (s2.lns.get n).newest.last < (2 ^ (e.opnd.toNat - 1) : Nat) ∧ (s2.lns.get n).newest.first ≤ (s2.lns.get n).newest.last ∧ ((s2.lns.get n).newest.win = 5 → 0 < uwinSum (s2.lns.get n).newest.uwin (2 ^ e.opnd.toNat)))
    (fun e _ s2 t => t.reg (lnsMirror n 1) = e.opnd ∧
      (t.lns.get n).newest = { (s2.lns.get n).newest with log2n := e.opnd.toNat, n := (t.lns.get n).newest.n, regrid := (t.lns.get n).newest.regrid }) ∧
  EntryActs s (4 + n.castLE (by decide)) (fun x => x = 2) label (.window n label)
    (fun e _ s2 => e.opnd.toNat ≤ 5 ∧ (e.opnd.toNat = 5 → 0 < uwinSum (s2.lns.get n).newest.uwin (2 ^ (s2.lns.get n).newest.log2n)))
    (fun e _ s2 t => t.reg (lnsMirror n 2) = e.opnd ∧
      (t.lns.get n).newest = { (s2.lns.get n).newest with win := e.opnd.toNat, n := (t.lns.get n).newest.n, regrid := (t.lns.get n).newest.regrid }) ∧
  EntryActs s (4 + n.castLE (by decide)) (fun x => x = 3) label (.kaiserBeta n label)
    (fun e _ _ => e.opnd.toNat ≤ 10240)
    (fun e _ s2 t => t.reg (lnsMirror n 3) = e.opnd ∧
      (t.lns.get n).newest = { (s2.lns.get n).newest with beta := e.opnd.toNat, n := (t.lns.get n).newest.n, regrid := (t.lns.get n).newest.regrid }) ∧
  EntryActs s (4 + n.castLE (by decide)) (fun x => x = 4) label (.hopDiv n label)
    (fun e _ s2 => e.opnd.toNat ≤ 4 ∧ e.opnd.toNat ≤ maxDiv (s2.fltKAt n (s2.sampleOf label)) ∧ 512 ≤ 2 ^ ((s2.lns.get n).newest.log2n - e.opnd.toNat) * 2 ^ s2.fltKAt n (s2.sampleOf label))
    (fun e _ s2 t => t.reg (lnsMirror n 4) = e.opnd ∧
      (t.lns.get n).newest = { (s2.lns.get n).newest with div := e.opnd.toNat, n := (t.lns.get n).newest.n, regrid := (t.lns.get n).newest.regrid }) ∧
  EntryActs s (4 + n.castLE (by decide)) (fun x => x = 5) label (.detMode n label)
    (fun e _ _ => e.opnd.toNat ≤ 4)
    (fun e _ s2 t => t.reg (lnsMirror n 5) = e.opnd ∧
      (t.lns.get n).newest = { (s2.lns.get n).newest with det := e.opnd.toNat, n := (t.lns.get n).newest.n, regrid := (t.lns.get n).newest.regrid }) ∧
  EntryActs s (4 + n.castLE (by decide)) (fun x => x = 6) label (.detCount n label)
    (fun e _ _ => 1 ≤ e.opnd.toNat ∧ e.opnd.toNat ≤ 65536)
    (fun e _ s2 t => t.reg (lnsMirror n 6) = e.opnd ∧
      (t.lns.get n).newest = { (s2.lns.get n).newest with m := e.opnd.toNat, n := (t.lns.get n).newest.n, regrid := (t.lns.get n).newest.regrid }) ∧
  EntryActs s (4 + n.castLE (by decide)) (fun x => x = 7) label (.binFirst n label)
    (fun e _ s2 => e.opnd.toNat < 2 ^ 17 ∧ -(2 ^ ((s2.lns.get n).newest.log2n - 1) : Nat) ≤ binOf e.opnd.toNat ∧ (s2.lns.get n).newest.last < (2 ^ ((s2.lns.get n).newest.log2n - 1) : Nat) ∧ binOf e.opnd.toNat ≤ (s2.lns.get n).newest.last)
    (fun e _ s2 t => t.reg (lnsMirror n 7) = e.opnd ∧
      (t.lns.get n).newest = { (s2.lns.get n).newest with first := binOf e.opnd.toNat, n := (t.lns.get n).newest.n, regrid := (t.lns.get n).newest.regrid }) ∧
  EntryActs s (4 + n.castLE (by decide)) (fun x => x = 8) label (.binLast n label)
    (fun e _ s2 => e.opnd.toNat < 2 ^ 17 ∧ -(2 ^ ((s2.lns.get n).newest.log2n - 1) : Nat) ≤ (s2.lns.get n).newest.first ∧ binOf e.opnd.toNat < (2 ^ ((s2.lns.get n).newest.log2n - 1) : Nat) ∧ (s2.lns.get n).newest.first ≤ binOf e.opnd.toNat)
    (fun e _ s2 t => t.reg (lnsMirror n 8) = e.opnd ∧
      (t.lns.get n).newest = { (s2.lns.get n).newest with last := binOf e.opnd.toNat, n := (t.lns.get n).newest.n, regrid := (t.lns.get n).newest.regrid }) ∧
  EntryActs s (4 + n.castLE (by decide)) (fun x => x = 9) label (.format n label)
    (fun e _ _ => e.opnd.toNat < 2)
    (fun e _ s2 t => t.reg (lnsMirror n 9) = e.opnd ∧
      (t.lns.get n).newest = { (s2.lns.get n).newest with lin := e.opnd.getLsbD 0, n := (t.lns.get n).newest.n, regrid := (t.lns.get n).newest.regrid }) ∧
  EntryActs s (4 + n.castLE (by decide)) (fun x => x = 0x10000) label (.userWindow n label)
    (fun _ tab s2 => ((s2.lns.get n).newest.win = 5 → 0 < uwinSum tab (2 ^ (s2.lns.get n).newest.log2n)))
    (fun _ tab s2 t => (t.lns.get n).newest = { (s2.lns.get n).newest with uwin := tab, n := (t.lns.get n).newest.n, regrid := (t.lns.get n).newest.regrid })

/-- R217, R222, R224, R240, R253, R256: outputs of the filter chains and Lens engines. -/
def Obligations.FilterAndLensOutputsGoOn : Prop :=
  ∀ (s : State) (n : Fin 2) (codes : List (BitVec 12)),
  (∃ t, exec (.filterOutput n codes) s = .next t ∧ (s.pipeRuns = false → t = s) ∧ (s.pipeRuns = true →
    match ((s.fltReady n).flt.get n).grids with
    | [] => t = s
    | g :: _ => if codes.length = supportLen g.k then
        ∃ g' gs, (t.flt.get n).grids = g' :: gs ∧ g'.origin = g.origin ∧ g'.made = g.made + 1 ∧ g'.next = g.next + 2 ^ g.k
      else t = s)) ∧
  (∃ t, exec (.lensFrame n) s = .next t ∧ (s.pipeRuns = false → t = s) ∧ (s.pipeRuns = true →
    match (s.lns.get n).ready with
    | [] => t = s
    | f :: fs =>
      (let u := (s.modLns n fun l => { l with ready := fs }).lnsDue f
       (t.lns.get n).ready = (u.lns.get n).ready ∧
       t.pair (A.LNS_n_FRAMES_LO n) = (u.pair (A.LNS_n_FRAMES_LO n) + 1) % 2 ^ 64 ∧
       t.f (F.LNS_n_MAX_EXP_E n) = max (u.f (F.LNS_n_MAX_EXP_E n)) f.power.2.2 % 2 ^ (F.LNS_n_MAX_EXP_E n).width ∧
       (t.specs.get n).length = (u.specs.get n).length + 1))) ∧
  (∃ t, exec (.maxExpClear n) s = .next t ∧ t.f (F.LNS_n_MAX_EXP_E n) = 0 ∧ OnlyReg s t (A.LNS_n_MAX_EXP n))

/-- R260 to R267, R271, R272, R276 to R283: entries of unit 6. -/
def Obligations.SectorEntriesAct : Prop :=
  ∀ (s : State) (label : Long),
  EntryActs s 6 (fun x => x < 16) label (.maskCtrl label)
    (fun e _ s2 => bitsOf e.opnd.toNat 13 3 ≤ 3 ∧ 1 ≤ bitsOf e.opnd.toNat 16 11 ∧ bitsOf e.opnd.toNat 16 11 ≤ 1024 ∧ e.opnd.toNat < 2 ^ 29 ∧
      (e.opnd.getLsbD 27 = true → 2 ≤ bitsOf e.opnd.toNat 0 13 ∧ bitsOf e.opnd.toNat 0 13 ≤ 4096 ∧ maskFalls ((s2.sec.masks[(⟨e.sel % 16, Nat.mod_lt _ (by decide)⟩ : Fin 16)]).cfgs.headD (0, 0, [])).2.2 (bitsOf e.opnd.toNat 0 13) = false))
    (fun e _ s2 t => t.reg (secMirror e.sel) = e.opnd ∧ ((t.sec.masks[(⟨e.sel % 16, Nat.mod_lt _ (by decide)⟩ : Fin 16)]).cfgs.headD (0, 0, [])) =
      ((s2.sec.masks[(⟨e.sel % 16, Nat.mod_lt _ (by decide)⟩ : Fin 16)]).from_ (s2.sampleOf (s2.entryAt 6 label e)), e.opnd, ((s2.sec.masks[(⟨e.sel % 16, Nat.mod_lt _ (by decide)⟩ : Fin 16)]).cfgs.headD (0, 0, [])).2.2)) ∧
  EntryActs s 6 (fun x => 0x10000 ≤ x && x < 0x10010) label (.mask label)
    (fun e tab s2 => (((s2.sec.masks[(⟨e.sel % 16, Nat.mod_lt _ (by decide)⟩ : Fin 16)]).cfgs.headD (0, 0, [])).2.1).getLsbD 27 = true → maskFalls tab (bitsOf (((s2.sec.masks[(⟨e.sel % 16, Nat.mod_lt _ (by decide)⟩ : Fin 16)]).cfgs.headD (0, 0, [])).2.1).toNat 0 13) = false)
    (fun e tab s2 t => ((t.sec.masks[(⟨e.sel % 16, Nat.mod_lt _ (by decide)⟩ : Fin 16)]).cfgs.headD (0, 0, [])) =
      ((s2.sec.masks[(⟨e.sel % 16, Nat.mod_lt _ (by decide)⟩ : Fin 16)]).from_ (s2.sampleOf (s2.entryAt 6 label e)), ((s2.sec.masks[(⟨e.sel % 16, Nat.mod_lt _ (by decide)⟩ : Fin 16)]).cfgs.headD (0, 0, [])).2.1, tab)) ∧
  EntryActs s 6 (fun x => 0x10 ≤ x && x < 0x14) label (.progCtrl label)
    (fun e _ _ => e.opnd.toNat < 2)
    (fun e _ s2 t => t.reg (secMirror e.sel) = e.opnd ∧
      t.on (F.SEC_PROG_n_STATUS_EN (e.sel % 4)) = e.opnd.getLsbD 0 ∧
      (let p : Fin 4 := ⟨e.sel % 4, Nat.mod_lt _ (by decide)⟩
       (t.sec.progs[p]).newest = { (s2.sec.progs[p]).newest with n := s2.progFrom p label e, en := e.opnd.getLsbD 0 })) ∧
  EntryActs s 6 (fun x => 0x10010 ≤ x && x < 0x10014) label (.prog label)
    (fun _ tab _ => (({ ProgCfg.zero true with table := tab ++ List.replicate (4096 - tab.length) 0 } : ProgCfg).faults.any
      (·.1)) = false)
    (fun e tab s2 t =>
      (let p : Fin 4 := ⟨e.sel % 4, Nat.mod_lt _ (by decide)⟩
       (t.sec.progs[p]).newest = { (s2.sec.progs[p]).newest with
         n := s2.progFrom p label e, table := tab ++ List.replicate (4096 - tab.length) 0 })) ∧
  SecActs s (fun x => x = 32 || x = 33) label (.holdoff label)
    (fun e _ s2 => (e.sel = 32 ∨ (4096 ≤ (s2.stagedLo 6 32 + e.opnd.toNat * 2 ^ 32) ∧ (s2.stagedLo 6 32 + e.opnd.toNat * 2 ^ 32) ≤ 2 ^ 48 - 1)))
    (fun e _ s2 t => if e.sel = 32 then t.stagedLo 6 32 = e.opnd.toNat else t.pair (secMirror 32) = (s2.stagedLo 6 32 + e.opnd.toNat * 2 ^ 32)) ∧
  SecActs s (fun x => x = 34 || x = 35) label (.auto label)
    (fun e _ s2 => (e.sel = 34 ∨ ((s2.stagedLo 6 34 + e.opnd.toNat * 2 ^ 32) ≤ 2 ^ 48 - 1)))
    (fun e _ s2 t => if e.sel = 34 then t.stagedLo 6 34 = e.opnd.toNat else t.pair (secMirror 34) = (s2.stagedLo 6 34 + e.opnd.toNat * 2 ^ 32)) ∧
  SecActs s (fun x => x = 36 || x = 37) label (.pre label)
    (fun e _ s2 => s2.on F.SEC_STATUS_ARMED = false ∧ (e.sel = 36 ∨ ((s2.stagedLo 6 36 + e.opnd.toNat * 2 ^ 32) ≤ 2 ^ 40)))
    (fun e _ s2 t => if e.sel = 36 then t.stagedLo 6 36 = e.opnd.toNat else t.pair (secMirror 36) = (s2.stagedLo 6 36 + e.opnd.toNat * 2 ^ 32)) ∧
  SecActs s (fun x => x = 38 || x = 39) label (.sectorPost label)
    (fun e _ s2 => s2.on F.SEC_STATUS_ARMED = false ∧ (e.sel = 38 ∨ (1 ≤ (s2.stagedLo 6 38 + e.opnd.toNat * 2 ^ 32) ∧ (s2.stagedLo 6 38 + e.opnd.toNat * 2 ^ 32) ≤ 2 ^ 48 - 1)))
    (fun e _ s2 t => if e.sel = 38 then t.stagedLo 6 38 = e.opnd.toNat else t.pair (secMirror 38) = (s2.stagedLo 6 38 + e.opnd.toNat * 2 ^ 32)) ∧
  SecActs s (fun x => x = 0x28) label (.segRing label)
    (fun e _ s2 => e.opnd.toNat < 2 ^ 27 ∧ s2.on F.SEC_STATUS_ARMED = false)
    (fun e _ _ t => t.reg (secMirror 0x28) = e.opnd) ∧
  SecActs s (fun x => x = 0x30) label (.arm label)
    (fun e _ s2 => e.opnd.toNat < 2 ∧ s2.on F.SEC_STATUS_ARMED = false ∧
      (s2.segNamed = true →
        (let a := s2.sampleOf (s2.entryAt 6 label e)
         s2.notCaptured a = false ∧ 4096 ≤ s2.capacity a ∧ 4096 ≤ s2.segPre + s2.segPost ∧ s2.segPre ≤ s2.capacity a ∧
         (s2.segPre + s2.segPost ≤ s2.capacity a ∨ s2.segSpill = true))))
    (fun e _ s2 t => t.on F.SEC_STATUS_ARMED = true ∧ t.on F.SEC_STATUS_CONT = e.opnd.getLsbD 0 ∧
      t.f F.SEC_SEG_INDEX_INDEX = 0 ∧ 
      t.pair A.SEC_SEG_CAP_LO = s2.capacity (s2.sampleOf (s2.entryAt 6 label e)) % 2 ^ 64 ∧
      t.sec.armAt = s2.sampleOf (s2.entryAt 6 label e)) ∧
  SecActs s (fun x => x = 0x31) label (.disarm label)
    (fun e _ _ => e.opnd = 0)
    (fun e _ s2 t => t.on F.SEC_STATUS_ARMED = (s2.on F.SEC_STATUS_ARMED &&
      s2.sec.segs.any fun g => !g.done && decide (s2.sampleOf (s2.entryAt 6 label e) < g.end_)) ∧
      (s2.on F.SEC_STATUS_ARMED = true → t.sec.fill = none))

/-- R50, R53, R55, R125, R284, R285: entries of unit 14. -/
def Obligations.PinAndSyncEntriesAct : Prop :=
  ∀ (s : State) (label : Long),
  (∀ p : Fin 2,
  EntryActs s 14 (fun x => x = 4 + p.val) label (.trigoutSrc p label)
    (fun e _ _ => pinWhat e.opnd ≠ 3 ∧ bitsOf e.opnd.toNat 3 5 = 0 ∧ pinWidth e.opnd ≠ 0)
    (fun e _ _ t => t.reg (A.SEC_IO_TRIGOUTn_SRC p) = e.opnd ∧ t.on (toSrc p) = e.opnd.getLsbD 0)) ∧
  EntryActs s 14 (fun x => x = 6) label (.xtrigCtrl label)
    (fun e _ _ => bitsOf e.opnd.toNat 2 2 ≠ 3 ∧ bitsOf e.opnd.toNat 4 4 = 0 ∧ bitsOf e.opnd.toNat 8 8 ≠ 0)
    (fun e _ _ t => t.reg A.SEC_IO_XTRIG_CTRL = e.opnd) ∧
  EntryActs s 14 (fun x => x < 2) label (.resyncV label)
    (fun _ _ _ => True)
    (fun e _ s2 t => if e.sel = 0 then t.stagedLo 14 0 = e.opnd.toNat
      else t.pair A.SEC_IO_RESYNC_V_LO = s2.stagedLo 14 0 + e.opnd.toNat * 2 ^ 32) ∧
  EntryActs s 14 (fun x => x = 2) label (.resync label)
    (fun _ _ _ => True)
    (fun e _ s2 t => s2.time.metAt ≠ some s2.time.samples →
      (s2.blockSynced s2.time.samples = true → t.time.tick = s2.time.tick ∧ t.time.waiting = s2.time.waiting ++
        [{ pulse := false, value := BitVec.ofNat 64 (s2.pair A.SEC_IO_RESYNC_V_LO), at_ := (s2.time.samples / 64 + 1) * 64,
           edge := none }]) ∧
      (s2.blockSynced s2.time.samples = false → s2.time.waiting = [] → e.imm = true ∨ s2.resyncsHere = [] →
      if s2.pair A.SEC_IO_RESYNC_V_LO < s2.time.tick.toNat then t.time.tick = s2.time.tick ∧ t.on F.SEC_RANGE_STATUS_BACK = true
       else t.time.tick.toNat = s2.pair A.SEC_IO_RESYNC_V_LO ∧ t.pair A.SEC_RANGE_NAT_LO = s2.time.tick.toNat ∧
         t.time.samples = s2.time.samples)) ∧
  (∀ edge : Bool, EntryActs s 14 (fun x => x = 3) label (.syncOut label edge)
    (fun _ _ _ => True)
    (fun _ _ s2 t => (s2.on F.SEC_RANGE_CTRL_OUT_EN = false → t.pins.syncOut = s2.pins.syncOut) ∧
      (s2.on F.SEC_RANGE_CTRL_OUT_EN = true →
        if edge = true ∧ s2.on F.CLK_STATUS_REF_PRESENT = true then t.pins.syncOut = true else t.on F.SEC_RANGE_STATUS_OUT_NOREF = true)))

/-- R266, R268, R270 to R272, R275, R279, R281, R284, R285: the Sector unit at work. -/
def Obligations.SectorRuns : Prop :=
  (∀ s : State, ∃ t, exec .sectorEvent s = .next t ∧ t.sec.waiting = s.sec.waiting.drop 1) ∧
  (∀ (s : State) (label : Long), ∃ t, exec (.sectorLabel label) s = .next t ∧
    (if s.examines (s.sampleOf label) = true then
      t.sec.examined = max (s.secAt (s.sampleOf label)).sec.examined (s.sampleOf label + 1) else t = s)) ∧
  (∀ (s : State) (p : Fin 4), ∃ t, exec (.stepTimeout p) s = .next t ∧
    match s.timeoutOf p with
    | none => t = s
    | some n => if s.examines n = true then
        (let u := s.secAt n
         let q := (u.sec.progs[p]).turn n
         t.sec.examined = max u.sec.examined (n + 1) ∧
         ((q.at_ n).en = true → (∀ e ∈ q.buf, e.n ≠ n) → (q.at_ n).max_ q.step ≠ 0 → n = q.entry + (q.at_ n).max_ q.step →
           (t.sec.progs[p]).step = 0 ∧ (t.sec.progs[p]).entry = n ∧ t.f (F.SEC_PROG_n_STATUS_STEP p) = 0))
      else t = s) ∧
  (∀ s : State, ∃ t, exec .autoTrigger s = .next t ∧
    match s.autoPoint with
    | none => t = s
    | some n => if s.examines n = true then
        (let u := s.secAt n
         t.sec.examined = max u.sec.examined (n + 1) ∧
         (u.autoPoint = some n → (∀ p : Fin 4, (((u.sec.progs[p]).turn n).at_ n).en = false) → u.inHoldoff n = false →
          t.f F.SEC_TRIG_COUNT_COUNT = (u.f F.SEC_TRIG_COUNT_COUNT + 1) % 2 ^ 32 ∧ t.sec.lastTrig = some n ∧
          t.pair A.SEC_LAST_TRIG_LO = (u.labelOf n).toNat))
      else t = s) ∧
  (∀ s : State, ∃ t, exec .segmentEnd s = .next t ∧
    match firstOpen s.sec.segs with
    | none => t = s
    | some g =>
      (let u := s.advanceSamples g.end_
       t.sec.segs = markDone u.sec.segs ∧ (g.last = true → t.on F.SEC_STATUS_ARMED = false) ∧
       (u.on F.SEC_STATUS_CONT = false → g.slot + 1 = u.nseg → t.on F.SEC_STATUS_RING_FULL = true))) ∧
  (∀ (s : State) (p : Fin 2) (label : Long), ∃ t, exec (.trigoutPulseStart p label) s = .next t ∧
    match firstReq (s.tower.get p).reqs with
    | none => t = s
    | some (r, rs) => if s.sampleOf label < r.start then t = s else (t.tower.get p).reqs = rs ∧
        match r with
        | .pulse _ len => (t.tower.get p).until_ =
            some (max (((s.advanceTo label).tower.get p).until_.getD 0) (s.sampleOf label + len))
        | .rise _ => (t.tower.get p).level = true
        | .fall _ => (t.tower.get p).level = false) ∧
  (∀ (s : State) (p : Fin 2), ∃ t, exec (.trigoutPulseEnd p) s = .next t ∧ (t.tower.get p).until_ = none ∧
    match (s.tower.get p).until_ with
    | none => t = s
    | some e => (t.tower.get p).reqs = ((s.advanceSamples e).tower.get p).reqs) ∧
  (∀ (s : State) (label : Long), ∃ t, exec (.xtrigPulseStart label) s = .next t ∧
    match firstPulse s.sec.xreqs with
    | none => t = s
    | some ((start, len), rs) => if s.sampleOf label < start then t = s else t.sec.xreqs = rs ∧ t.pins.xtrigLow = true ∧
        t.on F.SEC_XTRIG_STATUS_DRIVING = true ∧
        t.sec.xuntil = some (max ((s.advanceTo label).sec.xuntil.getD 0) (s.sampleOf label + len))) ∧
  (∀ s : State, ∃ t, exec .xtrigPulseEnd s = .next t ∧
    match s.sec.xuntil with
    | none => t = s
    | some e => t.sec.xuntil = none ∧ t.sec.xignore = e + 256 ∧ t.pins.xtrigLow = false) ∧
  (∀ (s : State) (tau : Long), ∃ t, exec (.xtrigEdge tau) s = .next t ∧
    t.pins.xtrigHeld = true ∧
    (let u := s.advanceSamples (s.sampleOf tau + 384)
     if (histAt s.sec.xops (s.sampleOf tau + 320)).2.getLsbD 0 = true ∧ u.pins.xtrigLow = false ∧
        u.sec.xignore ≤ s.sampleOf tau + 384 ∧ u.pipeRuns = true ∧ u.blockRuns 5 = true then
      ∃ e, t.sec.waiting = u.sec.waiting ++ [e] ∧ e.src = 34 ∧ e.n = s.sampleOf tau + 320
     else t.sec.waiting = u.sec.waiting))

/-- R310 to R314, R316, R319, R322: entries of unit 7.  The parameters that act at a boundary reach each channel with its first
spectrum from the entry's element on. -/
def Obligations.GlowEntriesAct : Prop :=
  (∀ (s : State) (label : Long),
  (∀ n : Fin 2, EntryActs s 7 (fun x => x = n.val) label (.geom n label)
    (fun e _ s2 => 4 ≤ bitsOf e.opnd.toNat 0 6 ∧ bitsOf e.opnd.toNat 0 6 ≤ 32 ∧ 4 ≤ bitsOf e.opnd.toNat 6 5 ∧ bitsOf e.opnd.toNat 6 5 ≤ 16 ∧
      geomStep e.opnd ≠ 0 ∧
      (e.opnd.getLsbD 11 = true → tooManyCells e.opnd (s2.binsAt n (s2.sampleOf (s2.entryAt 7 label e))) = false))
    (fun e _ s2 t => (t.glw.get n).acts =
      (s2.glw.get n).acts ++ [(s2.sampleOf (s2.entryAt 7 label e), e.sel, e.opnd)])) ∧
  EntryActs s 7 (fun x => x = 2) label (.integ label)
    (fun e _ _ => e.opnd.toNat < 2 ^ 24)
    (fun e _ s2 t => t.reg 0xA40008 = e.opnd ∧
      ∀ n : Fin 2, (t.glw.get n).acts = (s2.glw.get n).acts ++ [(s2.sampleOf (s2.entryAt 7 label e), 2, e.opnd)]) ∧
  EntryActs s 7 (fun x => x = 3) label (.persist label)
    (fun e _ _ => e.opnd.toNat < 2 ^ 17)
    (fun e _ s2 t => t.reg 0xA4000C = e.opnd ∧
      t.glwSet.persist.head? = some (s2.sampleOf (s2.entryAt 7 label e), e.opnd)) ∧
  EntryActs s 7 (fun x => x = 4) label (.snapCtrl label)
    (fun e _ _ => e.opnd.toNat < 2 ^ 14)
    (fun e _ s2 t => t.reg 0xA40010 = e.opnd ∧
      t.glwSet.colour.head? = some (s2.sampleOf (s2.entryAt 7 label e), e.opnd) ∧
      ∀ n : Fin 2, (t.glw.get n).acts = (s2.glw.get n).acts ++ [(s2.sampleOf (s2.entryAt 7 label e), 4, e.opnd)]) ∧
  EntryActs s 7 (fun x => x = 0x10000) label (.lut label)
    (fun _ tab _ => lutBad tab = false)
    (fun e tab s2 t => t.glwSet.lut.head? =
      some (s2.sampleOf (s2.entryAt 7 label e), tab ++ List.replicate (4096 - tab.length) 0))) ∧
  (∀ (s : State) (n : Fin 2) (v : Word),
    (((s.glwAct n 2 v).glw.get n).pint = v.toNat % 2 ^ 24 ∧ (s.glwAct n 2 v).reg (A.GLW_GEOM_A + 4 * n.val) = s.reg (A.GLW_GEOM_A + 4 * n.val) ∧
      ((s.glw.get n).running = true → (s.glwAct n 2 v).on (F.GLW_n_STATUS_PENDING n) = true)) ∧
    (((s.glwAct n 4 v).glw.get n).ctl = v ∧
      (v.getLsbD (4 + n.val) = true → (s.glw.get n).running = true → (s.glwAct n 4 v).on (F.GLW_n_STATUS_PENDING n) = true) ∧
      ((s.glwAct n 4 v).glw.get n).clear = ((s.glw.get n).clear || v.getLsbD (6 + n.val))) ∧
    (let t := s.glwAct n n.val v
     (t.glw.get n).running = v.getLsbD 11 ∧
     (v.getLsbD 11 = false → t.reg (A.GLW_GEOM_A + 4 * n.val) = v ∧ (t.glw.get n).spectra = 0 ∧ (t.glw.get n).next = none ∧
       t.on (F.GLW_n_STATUS_RUNNING n) = false ∧ t.on (F.GLW_n_STATUS_PENDING n) = false ∧
       t.f (F.GLW_n_DISCARDED_COUNT n) = if (s.glw.get n).spectra = 0 then s.f (F.GLW_n_DISCARDED_COUNT n)
         else min (s.f (F.GLW_n_DISCARDED_COUNT n) + 1) (2 ^ 32 - 1)) ∧
     (v.getLsbD 11 = true →
       if (s.glw.get n).running = true then (t.glw.get n).next = some v ∧ (t.glw.get n).geom = (s.glw.get n).geom ∧
         t.reg (A.GLW_GEOM_A + 4 * n.val) = s.reg (A.GLW_GEOM_A + 4 * n.val) ∧ t.on (F.GLW_n_STATUS_PENDING n) = true
       else (t.glw.get n).geom = v ∧ t.reg (A.GLW_GEOM_A + 4 * n.val) = v ∧ t.on (F.GLW_n_STATUS_RUNNING n) = true)))

/-- R307, R310, R311, R314, R315, R317, R321: Glow at work. -/
def Obligations.GlowRuns : Prop :=
  ∀ (s : State) (n : Fin 2),
  (∃ t, exec (.glowUpdate n) s = .next t ∧
    match s.specs.get n with
    | [] => t = s
    | sp :: rest => if s.pipeRuns = false then t = s else t.specs.get n = rest ∧
        (let s1 := s.advanceSamples (sp.due + 128)
         let u := ({ s1 with specs := s1.specs.set n rest } : State).glwActs n sp.n
         let geom := (u.glw.get n).geomFor sp.n sp.num.length (u.on (F.GLW_n_STATUS_PENDING n))
         s1.blockRuns 7 = true → (u.glw.get n).running = true →
          if tooManyCells geom sp.num.length = true then t.on (F.GLW_n_STATUS_SUSPENDED n) = true ∧
            ((u.on (F.GLW_n_STATUS_SUSPENDED n)) = false → (t.glw.get n).spectra = 0)
          else t.pair (A.GLW_n_SPECTRA_LO n) = (u.pair (A.GLW_n_SPECTRA_LO n) + 1) % 2 ^ 64 ∧
            t.on (F.GLW_n_STATUS_SUSPENDED n) = false ∧
            ((u.glw.get n).spectra = 0 → (t.glw.get n).spectra = 1 ∧ (t.glw.get n).geom = geom ∧ (t.glw.get n).start = sp.n))) ∧
  (∃ t, exec (.snapshotComplete n) s = .next t ∧
    match (s.glw.get n).forming with
    | [] => t = s
    | f :: fs =>
      if s.glwBlocked = true then t.on (F.GLW_n_STATUS_LOST_SEEN n) = true ∧ t.amem = s.amem ∧
        t.f (F.GLW_n_LOST_COUNT n) = min (s.f (F.GLW_n_LOST_COUNT n) + 1) (2 ^ 32 - 1) ∧
        t.f (F.GLW_n_SNAPS_COUNT n) = s.f (F.GLW_n_SNAPS_COUNT n) ∧ (t.glw.get n).forming.length = fs.length
      else (t.glw.get n).forming = fs ∧ t.on (F.GLW_n_STATUS_VALID n) = true ∧
        t.on (F.GLW_n_STATUS_NEWEST n) = (s.on (F.GLW_n_STATUS_VALID n) && !s.on (F.GLW_n_STATUS_NEWEST n)) ∧
        t.f (F.GLW_n_SNAPS_COUNT n) = (s.f (F.GLW_n_SNAPS_COUNT n) + 1) % 2 ^ 32 ∧ t.pair (A.GLW_n_LAST_SNAP_LO n) = f.label.toNat)

/-- R289 to R299: the interval unit. -/
def Obligations.IntervalUnitActs : Prop :=
  (∀ (s : State) (label : Long),
  IntervalEntryActs s 0 label (.startSrc label)
    (fun e _ s2 => e.opnd.toNat % 8 ≤ 4 ∧ e.opnd.toNat < 16 ∧
      ((s2.afterGroup 0 label e.opnd).getLsbD 3 = true → bitsOf (s2.afterGroup 1 label (s2.reg A.IVU_STOP_MASK)).toNat 0 5 ≠ 0))
    (fun e _ _ t => t.reg A.IVU_START_SRC = e.opnd ∧ t.ivu.set_ = none) ∧
  IntervalEntryActs s 1 label (.stopMask label)
    (fun e _ s2 => 1 ≤ bitsOf e.opnd.toNat 16 5 ∧ bitsOf e.opnd.toNat 16 5 ≤ 16 ∧ bitsOf e.opnd.toNat 5 11 = 0 ∧ e.opnd.toNat < 2 ^ 21 ∧
      ((s2.afterGroup 0 label (s2.reg A.IVU_START_SRC)).getLsbD 3 = true → bitsOf (s2.afterGroup 1 label e.opnd).toNat 0 5 ≠ 0))
    (fun e _ _ t => t.reg A.IVU_STOP_MASK = e.opnd ∧ t.ivu.set_ = none) ∧
  IntervalEntryActs s 2 label (.gateCtrl label)
    (fun e _ _ => e.opnd.toNat < 8)
    (fun e _ s2 t => t.reg A.IVU_GATE_CTRL = e.opnd ∧
      (t.ivu.gateAt (sclkUp (s2.sampleOf label))).2 =
        ((s2.ivu.gateAt (sclkUp (s2.sampleOf label))).2 ^^ (e.opnd.getLsbD 1 ^^ (s2.reg A.IVU_GATE_CTRL).getLsbD 1))) ∧
  IntervalEntryActs s 3 label (.statN label)
    (fun e _ _ => 1 ≤ bitsOf e.opnd.toNat 0 25 ∧ bitsOf e.opnd.toNat 0 25 ≤ 2 ^ 24 ∧ bitsOf e.opnd.toNat 25 6 = 0)
    (fun e _ _ t => t.reg A.IVU_STAT_N = e.opnd ∧ t.ivu.set_ = none) ∧
  IntervalEntryActs s 4 label (.calCtrl label)
    (fun e _ _ => e.opnd.toNat < 2)
    (fun e _ _ t => t.reg A.IVU_CAL_CTRL = e.opnd)) ∧
  (∀ (s : State) (c : Fin 3) (rising : Bool) (stop code : Nat), ∃ t, exec (.trigInEdge c rising stop code) s = .next t ∧
    (if s.ivuRuns = false ∨ s.on F.IVU_STATUS_READY = false ∨ (c = 2 ∧ rising = false) then t = s
     else
      (let r := s.convert (s.ivu.chans[c]) code
       let stamp := stampOf stop r.1
       let u := r.2.advanceSamples (stamp / 1024)
       if stamp < (u.ivu.chans[c]).dead then t.on F.IVU_STATUS_LOST_SEEN = true ∧
         t.f (F.IVU_CH_n_LOST_COUNT c) = min (u.f (F.IVU_CH_n_LOST_COUNT c) + 1) (2 ^ 32 - 1) ∧
         t.pair (A.IVU_CH_n_EDGES_LO c) = u.pair (A.IVU_CH_n_EDGES_LO c)
       else t.pair (A.IVU_CH_n_EDGES_LO c) = (u.pair (A.IVU_CH_n_EDGES_LO c) + 1) % 2 ^ 64 ∧
         (t.ivu.chans[c]).dead = stamp + (if c = 2 then 2 else 4) * 16 * 1024))) ∧
  (∀ (s : State) (c : Fin 3) (src stop stamp : Nat) (cd : Bool),
    let t := s.ivuEdge c src stop stamp cd
    match s.ivu.meas with
    | none =>
      let opening := some (s.ivu.gateAt (stamp / 1024 / 16 * 16)).1
      if s.ivuEn = false ∨ src ≠ s.startSrc then t = s
      else if s.ivu.lastStart.any (fun p => stop < p + 512) = true then t.ivu = s.ivu ∧
        t.f F.IVU_SKIPPED_COUNT = min (s.f F.IVU_SKIPPED_COUNT + 1) (2 ^ 32 - 1)
      else if s.inGate stamp = false ∨
          (s.gateEn = true ∧ (s.reg A.IVU_GATE_CTRL).getLsbD 2 = true ∧ s.ivu.gateUsed = opening) then t = s
      else t.on F.IVU_STATUS_OPEN = true ∧ t.ivu.lastStart = some stop ∧ t.ivu.gateUsed = opening ∧
        ∃ m, t.ivu.meas = some m ∧ m.tick = s.labelOf (stamp / 1024) ∧ m.frac = stamp % 1024 ∧ m.stamp = stamp ∧ m.stop = stop ∧
          m.stops = []
    | some m =>
      if s.inGate stamp = true ∧ s.stopMask.testBit src = true ∧ m.stamp < stamp ∧ stop < m.stop + 16 * 2 ^ 32 then
        if m.stops.length + 1 = s.nstop then t.ivu.meas = none ∧ t.on F.IVU_STATUS_OPEN = false ∧
          t.f F.IVU_MEAS_COUNT_COUNT = (s.f F.IVU_MEAS_COUNT_COUNT + 1) % 2 ^ 32 ∧ t.ivu.total = s.ivu.total + 1
        else ∃ k, t.ivu.meas = some k ∧ k.stops = m.stops ++ [{ x := stamp - m.stamp, src := src }] ∧ k.tick = m.tick ∧
          k.stamp = m.stamp
      else t = s) ∧
  (∀ (s : State) (e : Nat) (m : IvMeas), s.ivu.meas = some m → s.gateEn = true → (s.ivu.gateAt e).2 = false →
    m.stamp < 1024 * e → (s.ivuGateEnd e).ivu.meas = none ∧ (s.ivuGateEnd e).ivu.total = s.ivu.total + 1) ∧
  (∀ n sum sq : Nat, 1 < n →
    let a := 2 ^ 20 * (n * sq - sum * sum)
    let b := n * (n - 1)
    let d := ivSigma n sum sq
    4 * a < (2 * d + 1) ^ 2 * b ∧ (0 < d → (2 * d - 1) ^ 2 * b ≤ 4 * a)) ∧
  (∀ s : State, ∃ t, exec .coarseOverflow s = .next t ∧
    match s.ivu.meas with
    | none => t = s
    | some m =>
      let u := s.advanceSamples (m.stop + 16 * 2 ^ 32)
      if u.ivu.meas.any (fun x => x.stop = m.stop) = true then
        t.ivu.meas = none ∧ t.on F.IVU_STATUS_OVF_SEEN = true ∧ t.on F.IVU_STATUS_OPEN = false
      else t = u) ∧
  (∀ (s : State) (label : Long), ∃ t, exec (.gateOpen label) s = .next t ∧
    ((s.advanceTo label).held = [] → (t.ivu.gateAt (sclkUp ((s.advanceTo label).sampleOf label))).2 = true)) ∧
  (∀ (s : State) (label : Long), ∃ t, exec (.gateClose label) s = .next t ∧
    ((s.advanceTo label).held = [] → (s.advanceTo label).ivu.waits = [] →
      (t.ivu.gateAt (sclkUp ((s.advanceTo label).sampleOf label))).2 = false)) ∧
  (∀ (s : State) (c : Fin 3) (one two : List Nat), ∃ t, exec (.twoPeriodCalibration c one two) s = .next t ∧
    (if s.ivuRuns = true ∧ s.on F.CLK_STATUS_REF_PRESENT = true ∧ one.length = 4 ∧ two.length = 4 then
      (let r := (s.ivu.chans[c]).relief
       let why := calFault (r.gain.getD (Config.ivuFactory r.id)) one two
       if why = 0 then ((t.ivu.chans[c]).relief).cal = some ⟨one.foldl (· + ·) 0, two.foldl (· + ·) 0⟩ ∧
           ((t.ivu.chans[c]).relief).gain = some (two.foldl (· + ·) 0 - one.foldl (· + ·) 0) ∧
           ((t.ivu.chans[c]).relief).passed = true ∧ t.regs = s.regs
         else ((t.ivu.chans[c]).relief).passed = false ∧ ((t.ivu.chans[c]).relief).cal = r.cal ∧
           ((t.ivu.chans[c]).relief).gain = r.gain ∧ t.f (F.IVU_CH_n_CALFAIL_REASON c) = why)
     else t = s)) ∧
  (∀ (s : State) (c : Fin 3) (hits : List Nat), ∃ t, exec (.codeDensityTable c hits) s = .next t ∧
    (if s.ivuRuns = true ∧ hits.foldl (· + ·) 0 = 2 ^ 20 then ((t.ivu.chans[c]).relief).table = some hits ∧
      (t.ivu.chans.all IvCh.hasTable = true → t.on F.IVU_STATUS_READY = true) else t = s)) ∧
  (∀ (s : State) (c : Fin 3), ∃ t, exec (.roleChange c) s = .next t ∧
    (let u := s.ivuFlush (1024 * s.time.samples)
     let k := u.ivu.chans[c]
     if u.ivuRuns = true ∧ k.relief.fresh = true ∧ k.usedOpen = false ∧ k.dead ≤ 1024 * u.time.samples then
       (t.ivu.chans[c]).service = { k.relief with fresh := false } ∧ (t.ivu.chans[c]).relief = k.service
     else t = u))

/-- R332 to R334, R337, R339, R349: entries of unit 9 and the capture FIFO. -/
def Obligations.CaptureActs : Prop :=
  (∀ (s : State) (label : Long),
  (∀ n : Fin 2, EntryActs s 9 (fun x => x = n.val) label (.cap n label)
    (fun e _ s2 => bitsOf e.opnd.toNat 0 2 ≠ 3 ∧ bitsOf e.opnd.toNat 3 5 ≤ 20 ∧ (bitsOf e.opnd.toNat 0 2 = 1 → bitsOf e.opnd.toNat 3 5 = 0) ∧ e.opnd.toNat < 2 ^ 8 ∧
      s2.armedAt n (s2.sampleOf label) = false ∧ s2.f F.AMC_STATUS_STATE = 2 ∧
      (bitsOf e.opnd.toNat 0 2 ≠ 0 → s2.capMode (1 - n) ≠ 0 → ringsOverlap (s2.ringOp n) (s2.ringOp (1 - n)) = false) ∧
      s2.f F.AMC_ADMIT_WR_USED - capRate (s2.capOp n) + capRate e.opnd ≤ s2.f F.AMC_ADMIT_WR_LIMIT)
    (fun e _ s2 t => t.reg (A.AMC_CAP_A + 4 * n.val) = e.opnd ∧ t.on (F.AMC_CAP_n_STATUS_ACTIVE n) = decide (bitsOf e.opnd.toNat 0 2 ≠ 0) ∧
      t.f F.AMC_ADMIT_WR_USED = s2.f F.AMC_ADMIT_WR_USED - capRate (s2.capOp n) + capRate e.opnd)) ∧
  (∀ n : Fin 2, EntryActs s 9 (fun x => x = 2 + n.val) label (.ring n label)
    (fun e _ s2 => ringBase e.opnd + ringRegion e.opnd ≤ s2.pair A.AMC_SIZE_LO - 2 ^ 26 ∧ e.opnd.toNat < 2 ^ 30 ∧
      s2.armedAt n (s2.sampleOf label) = false ∧ s2.f F.AMC_STATUS_STATE = 2 ∧
      (s2.capMode 0 ≠ 0 → s2.capMode 1 ≠ 0 → ringsOverlap e.opnd (s2.ringOp (1 - n)) = false))
    (fun e _ s2 t => t.reg (A.AMC_RING_A + 4 * n.val) = e.opnd ∧ t.on (F.AMC_CAP_n_STATUS_ACTIVE n) = decide (s2.capMode n ≠ 0)))) ∧
  (∀ s : State, ∃ t, exec .captureFifoIntake s = .next t ∧
    match s.amc.incoming with
    | [] => t = s
    | u :: us => t.amc.incoming = us ∧
        (if (s.on F.AMC_FIFO_DROPPING = true ∧ 12 * 2 ^ 20 < s.fifoBytes + 2 ^ 20) ∨ 12 * 2 ^ 20 < s.fifoBytes + u.size then
           t.amc.fifo = s.amc.fifo ∧ t.on F.AMC_FIFO_DROPPING = true ∧
           t.pair A.AMC_FIFO_LOST_LO = (s.pair A.AMC_FIFO_LOST_LO + u.elems.length) % 2 ^ 64
         else t.amc.fifo = s.amc.fifo ++ [u] ∧ t.on F.AMC_FIFO_DROPPING = false ∧
           t.f F.AMC_FIFO_LEVEL = (t.fifoBytes + 1023) / 1024)) ∧
  (∀ s : State, ∃ t, exec .fifoIntakeResume s = .next t ∧ t.amc = s.amc ∧
    t.on F.AMC_FIFO_DROPPING = (s.on F.AMC_FIFO_DROPPING && !decide (s.fifoBytes + 2 ^ 20 ≤ 12 * 2 ^ 20))) ∧
  (∀ s : State, ∃ t, exec .captureWrite s = .next t ∧
    match s.amc.fifo with
    | [] => t.amc.fifo = [] ∧ (s.capOver 0 = false → s.capOver 1 = false → t = s)
    | u :: us => if s.capReady u = true then t.amc.fifo = us else t = s) ∧
  (∀ s : State, ∃ t, exec .fifoPeakClear s = .next t ∧ t.f F.AMC_FIFO_PEAK = s.f F.AMC_FIFO_LEVEL ∧ OnlyReg s t F.AMC_FIFO_PEAK.addr)

/-- R326 to R328, R330, R331, R341, R342, R345, R346: the acquisition memory controller. -/
def Obligations.MemoryTrains : Prop :=
  (∀ (s : State) (data : Word) (ds : List Dimm), ∃ t, exec (.amcApply data ds) s = .next t ∧
    t.f F.AMC_CFG_RATE = (if bitsOf data.toNat 0 2 = 3 then s.f F.AMC_CFG_RATE else bitsOf data.toNat 0 2) ∧
    t.on F.AMC_CFG_SR_EN = data.getLsbD 3 ∧
    (if data.getLsbD 2 = false then t.amc = s.amc ∧ t.amcState = s.amcState
     else if s.amcState = 0 then
       (if ds = [] then t.amc = s.amc ∧ t.amcState = 0
        else match popFault (t.f F.AMC_CFG_RATE) ds with
          | some c => t.amcState = 0 ∧ t.on F.AMC_STATUS_POP_ERR = true ∧ t.f F.AMC_STATUS_POP_CODE = c
          | none => t.amcState = 1 ∧ t.amc.run = .initial ∧ t.on F.AMC_STATUS_POP_ERR = false ∧
              t.pair A.AMC_SIZE_LO = (ds.map (·.gib)).foldl (· + ·) 0 * 2 ^ 30 ∧ t.f F.AMC_STATUS_RATE = t.f F.AMC_CFG_RATE)
     else if t.f F.AMC_CFG_RATE ≠ s.f F.AMC_STATUS_RATE ∧ s.rateRefused (t.f F.AMC_CFG_RATE) ds = true then
       t.on F.AMC_STATUS_RATE_ERR = true ∧ t.amc = s.amc ∧ t.amcState = s.amcState
     else if s.amcState = 1 then t.amcState = 1 ∧ t.amc.run = .initial ∧ t.amc.newRate = some (t.f F.AMC_CFG_RATE) ∧
       t.f (F.AMC_TRAIN_ABANDONED) = min (s.f (F.AMC_TRAIN_ABANDONED) + 1) (2 ^ (F.AMC_TRAIN_ABANDONED).width - 1)
     else if t.f F.AMC_CFG_RATE ≠ s.f F.AMC_STATUS_RATE then
       t.amcState = 1 ∧ t.amc.run = .initial ∧ t.amc.newRate = some (t.f F.AMC_CFG_RATE)
     else t.amc = s.amc ∧ t.amcState = s.amcState)) ∧
  (∀ s : State, ∃ t, exec .initialTrainingDone s = .next t ∧
    (if s.amc.run = .initial ∧ s.on F.CLK_STATUS_MEM_LOCKED = true then
      (let rate := s.amc.newRate.getD (s.f F.AMC_STATUS_RATE)
       t.amcState = 2 ∧ t.amc.run = .none_ ∧ t.amc.newRate = none ∧ t.amc.waiting = [] ∧ t.f F.AMC_STATUS_RATE = rate % 4 ∧
       t.f F.AMC_ADMIT_WR_LIMIT = amcLimit rate s.amcChannels.length ∧ t.f F.AMC_ADMIT_RD_LIMIT = amcLimit rate s.amcChannels.length)
     else t = s)) ∧
  (∀ (s : State) (temps : List (Fin 8 × Int)), ∃ t, exec (.dimmTempCheck temps) s = .next t ∧
    (∀ c : Fin 8, t.f (F.AMC_c_STATUS_TEMP c) = match temps.reverse.find? fun x => decide (x.1 = c) && s.amcChannels.contains x.1.val with
      | some x => (BitVec.ofInt 8 x.2).toNat
      | none => s.f (F.AMC_c_STATUS_TEMP c)) ∧
    (s.amc.temps ≠ [] → t.amc = (if (∃ x ∈ temps, x.1.val ∈ s.amcChannels ∧ 10 < (x.2 - s.amc.temps.getD x.1.val x.2).natAbs) ∧
        s.amcState = 2 ∧ s.amc.wantFrom = none then { s.amc with wantFrom := some s.time.samples } else s.amc)) ∧
    (s.amc.temps = [] → (∃ x ∈ temps, x.1.val ∈ s.amcChannels) → t.amc = { s.amc with temps := t.amcTemps })) ∧
  (∀ s : State, ∃ t, exec .tempRetrain s = .next t ∧
    match s.amc.wantFrom with
    | none => t = s
    | some t0 => if s.amcState = 2 ∧ (s.fifoBytes ≤ 2 ^ 20 ∨ t0 + 1000000 * s.ticksPerUs ≤ s.time.samples) then
        t.amcState = 1 ∧ t.amc.run = .retrain ∧ t.amc.wantFrom = none ∧ t.f (F.AMC_TRAIN_RETRAINS) = min (s.f (F.AMC_TRAIN_RETRAINS) + 1) (2 ^ (F.AMC_TRAIN_RETRAINS).width - 1) else t = s) ∧
  (∀ s : State, ∃ t, exec .fullRetrainDone s = .next t ∧
    (if s.amc.run = .retrain then t.amcState = 2 ∧ t.amc.run = .none_ ∧ t.amc.waiting = [] else t = s)) ∧
  (∀ s : State, ∃ t, exec .selfRefreshEnter s = .next t ∧
    (if s.srIdle = true then t.amcState = 3 ∧ t.amc.run = .sleep ∧ t.f (F.AMC_SR_COUNT_COUNT) = min (s.f (F.AMC_SR_COUNT_COUNT) + 1) (2 ^ (F.AMC_SR_COUNT_COUNT).width - 1) else t = s)) ∧
  (∀ s : State, ∃ t, exec .selfRefreshExit s = .next t ∧
    (if s.amcState = 3 ∧ s.on F.AMC_STATUS_ON_BACKUP = false ∧ s.on F.CLK_STATUS_MEM_LOCKED = true ∧ s.memHeld = false then
       t.amcState = 1 ∧ t.amc.run = .exit ∧ t.clk.spreadMem = s.reg A.CLK_SPREAD_MEM &&& 0xFF ∧
       t.on F.CLK_SPREAD_MEM_PENDING = false ∧
      t.f (F.AMC_TRAIN_RETRAINS) = min (s.f (F.AMC_TRAIN_RETRAINS) + 1) (2 ^ (F.AMC_TRAIN_RETRAINS).width - 1) else t = s)) ∧
  (∀ s : State, ∃ t, exec .selfRefreshExitDone s = .next t ∧
    (if s.amc.run = .exit then t.amcState = 2 ∧ t.amc.run = .none_ ∧ t.amc.waiting = [] else t = s)) ∧
  (∀ s : State, ∃ t, exec .memClkLoss s = .next t ∧
    (if s.on F.CLK_STATUS_MEM_LOCKED = false then t = s
     else t.on F.CLK_STATUS_MEM_LOCKED = false ∧ t.on F.AMC_STATUS_ON_BACKUP = true ∧
       t.amcState = (if s.amcState = 0 ∨ s.amc.run = .initial then s.amcState else 3))) ∧
  (∀ s : State, ∃ t, exec .memClkRelock s = .next t ∧
    (if s.good.tclk = false ∨ (s.f F.PWR_STATUS_STATE = 3 ∧ s.rst.trans = none) ∨ s.on F.CLK_STATUS_MEM_LOCKED = true ∨
         s.on F.CLK_SYS_CTRL_START = false ∨ s.on F.CLK_STATUS_REF_PRESENT = false then t = s
     else t.on F.CLK_STATUS_MEM_LOCKED = true ∧ t.on F.AMC_STATUS_ON_BACKUP = false ∧
       t.amcState = (if s.amcState = 3 ∧ s.memHeld = false then 1 else s.amcState))) ∧
  (∀ (s : State) (c : Fin 8), ∃ t, exec (.slotFrame c) s = .next t ∧
    (if (s.f F.AMC_STATUS_CH_MASK).testBit c.val = true then
      t.amc.slots.head? = some (c.val, slotRow (s.f F.AMC_STATUS_RATE) s.amcChannels.length) ∧ t.regs = s.regs else t = s))

/-- R343, R344, R347: errors of acquisition memory and BAR5. -/
def Obligations.MemoryErrorsAndBar5 : Prop :=
  (∀ (s : State) (c : Fin 8), ∃ t, exec (.alertN c) s = .next t ∧
    (if (s.f F.AMC_STATUS_CH_MASK).testBit c.val = false then t = s
     else t.f (F.AMC_c_REPLAYS_COUNT c) = min (s.f (F.AMC_c_REPLAYS_COUNT c) + 1) (2 ^ (F.AMC_c_REPLAYS_COUNT c).width - 1) ∧
       (if (∃ x ∈ s.amc.replays, x.1 = c.val ∧ s.time.samples < x.2 + 10 * s.ticksPerUs) then
          t.f (F.AMC_c_OVERRUN_COUNT c) = min (s.f (F.AMC_c_OVERRUN_COUNT c) + 1) (2 ^ (F.AMC_c_OVERRUN_COUNT c).width - 1) else t.f (F.AMC_c_OVERRUN_COUNT c) = s.f (F.AMC_c_OVERRUN_COUNT c)) ∧
       (if 15 ≤ (s.amc.replays.filter fun x => decide (x.1 = c.val) && decide (s.time.samples < x.2 + 1000 * s.ticksPerUs)).length ∧
            s.amcState = 2 then
          t.amcState = 1 ∧ t.amc.run = .retrain else t.amcState = s.amcState ∧ t.amc.run = s.amc.run))) ∧
  (∀ (s : State) (c : Fin 8), ∃ t, exec (.correctableError c) s = .next t ∧ t.f (F.AMC_c_CE_COUNT c) = min (s.f (F.AMC_c_CE_COUNT c) + 1) (2 ^ (F.AMC_c_CE_COUNT c).width - 1)) ∧
  (∀ (s : State) (c : Fin 8) (r : UeReader), ∃ t, exec (.uncorrectableError c r) s = .next t ∧ t.f (F.AMC_c_UE_COUNT c) = min (s.f (F.AMC_c_UE_COUNT c) + 1) (2 ^ (F.AMC_c_UE_COUNT c).width - 1) ∧
    (match r with
     | .data k addr => t.streams = (if (dramPlace s.amcChannels.length addr).1 = c.val then
         s.streams.set k { s.streams[k] with formed := markMem addr (s.streams[k]).formed } else s.streams)
     | .glow ch => (match (s.glw.get ch).forming with
         | f :: fs => (t.glw.get ch).forming = { f with flags := f.flags ||| Flag.memerr } :: fs
         | [] => (t.glw.get ch).carry = (s.glw.get ch).carry ||| Flag.memerr)
     | .dma k => (t.dma[k]).bad = true
     | .tag k ch => (t.streams[k]).tagGap.get ch = true
     | .bar5 => t.out.head? = some .poisoned)) ∧
  (∀ n a b : Nat, n = 4 ∨ n = 8 → dramPlace n a = dramPlace n b → a = b) ∧
  (∀ n a : Nat, n = 4 ∨ n = 8 → (dramPlace n a).1 < 8 ∧ (n = 4 → (dramPlace n a).1 % 2 = 0) ∧ (dramPlace n a).2.1 < 2) ∧
  (∀ a : Nat, (dramPlace 8 a).1 = a / 512 % 8 ∧ (dramPlace 4 a).1 = 2 * (a / 512 % 4) ∧ (dramPlace 8 a).2.1 = a / 256 % 2) ∧
  (∀ (s : State) (off : BitVec 28) (len : Nat) (data : Option (List Byte)), ∃ t, exec (.bar5Access off len data) s = .next t ∧
    (let m := s.pair A.AMC_SIZE_LO
     let a := (s.pair A.AMC_APERTURE_LO / 2 ^ 20 * 2 ^ 20 + off.toNat) % m
     if s.amcState = 0 then t.amem = s.amem ∧ t.regs = s.regs ∧
       (data = none → t.out = .bytes (List.replicate len 0xFF) :: s.out)
     else if s.amcState = 2 then t.regs = s.regs ∧
       (match data with
        | some d => t.amem = Mem.writeN (Mem.writeN s.amem a (d.take (m - a))) 0 (d.drop (m - a)) ∧ t.out = s.out
        | none => t.amem = s.amem ∧
           t.out = .bytes (Mem.readN s.amem a (min len (m - a)) ++ Mem.readN s.amem 0 (len - (m - a))) :: s.out)
     else t.amem = s.amem ∧ t.amc.waiting = s.amc.waiting ++ [⟨a, len, data⟩] ∧
       t.amcState = (if s.amcState = 3 ∧ s.on F.AMC_STATUS_ON_BACKUP = false ∧ s.on F.CLK_STATUS_MEM_LOCKED = true ∧
         s.memHeld = false then 1 else s.amcState)))

/-- R126, R366, R367, R382: entries of unit 10. -/
def Obligations.StreamEntriesAct : Prop :=
  ∀ (s : State) (label : Long),
  (∀ k : Fin 64, EntryActs s 10 (fun x => x = k.val) label (.streamEn k label)
    (fun e _ s2 => bitsOf e.opnd.toNat 14 2 = 0 ∧ (e.opnd.getLsbD 0 = true → s2.strState k ≠ 0) ∧
      (e.opnd.getLsbD 13 = true → e.opnd.getLsbD 1 = true ∨ e.opnd.getLsbD 2 = true))
    (fun e _ s2 t => t.reg (A.STR_STREAM_EN_s k) = e.opnd ∧ t.strState k = enState (e.opnd.getLsbD 0) (s2.strState k) ∧
      (s2.strState k ≠ 0 → (t.streams[k]).hist.head? = some (if e.imm = true then label else e.target, e.opnd)))) ∧
  EntryActs s 10 (fun x => x = 0x100) label (.mark label)
    (fun _ _ _ => True)
    (fun e _ s2 t => e.imm = false → ∀ k : Fin 64, t.pair (A.STR_s_SEQ_LO k) =
      (if s2.strState k = 2 then (s2.pair (A.STR_s_SEQ_LO k) + 1) % 2 ^ 48 else s2.pair (A.STR_s_SEQ_LO k)))

/-- R366, R371 to R377, R384, R385: the stream engine. -/
def Obligations.StreamsRun : Prop :=
  (∀ (s : State) (k : Fin 64), ∃ t, exec (.streamAdmit k) s = .next t ∧ t.f (F.STR_s_STATUS_RESULT k) = s.admitResult k ∧
    (if s.admitResult k = 1 then t.strState k = 1 ∧ t.pair (A.STR_s_SEQ_LO k) = 0 ∧ t.pair (A.STR_s_DROPS_LO k) = 0 ∧
        t.pair (A.STR_s_CONS_LO k) = 0 ∧ (t.streams[k]).formed = [] ∧ (t.streams[k]).prod = 0 ∧
        t.f F.HST_LINK_LIMIT_USED = s.f F.HST_LINK_LIMIT_USED + (if s.guar k = true then s.f (F.STR_s_RATE_LINK k) else 0) ∧
        t.f F.AMC_ADMIT_RD_USED = s.f F.AMC_ADMIT_RD_USED + (if s.guar k = true then s.f (F.STR_s_RATE_MEM k) else 0)
     else t.strState k = s.strState k ∧ t.streams = s.streams)) ∧
  (∀ (s : State) (k : Fin 64), ∃ t, exec (.streamRelease k) s = .next t ∧
    (if s.strState k = 0 then t = s
     else if s.strState k = 1 then t.strState k = 0 ∧ (t.streams[k]).formed = [] ∧
       t.f F.HST_LINK_LIMIT_USED = s.f F.HST_LINK_LIMIT_USED - (if s.guar k = true then s.f (F.STR_s_RATE_LINK k) else 0) ∧
       t.f F.AMC_ADMIT_RD_USED = s.f F.AMC_ADMIT_RD_USED - (if s.guar k = true then s.f (F.STR_s_RATE_MEM k) else 0)
     else t.strState k = s.strState k ∧ t.f (F.STR_s_STATUS_RESULT k) = 4 ∧ t.streams = s.streams)) ∧
  (∀ (s : State) (k : Fin 64) (r : StrReg) (data : Long), ∃ t, exec (.streamCfgWrite k r data) s = .next t ∧
    (if s.strState k ≠ 0 then t.on (F.STR_s_STATUS_CFG_BUSY k) = true ∧ OnlyReg s t (F.STR_s_STATUS_CFG_BUSY k).addr
     else match r with
       | .cfg => OnlyReg s t (A.STR_s_CFG k) ∧ t.on (F.STR_s_CFG_GUAR k) = data.getLsbD 0 ∧
           t.on (F.STR_s_CFG_DEST k) = data.getLsbD 1 ∧ t.on (F.STR_s_CFG_IRQ k) = data.getLsbD 2 ∧
           t.on (F.STR_s_CFG_NV_STOP k) = data.getLsbD 3 ∧ t.on (F.STR_s_CFG_FUA k) = data.getLsbD 4 ∧
           t.f (F.STR_s_CFG_RECCH k) = bitsOf data.toNat 8 4 ∧ t.f (F.STR_s_CFG_NVQ_MASK k) = bitsOf data.toNat 16 16
       | .rate => OnlyReg s t (A.STR_s_RATE k) ∧ t.f (F.STR_s_RATE_LINK k) = bitsOf data.toNat 0 14 ∧
           t.f (F.STR_s_RATE_MEM k) = bitsOf data.toNat 16 14
       | .ring => OnlyReg s t (A.STR_s_RING k) ∧ t.f (F.STR_s_RING_RING_LOG2 k) = bitsOf data.toNat 0 5 ∧
           t.f (F.STR_s_RING_STRIPE_LOG2 k) = bitsOf data.toNat 8 5
       | .ringBase =>
           t.reg (A.STR_s_RING_BASE_LO k) = (s.reg (A.STR_s_RING_BASE_LO k) &&& 0xFFF) ||| (data.truncate 32 &&& 0xFFFFF000) ∧
           t.reg (A.STR_s_RING_BASE_LO k + 4) = data.extractLsb' 32 32
       | .prodAddr =>
           t.reg (A.STR_s_PROD_ADDR_LO k) = (s.reg (A.STR_s_PROD_ADDR_LO k) &&& 7) ||| (data.truncate 32 &&& 0xFFFFFFF8) ∧
           t.reg (A.STR_s_PROD_ADDR_LO k + 4) = data.extractLsb' 32 32)) ∧
  (∀ (s : State) (k : Fin 64) (count : Long), ∃ t, exec (.consumerWrite k count) s = .next t ∧
    (if count.toNat < s.pair (A.STR_s_CONS_LO k) ∨ (s.streams[k]).prod < count.toNat then
      t.on (F.STR_s_STATUS_CONS_ERR k) = true ∧ OnlyReg s t (F.STR_s_STATUS_CONS_ERR k).addr
     else t.pair (A.STR_s_CONS_LO k) = count.toNat)) ∧
  (∀ (s : State) (k : Fin 64), s.linkUp = true → ∃ t, exec (.recordRelease k) s = .next t ∧
    match (s.streams[k]).formed with
    | [] => t = s
    | r :: rest => if s.time.samples < r.due then t = s else (t.streams[k]).formed = rest ∧
        (if s.strState k = 3 ∨ s.overwritten r = true then t.pair (A.STR_s_DROPS_LO k) = min (s.pair (A.STR_s_DROPS_LO k) + 1) (2 ^ 64 - 1) ∧ (t.streams[k]).prod = (s.streams[k]).prod
         else
           (let len := occupied (s.payloadOf r).length (s.on F.STR_CTRL_PCRC)
            s.on (F.STR_s_CFG_DEST k) = false → r.staged = false → min len 4096 ≤ s.stagingFree k (s.conforms k len) →
            len + ((s.streams[k]).prod - s.pair (A.STR_s_CONS_LO k)) ≤ 2 ^ s.f (F.STR_s_RING_RING_LOG2 k) →
            (t.streams[k]).prod = (s.streams[k]).prod + len ∧ t.pair (A.STR_s_DROPS_LO k) = s.pair (A.STR_s_DROPS_LO k) ∧
            t.pair A.STR_RECORDS_LO = (s.pair A.STR_RECORDS_LO + 1) % 2 ^ 64))) ∧
  (∀ (s : State) (k : Fin 64), s.linkUp = false → ∃ t, exec (.recordRelease k) s = .next t ∧
    match splitStaged (s.streams[k]).formed with
    | none => t = s
    | some (a, r, b) => if s.time.samples < r.due then t = s else
        (let len := occupied (s.payloadOf r).length (s.on F.STR_CTRL_PCRC)
         if s.conforms k len = true ∧ s.strState k ≠ 3 ∧ min len 4096 ≤ s.stagingFree k true then
           (t.streams[k]).formed = a ++ { r with staged := true, drop := (s.streams[k]).dropsSince } :: b ∧
           (t.streams[k]).used = (s.streams[k]).used + min len 4096
         else (t.streams[k]).formed = a ++ b ∧ t.pair (A.STR_s_DROPS_LO k) = min (s.pair (A.STR_s_DROPS_LO k) + 1) (2 ^ 64 - 1))) ∧
  (∀ (s : State) (k : Fin 64), ∃ t, exec (.producerUpdate k) s = .next t ∧
    (if s.linkUp = false ∨ (s.streams[k]).prod = (s.streams[k]).prodSent ∨
        (s.streams[k]).prodAt.any (fun n => s.time.samples < n + s.ticksPerUs) = true then t = s
     else (t.streams[k]).prodSent = (s.streams[k]).prod ∧ (t.streams[k]).prodAt = some s.time.samples ∧
       .hostWrite (s.pair (A.STR_s_PROD_ADDR_LO k) / 8 * 8) (bytesOf 8 (s.streams[k]).prod) ⟨false, false⟩ ∈ t.out ∧
       (if s.on (F.STR_s_CFG_IRQ k) = true ∧ s.f (F.STR_s_WMARK_BYTES k) ≤ (s.streams[k]).prod - (s.streams[k]).notified then
          t.on (strIrq k) = true ∧ (t.streams[k]).notified = (s.streams[k]).prod
        else t.regs = s.regs ∧ (t.streams[k]).notified = (s.streams[k]).notified))) ∧
  (∀ (s : State) (rate : LinkRate) (width : LinkWidth), ∃ t, exec (.linkUp rate width) s = .next t ∧
    t.on F.HST_STATUS_LINK_UP = true ∧ t.f F.HST_STATUS_RATE = (linkCodes rate).1 ∧ t.f F.HST_STATUS_WIDTH = linkLanes width ∧
    t.on F.HST_STATUS_DEGRADED = !(decide (rate = .g64) && decide (width = .x16)) ∧
    t.f F.HST_LINK_LIMIT_LIMIT = linkLimit rate width) ∧
  (∀ s : State, ∃ t, exec .tagsPeakClear s = .next t ∧ t.f F.HST_TAGS_PEAK = t.f F.HST_TAGS_INUSE ∧ OnlyReg s t F.HST_TAGS_PEAK.addr)

/-- R356, R357, R359 to R361, R387: DMA channels; log entry 21. -/
def Obligations.DmaChannelsAct : Prop :=
  (∀ (s : State) (c : Fin 32) (data : Word), ∃ t, exec (.dmaStart c data) s = .next t ∧
    (let v : Word := data ||| 1
     let d := s.dma[c]
     let queue := if v.getLsbD 9 = true then [] else d.queue
     let resumes := v.getLsbD 8 = true ∧ d.active = none
     let active := if resumes then queue.head? else d.active
     let queue := if resumes then queue.tail else queue
     let paused := s.on (F.DMA_n_STATUS_PAUSED c) && !v.getLsbD 8
     t.on (F.DMA_n_STATUS_PAUSED c) = paused ∧
     (if v.getLsbD 0 = false then (t.dma[c]).queue = queue ∧ (t.dma[c]).active = active
      else if 64 ≤ queue.length then
        t.on (F.DMA_n_STATUS_QFULL c) = true ∧ (t.dma[c]).queue = queue ∧ (t.dma[c]).active = active
      else
        (let queue := queue ++ [s.dmaDesc c data.toNat]
         if paused = true ∨ active.isSome = true then (t.dma[c]).queue = queue ∧ (t.dma[c]).active = active
         else (t.dma[c]).queue = queue.tail ∧ (t.dma[c]).active = queue.head?)))) ∧
  (∀ (s : State) (c : Fin 32) (data : Word), ∃ t, exec (.dmaResume c data) s = .next t ∧
    (let v : Word := data ||| 0x100
     let d := s.dma[c]
     let queue := if v.getLsbD 9 = true then [] else d.queue
     let resumes := v.getLsbD 8 = true ∧ d.active = none
     let active := if resumes then queue.head? else d.active
     let queue := if resumes then queue.tail else queue
     let paused := s.on (F.DMA_n_STATUS_PAUSED c) && !v.getLsbD 8
     t.on (F.DMA_n_STATUS_PAUSED c) = paused ∧
     (if v.getLsbD 0 = false then (t.dma[c]).queue = queue ∧ (t.dma[c]).active = active
      else if 64 ≤ queue.length then
        t.on (F.DMA_n_STATUS_QFULL c) = true ∧ (t.dma[c]).queue = queue ∧ (t.dma[c]).active = active
      else
        (let queue := queue ++ [s.dmaDesc c data.toNat]
         if paused = true ∨ active.isSome = true then (t.dma[c]).queue = queue ∧ (t.dma[c]).active = active
         else (t.dma[c]).queue = queue.tail ∧ (t.dma[c]).active = queue.head?)))) ∧
  (∀ (s : State) (c : Fin 32) (data : Word), ∃ t, exec (.dmaFlush c data) s = .next t ∧
    (let v : Word := data ||| 0x200
     let d := s.dma[c]
     let queue := if v.getLsbD 9 = true then [] else d.queue
     let resumes := v.getLsbD 8 = true ∧ d.active = none
     let active := if resumes then queue.head? else d.active
     let queue := if resumes then queue.tail else queue
     let paused := s.on (F.DMA_n_STATUS_PAUSED c) && !v.getLsbD 8
     t.on (F.DMA_n_STATUS_PAUSED c) = paused ∧
     (if v.getLsbD 0 = false then (t.dma[c]).queue = queue ∧ (t.dma[c]).active = active
      else if 64 ≤ queue.length then
        t.on (F.DMA_n_STATUS_QFULL c) = true ∧ (t.dma[c]).queue = queue ∧ (t.dma[c]).active = active
      else
        (let queue := queue ++ [s.dmaDesc c data.toNat]
         if paused = true ∨ active.isSome = true then (t.dma[c]).queue = queue ∧ (t.dma[c]).active = active
         else (t.dma[c]).queue = queue.tail ∧ (t.dma[c]).active = queue.head?)))) ∧
  (∀ (s : State) (c : Fin 32) (code : BitVec 4) (moved : Nat) (data : List Byte),
    ∃ t, exec (.descriptorFinish c code moved data) s = .next t ∧
    match (s.dma[c]).active with
    | none => t = s
    | some d =>
      (let k := s.dmaCode c d code.toNat moved
       let n := if k = 0 then d.count else if k = 6 then 0 else min moved d.count
       if k ≠ 6 ∧ s.dmaWaits d = true then t = s
       else t.f (F.DMA_n_LAST_CODE c) = k ∧ t.on (F.DMA_n_LAST_PWR_FORCED c) = false ∧
         t.f (F.DMA_n_LAST_BYTES_BYTES c) = n % 2 ^ 32 ∧
         t.f (F.DMA_n_STATUS_DONE c) = (s.f (F.DMA_n_STATUS_DONE c) + 1) % 2 ^ 16 ∧
         (d.srcSp = 2 → d.dstSp = 2 → 0 < n → t.amem = Mem.writeN s.amem d.dst ((Mem.readN s.amem d.src d.count).take n)) ∧
         (d.srcSp = 0 → d.dstSp = 1 → 0 < n → t.sram = Mem.writeN s.sram d.dst (data.take n)) ∧
         (n = 0 ∨ d.dstSp = 0 ∨ d.dstSp = 1 → t.amem = s.amem) ∧ (n = 0 ∨ d.dstSp = 0 ∨ d.dstSp = 2 → t.sram = s.sram) ∧
         (if k = 7 then t.on (F.DMA_n_STATUS_PAUSED c) = true ∧ (t.dma[c]).active = none ∧ (t.dma[c]).queue = (s.dma[c]).queue
          else if s.on (F.DMA_n_STATUS_PAUSED c) = true then (t.dma[c]).active = none ∧ (t.dma[c]).queue = (s.dma[c]).queue
          else (t.dma[c]).active = (s.dma[c]).queue.head? ∧ (t.dma[c]).queue = (s.dma[c]).queue.tail))) ∧
  (∀ (s : State) (c : Fin 32) (moved : Nat) (data : List Byte), ∃ t, exec (.dmaStopForced c moved data) s = .next t ∧
    (if (s.dma[c]).active = none ∨ (s.dma[c]).stopAsked = false then t = s
     else t.f (F.DMA_n_LAST_CODE c) = 7 ∧ t.on (F.DMA_n_LAST_PWR_FORCED c) = true ∧
       t.on (F.DMA_n_STATUS_PAUSED c) = true ∧ (t.dma[c]).active = none ∧ (t.dma[c]).queue = (s.dma[c]).queue))

/-- R352, R378 to R381, R386: NVMe direct; log entry 20. -/
def Obligations.NvmePairsAct : Prop :=
  (∀ (s : State) (q : Fin 16) (r : NvqReg) (data : Long), ∃ t, exec (.nvqCfgWrite q r data) s = .next t ∧
    (if s.pairUsed q = true then t = s
     else match r with
       | .cfg => t.on (F.NVQ_q_CFG_EN q) = data.getLsbD 0 ∧ t.on (F.NVQ_q_CFG_LOC q) = data.getLsbD 1 ∧
           t.on (F.NVQ_q_CFG_LBA4K q) = data.getLsbD 2 ∧ t.f (F.NVQ_q_CFG_QSIZE_M1 q) = bitsOf data.toNat 16 10 ∧
           (if data.getLsbD 0 = true then t.on (F.NVQ_q_CFG_FAILED q) = s.on (F.NVQ_q_CFG_FAILED q) ∧ t.nvq = s.nvq
            else t.on (F.NVQ_q_CFG_FAILED q) = false ∧ (t.nvq[q]).cmds = [] ∧ (t.nvq[q]).head = 0)
       | .nsid => OnlyReg s t (A.NVQ_q_NSID q) ∧ t.f (F.NVQ_q_NSID_NSID q) = bitsOf data.toNat 0 32
       | .sq => t.pair (A.NVQ_q_SQ_LO q) = data.toNat
       | .cq => t.pair (A.NVQ_q_CQ_LO q) = data.toNat
       | .sqdb => t.pair (A.NVQ_q_SQDB_LO q) = data.toNat
       | .cqdb => t.pair (A.NVQ_q_CQDB_LO q) = data.toNat
       | .lba => t.pair (A.NVQ_q_LBA_LO q) = data.toNat
       | .nlba => t.pair (A.NVQ_q_NLBA_LO q) = data.toNat
       | .timeout => OnlyReg s t (A.NVQ_q_TIMEOUT q) ∧ t.f (F.NVQ_q_TIMEOUT_TIMEOUT_MS q) = bitsOf data.toNat 0 16 ∧
           t.f (F.NVQ_q_TIMEOUT_LAST_SC q) = s.f (F.NVQ_q_TIMEOUT_LAST_SC q))) ∧
  (∀ (s : State) (q : Fin 16) (cid : BitVec 16) (status : BitVec 15), ∃ t, exec (.nvmeCompletion q cid status) s = .next t ∧
    (if s.on (F.NVQ_q_CFG_EN q) = false then t = s
     else (t.nvq[q]).head = ((s.nvq[q]).head + 1) % (s.f (F.NVQ_q_CFG_QSIZE_M1 q) + 1) ∧
       (t.nvq[q]).cmds = (s.nvq[q]).cmds.filter (fun x => decide (x.cid ≠ cid.toNat)) ∧
       (if status = 0 ∨ ((s.nvq[q]).cmds.all fun x => decide (x.cid ≠ cid.toNat)) = true then t.f (F.NVQ_q_STATUS_ERRS q) = s.f (F.NVQ_q_STATUS_ERRS q)
        else t.f (F.NVQ_q_STATUS_ERRS q) = min (s.f (F.NVQ_q_STATUS_ERRS q) + 1) (2 ^ (F.NVQ_q_STATUS_ERRS q).width - 1) ∧ t.f (F.NVQ_q_TIMEOUT_LAST_SC q) = status.toNat))) ∧
  (∀ s : State, (∃ t, exec (.nvqKick) s = .next t ∧ exec (.completionPoll) s = .next t ∧
    (let here (u : State) (q : Fin 16) : Nat := Mem.readLE u.sram (0x2D90000 + q.val * 0x4000 + (u.nvq[q]).head * 16 + 12) 4
     let reads (q : Fin 16) : Prop := s.on (F.NVQ_q_CFG_EN q) = true ∧ s.on (F.NVQ_q_CFG_LOC q) = false
     ((∀ q, reads q → (here s q).testBit 16 ≠ (s.nvq[q]).phase) → t = s) ∧
     ∀ q, reads q → (∀ p, p ≠ q → ¬ reads p) → (here s q).testBit 16 = (s.nvq[q]).phase →
       (let u := s.nvComplete q (here s q % 2 ^ 16) (here s q / 2 ^ 17)
        (here u q).testBit 16 ≠ (u.nvq[q]).phase → t = u)))) ∧
  (∀ (s : State) (q : Fin 16), ∃ t, exec (.nvmeTimeout q) s = .next t ∧
    (if (s.nvq[q]).cmds = [] ∨ s.f (F.NVQ_q_TIMEOUT_TIMEOUT_MS q) = 0 then t = s
     else t.on (F.NVQ_q_CFG_FAILED q) = true ∧
       ∀ k : Fin 64, t.strState k = if s.strState k = 2 ∧ s.on (F.STR_s_CFG_DEST k) = true ∧
         (s.f (F.STR_s_CFG_NVQ_MASK k)).testBit q = true then 3 else s.strState k)) ∧
  (∀ (s : State) (k : Fin 64), ∃ t, exec (.stripeWrite k) s = .next t ∧
    (let x := s.streams[k]
     if s.on (F.STR_s_CFG_DEST k) = false ∨ s.strState k = 0 ∨ x.prod < x.written / s.stripeOf k * s.stripeOf k + s.stripeOf k ∨
       s.nvqRoom (s.logPlace k x.written).1 = 0 then t = s
     else x.written + min (s.stripeOf k) 131072 ≤ (t.streams[k]).written ∧
       (t.streams[k]).log = x.log.drop ((t.streams[k]).written - x.written) ∧ (t.streams[k]).prod = x.prod)) ∧
  (∀ (s : State) (k : Fin 64), ∃ t, exec (.stripePartialTimeout k) s = .next t ∧ (t.streams[k]).written = (s.streams[k]).written ∧
    (t.streams[k]).log = (s.streams[k]).log ∧
    (let x := s.streams[k]
     let held := x.prod - x.written
     let q := (s.logPlace k x.written).1
     let lba := s.lbaSize q
     if s.on (F.STR_s_CFG_DEST k) = false ∨ s.strState k = 0 ∨ held ≤ x.partly ∨ s.stripeOf k ≤ x.written % s.stripeOf k + held ∨
       s.nvqRoom q = 0 then t = s
     else if (held + lba - 1) / lba * lba - x.partly / lba * lba ≤ 131072 then
       (t.streams[k]).partly = held ∧ (t.nvq[q]).cmds.length = (s.nvq[q]).cmds.length + 1
     else x.partly < (t.streams[k]).partly)) ∧
  (∀ (s : State) (what : Bar4Read), ∃ t, exec (.bar4Read what) s = .next t ∧ ∃ bs, t.out = .bytes bs :: s.out ∧
    match what with
    | .plain a n => bs.length = n ∧ ∀ i, i < n → 6 * 2 ^ 20 ≤ a.toNat + i → bs[i]? = some 0
    | .command q cid off len => match (s.nvq[q]).cmds.find? fun x => decide (x.cid = cid.toNat) with
        | some x => bs = (x.data.drop off).take len
        | none => bs.length = len)

/-- R168 to R170, R175 to R178: entries of unit 11. -/
def Obligations.CalibrationEntriesAct : Prop :=
  ∀ (s : State) (label : Long),
  EntryActs s 11 (fun x => x = 0) label (.freeze label)
    (fun e _ _ => e.opnd.toNat < 4)
    (fun e _ _ t => t.reg A.CAL_FREEZE = e.opnd ∧ ∀ n : Fin 2, t.on (F.CAL_n_STATUS_FRZ_PRG n) = e.opnd.getLsbD n.val) ∧
  EntryActs s 11 (fun x => x = 1) label (.rotate label)
    (fun e _ s2 => bitsOf e.opnd.toNat 2 2 = 0 ∧ e.opnd.toNat < 64 ∧
      ∀ n : Fin 2, e.opnd.getLsbD n.val = true → s2.on (F.CAL_n_STATUS_RETIRED n) = false)
    (fun e _ s2 t => ∀ n : Fin 2, (e.opnd.getLsbD (4 + n.val) = true → t.reg (A.CAL_n_USER n) = s2.reg (A.CAL_n_USER_STAGE n)) ∧
      (e.opnd.getLsbD (4 + n.val) = false → t.reg (A.CAL_n_USER n) = s2.reg (A.CAL_n_USER n)) ∧
      (if e.opnd.getLsbD n.val = false then t.f (F.CAL_n_STATUS_RELIEF n) = s2.f (F.CAL_n_STATUS_RELIEF n) ∧
         t.reg (A.CAL_n_STEPS n) = s2.reg (A.CAL_n_STEPS n)
       else
        (let a := blockUp (s2.sampleOf label)
         let c0 := if e.opnd.getLsbD 4 = true then s2.userCommit 0 (s2.sampleOf label) else s2
         let c1 := if e.opnd.getLsbD 5 = true then c0.userCommit 1 (s2.sampleOf label) else c0
         let u := c1.advanceSamples a
         if u.slicesOff = true then t.f (F.CAL_n_STATUS_RELIEF n) = u.f (F.CAL_n_STATUS_RELIEF n)
         else if u.frozenAt n a = true then t.on (F.CAL_n_STATUS_DEFER_PEND n) = true ∧
           t.f (F.CAL_n_STATUS_RELIEF n) = u.f (F.CAL_n_STATUS_RELIEF n)
         else if 3 ≤ (u.cal.get n).succ.toList.getD (u.f (F.CAL_n_STATUS_RELIEF n)) 0 then
           t.on (F.CAL_n_STATUS_RETIRED n) = true ∧ t.f (F.CAL_n_STATUS_RELIEF n) = u.f (F.CAL_n_STATUS_RELIEF n)
         else
           t.f (mapFld n ((u.reg (A.CAL_n_STEPS n)).toNat % 16)) = u.f (F.CAL_n_STATUS_RELIEF n) ∧
           t.f (F.CAL_n_STATUS_RELIEF n) = u.f (mapFld n ((u.reg (A.CAL_n_STEPS n)).toNat % 16)) ∧
           t.f (F.CAL_n_STEPS_STEP n) = (u.f (F.CAL_n_STEPS_STEP n) + 1) % 2 ^ 32 ∧ t.f (F.CAL_n_STATUS_WINDOW n) = 0 ∧
           t.pair (A.CAL_n_LAST_SWAP_LO n) = (u.labelOf a).toNat ∧ (t.cal.get n).swapAt = a ∧ (t.cal.get n).outcome = 0))) ∧
  EntryActs s 11 (fun x => x = 2) label (.swapSched label)
    (fun e _ _ => e.opnd.toNat < 2 ^ 22 ∧ (e.opnd.toNat % 2 ^ 20 = 0 ∨ 12500 ≤ e.opnd.toNat % 2 ^ 20) ∧ bitsOf e.opnd.toNat 20 2 ≠ 0)
    (fun e _ s2 t => t.reg A.CAL_SWAP_SCHED = e.opnd ∧ ∀ n : Fin 2,
      (if e.opnd.getLsbD (20 + n.val) = true then t.f (F.CAL_n_SCHED_PERIOD n) = e.opnd.toNat % 2 ^ 20 ∧
         (t.cal.get n).nextGrid = (if e.opnd.toNat % 2 ^ 20 = 0 then none else some (blockUp (s2.sampleOf label) + e.opnd.toNat % 2 ^ 20 * 4096))
       else t.f (F.CAL_n_SCHED_PERIOD n) = s2.f (F.CAL_n_SCHED_PERIOD n) ∧ (t.cal.get n).nextGrid = (s2.cal.get n).nextGrid))

/-- R166, R168 to R176, R179 to R181: converter calibration at work. -/
def Obligations.CalibrationRuns : Prop :=
  (∀ (s : State) (n : Fin 2) (arrived : Bool), ∃ t, exec (.swapGridPoint n arrived) s = .next t ∧
    match (s.cal.get n).nextGrid with
    | none => t = s
    | some g =>
        (let u := s.advanceSamples g
         (t.cal.get n).nextGrid = some (g + u.calPeriod n) ∧
         (if u.on (F.CAL_n_STATUS_RETIRED n) = true ∨ u.slicesOff = true then
            t.f (F.CAL_n_STATUS_RELIEF n) = u.f (F.CAL_n_STATUS_RELIEF n)
          else if arrived = false then t.on (F.CAL_n_STATUS_MISSED n) = true ∧
            t.f (F.CAL_n_COUNTS_MISSED n) = min (u.f (F.CAL_n_COUNTS_MISSED n) + 1) (2 ^ (F.CAL_n_COUNTS_MISSED n).width - 1)
          else if u.frozenAt n g = true then t.on (F.CAL_n_STATUS_DEFER_PEND n) = true ∧
            t.f (F.CAL_n_STATUS_RELIEF n) = u.f (F.CAL_n_STATUS_RELIEF n)
          else if 3 ≤ (u.cal.get n).succ.toList.getD (u.f (F.CAL_n_STATUS_RELIEF n)) 0 then
            t.on (F.CAL_n_STATUS_RETIRED n) = true ∧ t.f (F.CAL_n_STATUS_RELIEF n) = u.f (F.CAL_n_STATUS_RELIEF n)
          else
            t.f (mapFld n ((u.reg (A.CAL_n_STEPS n)).toNat % 16)) = u.f (F.CAL_n_STATUS_RELIEF n) ∧
            t.f (F.CAL_n_STATUS_RELIEF n) = u.f (mapFld n ((u.reg (A.CAL_n_STEPS n)).toNat % 16)) ∧
            t.f (F.CAL_n_STEPS_STEP n) = (u.f (F.CAL_n_STEPS_STEP n) + 1) % 2 ^ 32 ∧ t.f (F.CAL_n_STATUS_WINDOW n) = 0 ∧
            t.pair (A.CAL_n_LAST_SWAP_LO n) = (u.labelOf g).toNat ∧ (t.cal.get n).swapAt = g ∧
            (t.cal.get n).outcome = 0))) ∧
  (∀ (s : State) (n : Fin 2), ∃ t, exec (.deferredSwapPerform n) s = .next t ∧
    (if s.on (F.CAL_n_STATUS_DEFER_PEND n) = true ∧ s.frozen n = false ∧ s.slicesOff = false then
      (let a := blockUp (s.cal.get n).thaw
       let u := s.advanceSamples a
       t.on (F.CAL_n_STATUS_DEFER_PEND n) = false ∧
       (u.on (F.CAL_n_STATUS_RETIRED n) = false → (if 3 ≤ (u.cal.get n).succ.toList.getD (u.f (F.CAL_n_STATUS_RELIEF n)) 0 then
          t.on (F.CAL_n_STATUS_RETIRED n) = true ∧ t.f (F.CAL_n_STATUS_RELIEF n) = u.f (F.CAL_n_STATUS_RELIEF n)
        else
          t.f (mapFld n ((u.reg (A.CAL_n_STEPS n)).toNat % 16)) = u.f (F.CAL_n_STATUS_RELIEF n) ∧
          t.f (F.CAL_n_STATUS_RELIEF n) = u.f (mapFld n ((u.reg (A.CAL_n_STEPS n)).toNat % 16)) ∧
          t.f (F.CAL_n_STEPS_STEP n) = (u.f (F.CAL_n_STEPS_STEP n) + 1) % 2 ^ 32 ∧ t.f (F.CAL_n_STATUS_WINDOW n) = 0 ∧
          t.pair (A.CAL_n_LAST_SWAP_LO n) = (u.labelOf a).toNat ∧ (t.cal.get n).swapAt = a ∧
          (t.cal.get n).outcome = 0)))
     else t = s)) ∧
  (∀ (s : State) (n : Fin 2), ∃ t, exec (.referenceWindowEnd n) s = .next t ∧
    (if s.f (F.CAL_n_STATUS_WINDOW n) = 0 then t.f (F.CAL_n_STATUS_WINDOW n) = 1 else t = s)) ∧
  (∀ (s : State) (n : Fin 2), ∃ t, exec (.checkWindowStart n) s = .next t ∧
    (if s.f (F.CAL_n_STATUS_WINDOW n) = 1 then t.f (F.CAL_n_STATUS_WINDOW n) = 2 ∧ (t.cal.get n).checkAt =
      (match (s.cal.get n).nextGrid with
       | some g => g - 6400000
       | none => (s.cal.get n).swapAt + 44800000) else t = s)) ∧
  (∀ (s : State) (n : Fin 2) (bg : Word) (low : Bool) (ro rg : Nat), ∃ t, exec (.checkWindowEnd n bg low ro rg) s = .next t ∧
    (let sl := s.f (F.CAL_n_STATUS_RELIEF n)
     let e := (s.cal.get n).checkAt + 6400000
     let u := s.advanceSamples e
     let old := u.reg (A.CAL_n_s_BG n sl)
     let bg' : Word := if low = true then old.extractLsb' 20 12 ++ bg.extractLsb' 0 20 else bg
     let why := u.plausReason n sl bg' ro rg
     if s.f (F.CAL_n_STATUS_WINDOW n) ≠ 2 then t = s
     else t.f (F.CAL_n_STATUS_WINDOW n) = (if (u.cal.get n).nextGrid = none then 3 else u.f (F.CAL_n_STATUS_WINDOW n)) ∧
       (if (u.cal.get n).outcome ≠ 0 then t.cal = u.cal ∧ t.reg (A.CAL_n_s_BG n sl) = old
        else if u.stepUnusable n e = true ∨ u.frozen n = true ∨ u.slicesOff = true then (t.cal.get n).outcome = 1 ∧ t.reg (A.CAL_n_s_BG n sl) = old
        else if why = 0 then (t.cal.get n).outcome = 3 ∧ (t.cal.get n).oldBg = old ∧ t.reg (A.CAL_n_s_BG n sl) = bg' ∧
          t.reg (A.CAL_n_s_TRIM n sl) = (trimInForce (u.reg (A.CAL_n_s_FUSE n sl)) bg' (u.reg (A.CAL_n_USER n))).1
        else (t.cal.get n).outcome = 2 ∧ t.reg (A.CAL_n_s_BG n sl) = old ∧ t.on (F.CAL_n_STATUS_PLAUS n) = true ∧
          t.f (F.CAL_n_PLAUS_SLICE n) = sl ∧ t.f (F.CAL_n_PLAUS_REASON n) = why ∧
          t.f (F.CAL_n_PLAUS_COUNT n) = min (u.f (F.CAL_n_PLAUS_COUNT n) + 1) (2 ^ (F.CAL_n_PLAUS_COUNT n).width - 1)))) ∧
  (∀ (s : State) (data : List Byte), ∃ t, exec (.factoryTrimReadDone data) s = .next t ∧
    (if s.f F.CAL_STATUS_TRIM_STATE ≠ 1 ∨ s.trims.factory.isSome = true ∨ s.f F.CAL_STATUS_CRC_FAILS = 3 then t = s
     else if data.length = 144 ∧ (crc32c (data.take 140)).toNat = ofBytes (data.drop 140) then
       t.f F.CAL_STATUS_CRC_FAILS = 0 ∧ t.trims.factory = some ((wordsOf 35 data).headD 0, (wordsOf 35 data).tail)
     else t.trims.factory = none ∧ t.f F.CAL_STATUS_CRC_FAILS = min 3 (s.f F.CAL_STATUS_CRC_FAILS + 1))) ∧
  (∀ (s : State) (data : Option (List Byte)), ∃ t, exec (.userTrimReadDone data) s = .next t ∧
    (if s.f F.CAL_STATUS_TRIM_STATE ≠ 1 ∨ s.trims.factory = none ∨ s.trims.user.isSome = true then t = s
     else match (if s.f F.RST_STRAPS_BOOT_USED = 1 then none else data) with
       | none => t.trims.user = some none ∧ t.regs = s.regs
       | some d => if d.length = 64 ∧ ofBytes (d.take 4) = 0x5452494D ∧ (crc32c (d.take 60)).toNat = ofBytes (d.drop 60) then
           t.trims.user = some (some (BitVec.ofNat 32 (ofBytes ((d.drop 4).take 4)), BitVec.ofNat 32 (ofBytes ((d.drop 8).take 4))))
         else if s.trims.tries < 2 then t.trims.user = none ∧ t.trims.tries = s.trims.tries + 1
         else t.trims.user = some none ∧ t.on F.CAL_STATUS_USER_BAD = true)) ∧
  (∀ (s : State) (label : Long), ∃ t, exec (.trimSetApplied label) s = .next t ∧
    match s.trims.factory, s.trims.user with
    | some (h, ws), some us =>
      if s.f F.CAL_STATUS_TRIM_STATE ≠ 1 ∨ s.on F.TTH_STATUS_RET_UP = false then t = s
      else t.f F.CAL_STATUS_TRIM_STATE = (if us.isSome = true then 3 else 2) ∧ t.f F.CAL_STATUS_FUSE_REV = h.toNat % 256 ∧
        ∀ n : Fin 2, t.reg (A.CAL_n_USER n) = (if n = 0 then (us.getD (0, 0)).1 else (us.getD (0, 0)).2) ∧
          t.f (F.CAL_n_STATUS_RELIEF n) = 16 ∧ t.reg (A.CAL_n_STEPS n) = 0 ∧ t.f (F.CAL_n_SCHED_PERIOD n) = 15625 ∧
          t.f (F.CAL_n_STATUS_WINDOW n) = 0 ∧ (∀ p, p < 16 → t.f (mapFld n p) = p) ∧
          ∀ sl, sl < 17 → t.reg (A.CAL_n_s_FUSE n sl) = ws.getD (17 * n.val + sl) 0 ∧ t.reg (A.CAL_n_s_BG n sl) = 0 ∧
            t.reg (A.CAL_n_s_TRIM n sl) = (trimInForce (ws.getD (17 * n.val + sl) 0) 0 (t.reg (A.CAL_n_USER n))).1
    | _, _ => t = s)

/-- R204 to R214: the Tether. -/
def Obligations.TetherActs : Prop :=
  (∀ (s : State) (lanes : FrameLanes) (pairs : List (List (BitVec 12) × List (BitVec 12))),
    ∃ t, exec (.forwardFrame lanes pairs) s = .next t ∧
    (if s.on F.TTH_STATUS_FWD_UP = false ∨ s.tth.asleep = true then t = s
     else
      (let m := s.laneSwitch false
       let k := m.pairsNext
       let u := if k = 0 then m else m.advanceSamples (m.tth.rx + 64 * k + 383)
       let found := frameErrs false 34 32 u.tth.fwdMap u.tth.tails lanes.errors
       let c := checkErrs 32 found.1 found.2.1 lanes.margins
       t.pair A.TTH_FRAMES_LO = (u.pair A.TTH_FRAMES_LO + 1) % 2 ^ 64 ∧ t.tth.frame = u.tth.frame + 1 ∧ t.tth.rx = u.tth.rx + 64 * k ∧
       (if c.ok = true then (∀ p, t.tth.unacked.head? = some p → p.got = false) ∧
          (∀ q : Fin 15, ∀ e ∈ t.tl.queues[q], e.phase ≠ .reported) ∧ t.f F.TTH_CRC_ERRS_COUNT = u.f F.TTH_CRC_ERRS_COUNT
        else t.f F.TTH_CRC_ERRS_COUNT = min (u.f F.TTH_CRC_ERRS_COUNT + 1) (2 ^ F.TTH_CRC_ERRS_COUNT.width - 1) ∧
          t.f F.TTH_GAP_BLOCKS_COUNT = min (u.f F.TTH_GAP_BLOCKS_COUNT + k) (2 ^ F.TTH_GAP_BLOCKS_COUNT.width - 1))))) ∧
  (∀ (h : BitVec 58) (bs : List Bool), (descramble h (scramble h bs).1).1 = bs) ∧
  (∀ w : Long, payloadOf (sendOrder w) = w) ∧
  (∀ (h k : BitVec 58) (a b : List Bool), a.length = b.length →
    (descramble (h ^^^ k) (List.zipWith xor a b)).1 = List.zipWith xor (descramble h a).1 (descramble k b).1) ∧
  (∀ codes : List (BitVec 12), codes.length = 64 → wordCodes (codeWords codes) = codes) ∧
  (∀ skip l : Nat, l < 32 → 32 ≤ ((List.range 34).filter fun i => !skip.testBit i).length →
    physLane 34 skip l < 34 ∧ skip.testBit (physLane 34 skip l) = false ∧ laneUse 34 32 skip (physLane 34 skip l) = .data l) ∧
  (∀ skip p : Nat, p < 34 → skip.testBit p = true → laneUse 34 32 skip p = .prbs31) ∧
  (∀ (s : State) (ret : Bool), ∃ t, exec (.laneSwitch ret) s = .next t ∧
    (if s.switchDue ret = false then t = s
     else if ret = true then t.tth.retMap = s.retBad ∧ t.tth.retSwitch = none ∧ t.tth.fwdMap = s.tth.fwdMap
     else t.tth.fwdMap = s.fwdBad ∧ t.tth.fwdSwitch = none ∧ t.tth.retMap = s.tth.retMap ∧
       ∀ l, s.tth.gapFrom = some l → t.pair A.TTH_LAST_SWITCH_LO = l.toNat)) ∧
  (∀ s : State, ∃ t, exec .clockLaneFail s = .next t ∧
    (let bad := s.f F.TTH_FWD_BAD_HI_CLK_BAD ||| 2 ^ s.f F.TTH_STATUS_CLK_LANE
     t.f F.TTH_FWD_BAD_HI_CLK_BAD = bad ∧
     (if bad = 3 then t.on F.TTH_STATUS_FAILED = true ∧ t.on F.TTH_STATUS_FWD_UP = false
      else t.f F.TTH_STATUS_CLK_LANE = 1 ∧
        t.pair A.TTH_LAST_SWITCH_LO = (s.tth.gapFrom.getD (s.labelOf s.tth.rx)).toNat))) ∧
  (∀ (s : State) (lanes : FrameLanes), ∃ t, exec (.returnFrame lanes) s = .next t ∧
    (let m := s.laneSwitch true
     let found := frameErrs true 3 2 m.tth.retMap m.tth.tails (lanes.errors.map fun e => { e with lane := e.lane - 40 })
     let c := checkErrs 2 found.1 found.2.1 lanes.margins
     t.tth.retFrames = m.tth.retFrames + 1 ∧
     (t.on F.TTH_STATUS_FAILED = false → List.IsPrefix (carryPackets m.tth.retFrames c.ok 15 m.tth.unacked) t.tth.unacked) ∧
     (if c.ok = true then t.f F.TTH_RET_ERRS_CRC = m.f F.TTH_RET_ERRS_CRC ∧ (m.tth.jumpSeen = true → t.tth.jump = none)
      else t.f F.TTH_RET_ERRS_CRC = min (m.f F.TTH_RET_ERRS_CRC + 1) (2 ^ F.TTH_RET_ERRS_CRC.width - 1) ∧ t.tth.jump = m.tth.jump))) ∧
  (∀ s : State, ∃ t, exec .returnResend s = .next t ∧
    (if s.on F.TTH_STATUS_RET_UP = false then t = s
     else t.tth.unacked = s.tth.unacked.map (fun p => if p.again s.tth.retFrames = true then
         { p with sentAt := some s.tth.retFrames, due := 1 } else p) ∧
       t.f F.TTH_RET_ERRS_RESENT = min (s.f F.TTH_RET_ERRS_RESENT + (s.tth.unacked.filter fun p => p.again s.tth.retFrames).length)
         (2 ^ F.TTH_RET_ERRS_RESENT.width - 1))) ∧
  (∀ s : State, ∃ t, exec .returnLinkTimeout s = .next t ∧
    (if s.tth.asleep = true ∨ s.on F.TTH_STATUS_RET_UP = false then t = s
     else t.on F.TTH_STATUS_FAILED = true ∧ t.on F.TTH_STATUS_RET_UP = false ∧ t.on F.LMP_GLOBAL_STATUS_RETURN_OK = false ∧
       t.tth.unacked = [])) ∧
  (∀ s : State, ∃ t, exec .retrain s = .next t ∧ t.on F.TTH_STATUS_TRAINING = true ∧ t.on F.TTH_STATUS_FWD_UP = false ∧
    t.on F.TTH_STATUS_RET_UP = false ∧ t.tth.phase = 1 ∧ t.tth.attempt = 1 ∧
    t.fwdBad = s.fwdBad ||| s.pair A.TTH_FWD_FUSE_LO % 2 ^ 34 ∧ t.retBad = s.retBad ||| s.f F.TTH_RET_BAD_FUSE) ∧
  (∀ (s : State) (bad : BitVec 34) (margins : List (Nat × Nat)), ∃ t, exec (.trainingPhaseDone bad margins) s = .next t ∧
    (let again : Prop := if s.tth.attempt < 3 then t.tth.phase = 1 ∧ t.tth.attempt = s.tth.attempt + 1
       else t.tth.phase = 0 ∧ t.on F.TTH_STATUS_TRAINING = false
     match s.tth.phase with
     | 1 => if s.good.tclk = false then t = s
         else if 1 < ((List.range 3).filter fun i => (s.retBad ||| bad.toNat % 8).testBit i).length then again
         else t.tth.phase = 2 ∧ t.retBad = s.retBad ||| bad.toNat % 8
     | 2 => if s.good.sclk = false then t = s
         else if 2 < ((List.range 34).filter fun i => (s.fwdBad ||| bad.toNat).testBit i).length then again
         else t.tth.phase = 3 ∧ t.fwdBad = s.fwdBad ||| bad.toNat
     | 3 => t.tth.phase = 0 ∧ t.on F.TTH_STATUS_FWD_UP = true ∧ t.on F.TTH_STATUS_RET_UP = true ∧
         t.on F.TTH_STATUS_TRAINING = false ∧ t.tth.fwdMap = s.fwdBad ∧ t.tth.retMap = s.retBad ∧
         t.on F.LMP_GLOBAL_STATUS_RETURN_OK = true
     | _ => t = s))

/-- R403 to R408: the Gauge. -/
def Obligations.GaugeActs : Prop :=
  (∀ (s : State) (label : Long),
  EntryActs s 12 (fun x => x = 0) label (.scanMask label)
    (fun _ _ _ => True)
    (fun e _ _ t => t.reg A.GGE_SCAN_MASK = e.opnd ∧ t.on F.GGE_STATUS_SCANNING = decide (e.opnd ≠ 0)) ∧
  EntryActs s 12 (fun x => x = 1) label (.urgent label)
    (fun e _ _ => e.opnd.toNat < 32)
    (fun e _ s2 t =>
      (4 ≤ s2.gge.queue.length → t.on F.GGE_STATUS_URG_DROP = true) ∧
      if s2.gge.cur.isSome = true ∨ s2.ggeRuns = false then t.gge.cur = s2.gge.cur ∧
        t.gge.queue.map (·.val) = s2.gge.queue.map (·.val) ++ (if 4 ≤ s2.gge.queue.length then [] else [e.opnd.toNat])
      else t.gge.cur.isSome = true)) ∧
  (∀ (s : State) (i : Fin 32), ∃ t, exec (.urgentRequest i) s = .next t ∧
    (let q := if 4 ≤ s.gge.queue.length then s.gge.queue else s.gge.queue ++ [i]
     if s.blockRuns 12 = false then t = s
     else (4 ≤ s.gge.queue.length → t.on F.GGE_STATUS_URG_DROP = true) ∧
     match s.gge.cur with
     | none => if s.ggeRuns = true then t.gge.cur.isSome = true else t.gge.cur = none ∧ t.gge.queue = q
     | some c => if 4 ≤ s.gge.queue.length ∨ c.urgent = true ∨ c.keep = true then t.gge.cur = some c ∧ t.gge.queue = q
         else if s.ggeRuns = false then t.gge.cur = none ∧ t.gge.aborted = some c.input ∧ t.gge.queue = q
         else s.gge.inRow < 4 → t.gge.aborted = some c.input ∧ t.gge.cur.map (·.input) = q.head? ∧ t.gge.queue = q.tail)) ∧
  (∀ (s : State) (i : Fin 32), ∃ t, exec (.snapLatch i) s = .next t ∧
    (if s.blockRuns 12 = false ∨ s.gge.snap.isSome = true then t = s
     else if s.gge.cur.isSome = true then t.gge.snap = some (i, false) ∧ t.on F.GGE_SNAP_PEND = true ∧ t.gge.acc = s.gge.acc
     else t.gge.snap = none ∧ t.on F.GGE_SNAP_PEND = false ∧ t.pair A.GGE_SNAP_SUM_LO = ((s.gge.acc[i]).sum).toNat ∧
       t.reg A.GGE_SNAP_COUNT = (s.gge.acc[i]).count ∧ t.f F.GGE_SNAP_MINMAX_MIN = ((s.gge.acc[i]).min).toNat ∧
       t.f F.GGE_SNAP_MINMAX_MAX = ((s.gge.acc[i]).max).toNat ∧
       t.gge.acc = s.gge.acc)) ∧
  (∀ (s : State) (i : Fin 32), ∃ t, exec (.snapClear i) s = .next t ∧
    (if s.blockRuns 12 = false ∨ s.gge.snap.isSome = true then t = s
     else if s.gge.cur.isSome = true then t.gge.snap = some (i, true) ∧ t.on F.GGE_SNAP_PEND = true ∧ t.gge.acc = s.gge.acc
     else t.gge.snap = none ∧ t.on F.GGE_SNAP_PEND = false ∧ t.pair A.GGE_SNAP_SUM_LO = ((s.gge.acc[i]).sum).toNat ∧
       t.reg A.GGE_SNAP_COUNT = (s.gge.acc[i]).count ∧ t.f F.GGE_SNAP_MINMAX_MIN = ((s.gge.acc[i]).min).toNat ∧
       t.f F.GGE_SNAP_MINMAX_MAX = ((s.gge.acc[i]).max).toNat ∧
       t.gge.acc = s.gge.acc.set i GgeAcc.zero)) ∧
  (∀ (s : State) (code : BitVec 12), ∃ t, exec (.conversionDone code) s = .next t ∧
    (if s.on F.CLK_STATUS_ACLK_OK = false then t = s
     else match (s.ggeStart).gge.cur with
      | none => t = s.ggeStart
      | some v => (s.gge.snap = none →
          t.gge.acc = if v.test = true then s.gge.acc else s.gge.acc.set v.input ((s.gge.acc[v.input]).add code)) ∧
        (v.test = true → v.stale = false → t.f (F.GGE_TEST_COUNT_COUNT) = min (s.f (F.GGE_TEST_COUNT_COUNT) + 1) (2 ^ (F.GGE_TEST_COUNT_COUNT).width - 1)) ∧
        (v.test = false → t.on (F.GGE_i_STATE_HI_ACTIVE v.input) = (decide (s.f (F.GGE_i_LIMIT_HIGH v.input) < code.toNat) &&
          (s.on (F.GGE_i_LIMIT_EN_HI v.input) || s.on (F.GGE_i_STATE_HI_ACTIVE v.input))) ∧
        (s.on (F.GGE_i_STATE_HI_ACTIVE v.input) = false → t.on (F.GGE_i_STATE_HI_ACTIVE v.input) = true →
          t.on ⟨A.GGE_ALARM_HI, v.input, 1⟩ = true) ∧
        t.on (F.GGE_i_STATE_LO_ACTIVE v.input) = (decide (code.toNat < s.f (F.GGE_i_LIMIT_LOW v.input)) &&
          (s.on (F.GGE_i_LIMIT_EN_LO v.input) || s.on (F.GGE_i_STATE_LO_ACTIVE v.input))) ∧
        (s.on (F.GGE_i_STATE_LO_ACTIVE v.input) = false → t.on (F.GGE_i_STATE_LO_ACTIVE v.input) = true →
          t.on ⟨A.GGE_ALARM_LO, v.input, 1⟩ = true)))) ∧
  (∀ (s : State) (data : Word), ∃ t, exec (.testCtrlWrite data) s = .next t ∧
    t.f F.GGE_TEST_CTRL_INPUT = bitsOf data.toNat 0 5 ∧ t.f F.GGE_TEST_CTRL_CODE = bitsOf data.toNat 5 10 ∧
    t.on F.GGE_TEST_CTRL_EN = data.getLsbD 15 ∧ t.on F.GGE_STATUS_TEST_ON = data.getLsbD 15 ∧
    t.f F.GGE_TEST_COUNT_COUNT = 0 ∧ t.f F.GGE_TEST_RESULT_MIN = 0xFFF ∧ t.f F.GGE_TEST_RESULT_MAX = 0)

/-- R391, R392, R395, R399, R400: the panel link; log entry 23. -/
def Obligations.PanelLinkActs : Prop :=
  (∀ (s : State) (data : Word), ∃ t, exec (.panelEnable data) s = .next t ∧
    (let v : Word := data ||| 1
     t.on F.PNL_CTRL_EN = v.getLsbD 0 ∧ t.on F.PNL_CTRL_TE_EN = v.getLsbD 1 ∧ t.on F.PNL_CTRL_TE_ON_CMD = v.getLsbD 2 ∧
     t.on F.PNL_CTRL_FRAME_EVT = v.getLsbD 4 ∧
     (if v.getLsbD 0 = true then t.pnlLink = (if s.pnlLink ≠ 0 then s.pnlLink else if s.f F.PWR_STATUS_STATE = 0 then 1 else 3)
      else if s.pnlLink = 0 ∨ s.pnlLink = 3 then t.pnlLink = 0
      else if s.pnl.push = true then t.pnlLink = s.pnlLink ∧ t.pnl.stopping = some 0
      else t.pnlLink = 0) ∧
     (v.getLsbD 3 = true → ∀ ch : Fin 2, ∀ x ∈ tilesOf (s.viewSize ch).1 (s.viewSize ch).2, x < 512 → x ∈ t.pnl.owed.get ch))) ∧
  (∀ (s : State) (data : Word), ∃ t, exec (.panelDisable data) s = .next t ∧
    (let v : Word := data &&& 0xFFFFFFFE
     t.on F.PNL_CTRL_EN = v.getLsbD 0 ∧ t.on F.PNL_CTRL_TE_EN = v.getLsbD 1 ∧ t.on F.PNL_CTRL_TE_ON_CMD = v.getLsbD 2 ∧
     t.on F.PNL_CTRL_FRAME_EVT = v.getLsbD 4 ∧
     (if v.getLsbD 0 = true then t.pnlLink = (if s.pnlLink ≠ 0 then s.pnlLink else if s.f F.PWR_STATUS_STATE = 0 then 1 else 3)
      else if s.pnlLink = 0 ∨ s.pnlLink = 3 then t.pnlLink = 0
      else if s.pnl.push = true then t.pnlLink = s.pnlLink ∧ t.pnl.stopping = some 0
      else t.pnlLink = 0) ∧
     (v.getLsbD 3 = true → ∀ ch : Fin 2, ∀ x ∈ tilesOf (s.viewSize ch).1 (s.viewSize ch).2, x < 512 → x ∈ t.pnl.owed.get ch))) ∧
  (∀ (s : State) (data : Word), ∃ t, exec (.full data) s = .next t ∧
    (let v : Word := data ||| 8
     t.on F.PNL_CTRL_EN = v.getLsbD 0 ∧ t.on F.PNL_CTRL_TE_EN = v.getLsbD 1 ∧ t.on F.PNL_CTRL_TE_ON_CMD = v.getLsbD 2 ∧
     t.on F.PNL_CTRL_FRAME_EVT = v.getLsbD 4 ∧
     (if v.getLsbD 0 = true then t.pnlLink = (if s.pnlLink ≠ 0 then s.pnlLink else if s.f F.PWR_STATUS_STATE = 0 then 1 else 3)
      else if s.pnlLink = 0 ∨ s.pnlLink = 3 then t.pnlLink = 0
      else if s.pnl.push = true then t.pnlLink = s.pnlLink ∧ t.pnl.stopping = some 0
      else t.pnlLink = 0) ∧
     (v.getLsbD 3 = true → ∀ ch : Fin 2, ∀ x ∈ tilesOf (s.viewSize ch).1 (s.viewSize ch).2, x < 512 → x ∈ t.pnl.owed.get ch))) ∧
  (∀ s : State, ∃ t, exec .panelLinkUp s = .next t ∧
    (if s.pnlLink ≠ 1 ∨ (s.on F.CLK_STATUS_PANEL_LOCKED = false ∧
        (s.on F.CLK_SYS_CTRL_START = false ∨ s.on F.CLK_STATUS_REF_PRESENT = false ∨ s.good.tclk = false)) then t = s
     else t.pnlLink = 2 ∧ t.on F.CLK_STATUS_PANEL_LOCKED = true)) ∧
  (∀ s : State, ∃ t, exec .panelClkLoss s = .next t ∧
    (if s.on F.CLK_STATUS_PANEL_LOCKED = false ∨ s.f F.PWR_STATUS_STATE ≠ 0 then t = s
     else t.on F.CLK_STATUS_PANEL_LOCKED = false ∧
       (if s.pnlLink = 0 ∨ s.pnlLink = 3 then t.pnlLink = s.pnlLink
        else if s.pnl.push = true then t.pnlLink = s.pnlLink ∧ t.pnl.stopping = some 3
        else t.pnlLink = 3))) ∧
  (∀ s : State, ∃ t, exec .panelClkRelock s = .next t ∧
    if s.on F.CLK_STATUS_PANEL_LOCKED = false ∧
        (s.on F.CLK_SYS_CTRL_START = false ∨ s.on F.CLK_STATUS_REF_PRESENT = false ∨ s.good.tclk = false) then t = s
    else (s.on F.CLK_STATUS_PANEL_LOCKED = false → t.on F.CLK_STATUS_PANEL_LOCKED = true) ∧ t.pnlLink = (if s.f F.PWR_STATUS_STATE = 0 ∧ s.pnlLink = 3 ∧ s.on F.PNL_CTRL_EN = true then 1 else s.pnlLink)) ∧
  (∀ (s : State) (r : PnlReg) (data : Word), ∃ t, exec (.panelCfgWrite r data) s = .next t ∧
    (if s.pnlLink ≠ 0 then t.on F.PNL_STATUS_CFG_BUSY = true ∧ OnlyReg s t F.PNL_STATUS_CFG_BUSY.addr
     else match r with
       | .link => OnlyReg s t A.PNL_LINK ∧
           t.f F.PNL_LINK_RATE = (if 80 ≤ bitsOf data.toNat 0 8 ∧ bitsOf data.toNat 0 8 ≤ 250 then bitsOf data.toNat 0 8 else s.f F.PNL_LINK_RATE) ∧
           t.f F.PNL_LINK_LANES = (if bitsOf data.toNat 8 2 ≠ 3 then bitsOf data.toNat 8 2 else s.f F.PNL_LINK_LANES)
       | .panel => OnlyReg s t A.PNL_PANEL ∧
           t.f F.PNL_PANEL_WIDTH = (if 64 ≤ bitsOf data.toNat 0 12 ∧ bitsOf data.toNat 0 12 ≤ 2560 then bitsOf data.toNat 0 12 else s.f F.PNL_PANEL_WIDTH) ∧
           t.f F.PNL_PANEL_HEIGHT = (if 64 ≤ bitsOf data.toNat 16 12 ∧ bitsOf data.toNat 16 12 ≤ 1600 then bitsOf data.toNat 16 12 else s.f F.PNL_PANEL_HEIGHT))) ∧
  (∀ (s : State) (data : Word), ∃ t, exec (.dcsSend data) s = .next t ∧
    (let len := bitsOf data.toNat 0 5
     let bytes := ((List.range 4).flatMap fun i => bytesOf 4 (s.reg (A.PNL_DCS_DATAi i)).toNat).take len
     if s.on F.PNL_STATUS_DCS_BUSY = true ∨ s.pnlLink ≠ 2 ∨ 16 < len then t.on F.PNL_STATUS_DCS_DROP = true ∧ t.out = s.out
     else match dcsPacket (data.getLsbD 5) bytes with
       | none => t.on F.PNL_STATUS_DCS_DROP = true ∧ t.out = s.out
       | some d => if s.pnl.push = true then t.pnl.dcs = some d ∧ t.on F.PNL_STATUS_DCS_BUSY = true ∧ t.out = s.out
           else t.out = .dsi d :: s.out))

/-- R393, R394, R396, R397: the panel engine at work. -/
def Obligations.PanelFramesAct : Prop :=
  (∀ (s : State) (us : BitVec 20), ∃ t, exec (.teEdge us) s = .next t ∧
    (if s.on F.PNL_CTRL_TE_EN = false ∨ s.good.pclk = false ∨ s.blockRuns 11 = false then t = s
     else t.on F.PNL_STATUS_TE_OK = true ∧ t.pnl.lastFrame = some s.time.samples ∧
      (s.pnl.lastFrame.isSome = true → t.f F.PNL_TE_PERIOD_US = us.toNat) ∧ (if s.pnlLink ≠ 2 then t.pnl.push = s.pnl.push ∧ t.pnl.pend = s.pnl.pend
      else if s.pnl.push = true then t.on F.PNL_STATUS_OVERRUN = true ∧ t.pnl.push = true ∧ t.pnl.pend = s.pnl.pend
      else match s.pnl.pend with
        | none => ∀ n : Fin 2, t.reg (A.PNL_ACT_VIEW_n n) = s.reg (A.PNL_ACT_VIEW_n n)
        | some h => t.pnl.pend = none ∧ t.on F.PNL_STATUS_PENDING = false ∧
            (if s.commitErr h ≠ 0 then t.on F.PNL_STATUS_COMMIT_ERR = true ∧ t.f F.PNL_STATUS_ERR_CODE = s.commitErr h ∧
               ∀ n : Fin 2, t.reg (A.PNL_ACT_VIEW_n n) = s.reg (A.PNL_ACT_VIEW_n n)
             else (∀ n : Fin 2, t.reg (A.PNL_ACT_VIEW_n n) = s.reg (A.PNL_VIEW_n n)) ∧
               (h = true → t.pnl.push = true ∧ t.on F.PNL_STATUS_PUSHING = true))))) ∧
  (∀ (s : State) (us : BitVec 20), ∃ t, exec (.frameTimer us) s = .next t ∧
    (if s.on F.PNL_CTRL_TE_EN = true ∨ s.good.pclk = false ∨ s.blockRuns 11 = false ∨ us.toNat ≠ s.f F.PNL_FRAME_US_US then t = s
     else t.pnl.lastFrame = some s.time.samples ∧
      (s.pnl.lastFrame.isSome = true → t.f F.PNL_TE_PERIOD_US = us.toNat) ∧ (if s.pnlLink ≠ 2 then t.pnl.push = s.pnl.push ∧ t.pnl.pend = s.pnl.pend
      else if s.pnl.push = true then t.on F.PNL_STATUS_OVERRUN = true ∧ t.pnl.push = true ∧ t.pnl.pend = s.pnl.pend
      else match s.pnl.pend with
        | none => ∀ n : Fin 2, t.reg (A.PNL_ACT_VIEW_n n) = s.reg (A.PNL_ACT_VIEW_n n)
        | some h => t.pnl.pend = none ∧ t.on F.PNL_STATUS_PENDING = false ∧
            (if s.commitErr h ≠ 0 then t.on F.PNL_STATUS_COMMIT_ERR = true ∧ t.f F.PNL_STATUS_ERR_CODE = s.commitErr h ∧
               ∀ n : Fin 2, t.reg (A.PNL_ACT_VIEW_n n) = s.reg (A.PNL_ACT_VIEW_n n)
             else (∀ n : Fin 2, t.reg (A.PNL_ACT_VIEW_n n) = s.reg (A.PNL_VIEW_n n)) ∧
               (h = true → t.pnl.push = true ∧ t.on F.PNL_STATUS_PUSHING = true))))) ∧
  (∀ s : State, ∃ t, exec .teLost s = .next t ∧
    (if s.on F.PNL_CTRL_TE_EN = true ∧ s.good.pclk = true ∧ s.blockRuns 11 = true then t.on F.PNL_STATUS_TE_OK = false else t = s)) ∧
  (∀ s : State, ∃ t, exec .commitGo s = .next t ∧ t.pnl.pend = some (s.pnl.pend.getD false) ∧ t.on F.PNL_STATUS_PENDING = true) ∧
  (∀ s : State, ∃ t, exec .commitHost s = .next t ∧ t.pnl.pend = some true ∧ t.on F.PNL_STATUS_PENDING = true) ∧
  (∀ (s : State) (data : Option (List Byte)), ∃ t, exec (.hostRowRead data) s = .next t ∧
    match s.pnl.hostRect, data with
    | none, _ => t = s
    | some _, none => t.pnl.hostRect = none ∧ t.on F.PNL_STATUS_HOST_ERR = true
    | some (_, _, _, h, _, _), some _ => if s.pnl.hostRow + 1 < h then t.pnl.hostRow = s.pnl.hostRow + 1 ∧ t.pnl.hostRect = s.pnl.hostRect
        else t.pnl.hostRect = none) ∧
  (∀ s : State, ∃ t, exec .pushDone s = .next t ∧
    (if s.pnl.hostRect.isSome = true ∨ s.pnl.push = false then t = s
     else match s.toSend s.pnl.pos with
      | [] => t.pnl.push = false ∧ t.on F.PNL_STATUS_PUSHING = false ∧ t.pair A.PNL_TILES_LO = s.pair A.PNL_TILES_LO
      | [_] => t.pnl.push = false ∧ t.on F.PNL_STATUS_PUSHING = false ∧
          t.pair A.PNL_TILES_LO = (s.pair A.PNL_TILES_LO + 1) % 2 ^ 64
      | _ => True))

/-- R410 to R416: the Logbook. -/
def Obligations.LogbookActs : Prop :=
  (∀ s : State, ∃ t, exec .operatingSecond s = .next t ∧
    (if s.on F.CLK_STATUS_ACLK_OK = false ∨ s.f F.LOG_STATUS_STATE = 0 then t = s
     else t.log.hottestLast = s.log.hottest ∧ t.log.hottest = none ∧
       (Mem.wf s.log.live = true → t.reg A.LOG_OPSEC = BitVec.ofNat 32 (min (s.live 8 + 1) (2 ^ 32 - 1))))) ∧
  (∀ s : State, ∃ t, exec .logCommit s = .next t ∧
    (if (∃ c, s.log.lastCommit = some c ∧ s.opsec < c + 10) ∨ s.f F.LOG_STATUS_STATE = 0 ∨
        (s.on F.LOG_STATUS_WRITING = true ∧ s.on F.LOG_STATUS_PENDING = true) then t = s
     else if s.on F.LOG_STATUS_WRITING = true then t.on F.LOG_STATUS_PENDING = true ∧ t.log.pendCause = 4 ∧
       t.reg A.LOG_SEQ = s.reg A.LOG_SEQ
     else t.reg A.LOG_SEQ = s.reg A.LOG_SEQ + 1 ∧ t.log.lastCommit = some s.opsec ∧
       t.log.staging = stagingOf s.log.live 4 (((s.reg A.LOG_SEQ).toNat + 1) % 2 ^ 32) ∧
       t.on F.LOG_STATUS_WRITING = decide (s.f F.LOG_STATUS_STATE ≠ 2))) ∧
  (∀ (s : State) (ok : Bool), ∃ t, exec (.slotWriteDone ok) s = .next t ∧
    (let slot := s.f F.LOG_NEXT_SLOT
     if s.on F.LOG_STATUS_WRITING = false then t = s
     else t.f F.LOG_NEXT_SLOT = (slot + 1) % 256 ∧
       (if ok = true then t.log.slots = (slot, s.log.staging) :: s.log.slots.filter fun x => decide (x.1 ≠ slot)
        else t.log.slots = (s.log.slots.filter fun x => decide (x.1 ≠ slot)) ∧
          (if 3 ≤ s.log.tries + 1 then t.on F.LOG_STATUS_FAIL = true
           else t.on F.LOG_STATUS_WRITING = true ∧ t.log.tries = s.log.tries + 1)))) ∧
  (∀ s : State, ∃ t, exec .eraseSectorDone s = .next t ∧
    match s.log.erase with
    | [] => t = s
    | e :: es => t.log.erase = es ∧ t.log.slots = (s.log.slots.filter fun x => decide (x.1 ≠ e)) ∧
        t.on F.LOG_STATUS_ERASING = (s.on F.LOG_STATUS_ERASING && !es.isEmpty)) ∧
  (∀ (s : State) (answers : Bool), ∃ t, exec (.logbookLoadDone answers) s = .next t ∧
    (if s.log.loading = false ∨ s.on F.CLK_STATUS_ACLK_OK = false then t = s
     else t.log.loading = false ∧ t.f F.LOG_STATUS_STATE = (if answers = true then 1 else 2) ∧ t.log.delta = List.replicate 8 0 ∧
       (s.on F.LOG_STATUS_WRITING = false → t.reg A.LOG_SEQ = 1 + (match (if answers = true then newestImage s.log.slots else none) with
         | some (_, m) => BitVec.ofNat 32 (Mem.readLE m 4 4)
         | none => 0)))) ∧
  (∀ (s : State) (age : BitVec 8), ∃ t, exec (.cursorWrite age) s = .next t ∧ t.f F.LOG_CURSOR_AGE = age.toNat ∧
    (if age = 0 then t.on F.LOG_STATUS_WIN_READY = true ∧ t.on F.LOG_STATUS_WIN_VALID = true ∧
       t.reg A.LOG_WIN_SEQ = s.reg A.LOG_SEQ
     else t.on F.LOG_STATUS_WIN_READY = false ∧ t.log.winSeq = some age.toNat)) ∧
  (∀ s : State, ∃ t, exec .windowCopyDone s = .next t ∧
    match s.log.winSeq with
    | none => t = s
    | some age => t.log.win = (s.imageAt age).getD [] ∧ t.log.winSeq = none ∧ t.on F.LOG_STATUS_WIN_READY = true ∧
        t.on F.LOG_STATUS_WIN_VALID = (s.imageAt age).isSome) ∧
  (∀ s : State, ∃ t, exec .logClear s = .next t ∧
    (if s.on F.LOG_STATUS_CLR_BUSY = true then t.f F.LOG_STATUS_CLR_RESULT = 8 ∧ t.on F.LOG_STATUS_CLR_BUSY = true ∧
       t.log.clear = s.log.clear
     else t.on F.LOG_STATUS_CLR_BUSY = true ∧ t.log.clear = some (Mem.readN s.log.cmd 0 4096, s.nonce))) ∧
  (∀ s : State, ∃ t, exec .clearCheckDone s = .next t ∧
    match s.log.clear with
    | none => t = s
    | some (c, n) => t.log.clear = none ∧ t.on F.LOG_STATUS_CLR_BUSY = false ∧ t.f F.LOG_STATUS_CLR_RESULT = s.clearResult c n ∧
        (s.clearResult c n ≠ 1 → t.log.live = s.log.live ∧ t.log.slots = s.log.slots))

/-- R415, R442: the SMBus target. -/
def Obligations.SmbusAnswers : Prop :=
  (∀ (s : State) (word : BitVec 16), ∃ t, exec (.smbusCursorSet word) s = .next t ∧ t.log.smbAge = bitsOf word.toNat 0 8 ∧
    t.log.smbOff = bitsOf word.toNat 8 7 ∧ t.regs = s.regs ∧ t.out = s.out ∧
    (bitsOf word.toNat 0 8 ≠ 0 → t.log.smbBuf = (s.imageAt (bitsOf word.toNat 0 8)).getD [])) ∧
  (∀ s : State, ∃ t, exec .smbusBlockRead s = .next t ∧ t.log.smbOff = (s.log.smbOff + 1) % 128 ∧ t.regs = s.regs ∧
    t.out = .bytes (Mem.readN (if s.log.smbAge = 0 then s.log.staging else s.log.smbBuf) (32 * s.log.smbOff) 32) :: s.out) ∧
  (∀ s : State, ∃ t, exec .seqLowRead s = .next t ∧ t.out = .readData ((s.reg A.LOG_SEQ).toNat % 65536) :: s.out ∧ t.regs = s.regs) ∧
  (∀ s : State, ∃ t, exec .seqHighRead s = .next t ∧ t.out = .readData ((s.reg A.LOG_SEQ).toNat / 65536) :: s.out ∧ t.regs = s.regs) ∧
  (∀ s : State, ∃ t, exec .identityRead s = .next t ∧ t.out = .bytes (bytesOf 4 (s.reg A.DEV_ID).toNat ++ bytesOf 4 (s.reg A.DEV_REV).toNat ++
      bytesOf 4 (s.reg A.DEV_SERIAL_LO).toNat ++ bytesOf 4 (s.reg A.DEV_SERIAL_HI).toNat) :: s.out ∧ t.regs = s.regs) ∧
  (∀ s : State, ∃ t, exec .temperatureRead s = .next t ∧ t.out = .readData (match s.log.hottestLast with
      | some c => (BitVec.ofInt 16 ((c : Int) - 1024)).toNat
      | none => 0x8000) :: s.out ∧ t.regs = s.regs) ∧
  (∀ s : State, ∃ t, exec .stateRead s = .next t ∧ t.out = .readData (s.f F.PWR_STATUS_STATE + 8 * bit (!s.pins.faultN) + 16 * s.f F.PWR_FOG_CAUSE_CAUSE +
      512 * bit (s.on F.PWR_THERM_HOT)) :: s.out ∧ t.regs = s.regs) ∧
  (∀ s : State, ∃ t, exec .causeRead s = .next t ∧ t.out = .readData ((s.reg A.RST_CAUSE).toNat % 65536) :: s.out ∧ t.regs = s.regs)

/-- R446 to R452: the life cycle; log entries 27 and 28. -/
def Obligations.LifeCycleCommandsAct : Prop :=
  (∀ (s : State) (how : Transit), ∃ t, exec (.provision how) s = .next t ∧
    (let c := s.lcsCmd
     if cmdByte c 4 ≠ 1 then t = s
     else if s.lcsCheck c ≠ 1 then t.f F.LCS_CMD_RESULT_RESULT = s.lcsCheck c ∧ t.f F.LCS_CMD_RESULT_OP = 1 ∧ t.lcs = s.lcs
     else match how with
      | .failed => t.f F.LCS_CMD_RESULT_RESULT = 9 ∧ t.f F.LCS_CMD_RESULT_OP = 1 ∧ t.lcs = s.lcs
      | .interrupted => t.lcs.otp.pend = 2 ∧ t.lcs.otp.bits = s.lcs.otp.bits ∧ t.on F.LCS_STATUS_CMD_BUSY = true
      | .done => t.lcs.otp.bits = s.lcs.otp.bits ||| 1 ∧ t.lcs.otp.pend = 0 ∧ t.on F.RST_CAUSE_LCS = true)) ∧
  (∀ (s : State) (how : Transit), ∃ t, exec (.secure how) s = .next t ∧
    (let c := s.lcsCmd
     if cmdByte c 4 ≠ 3 then t = s
     else if s.lcsCheck c ≠ 1 then t.f F.LCS_CMD_RESULT_RESULT = s.lcsCheck c ∧ t.f F.LCS_CMD_RESULT_OP = 3 ∧ t.lcs = s.lcs
     else match how with
      | .failed => t.f F.LCS_CMD_RESULT_RESULT = 9 ∧ t.f F.LCS_CMD_RESULT_OP = 3 ∧ t.lcs = s.lcs
      | .interrupted => t.lcs.otp.pend = 3 ∧ t.lcs.otp.bits = s.lcs.otp.bits ∧ t.on F.LCS_STATUS_CMD_BUSY = true
      | .done => t.lcs.otp.bits = s.lcs.otp.bits ||| 2 ∧ t.lcs.otp.pend = 0 ∧ t.on F.RST_CAUSE_LCS = true ∧ t.lcs.otp.seed = s.lcs.otp.seed ∧ t.lcs.otp.owner = s.lcs.otp.owner)) ∧
  (∀ (s : State) (how : Transit), ∃ t, exec (.returnLcs how) s = .next t ∧
    (let c := s.lcsCmd
     if cmdByte c 4 ≠ 5 then t = s
     else if s.lcsCheck c ≠ 1 then t.f F.LCS_CMD_RESULT_RESULT = s.lcsCheck c ∧ t.f F.LCS_CMD_RESULT_OP = 5 ∧ t.lcs = s.lcs
     else match how with
      | .failed => t.f F.LCS_CMD_RESULT_RESULT = 9 ∧ t.f F.LCS_CMD_RESULT_OP = 5 ∧ t.lcs = s.lcs
      | .interrupted => t.lcs.otp.pend = 4 ∧ t.lcs.otp.bits = s.lcs.otp.bits ∧ t.on F.LCS_STATUS_CMD_BUSY = true
      | .done => t.lcs.otp.bits = s.lcs.otp.bits ||| 4 ∧ t.lcs.otp.pend = 0 ∧ t.on F.RST_CAUSE_LCS = true ∧ t.lcs.otp.seed = BitVec.allOnes 256 ∧ t.lcs.otp.owner = ⟨BitVec.allOnes 256, BitVec.allOnes 256⟩)) ∧
  (∀ (s : State) (how : Transit), ∃ t, exec (.scrap how) s = .next t ∧
    (let c := s.lcsCmd
     if cmdByte c 4 ≠ 6 then t = s
     else if s.lcsCheck c ≠ 1 then t.f F.LCS_CMD_RESULT_RESULT = s.lcsCheck c ∧ t.f F.LCS_CMD_RESULT_OP = 6 ∧ t.lcs = s.lcs
     else match how with
      | .failed => t.f F.LCS_CMD_RESULT_RESULT = 9 ∧ t.f F.LCS_CMD_RESULT_OP = 6 ∧ t.lcs = s.lcs
      | .interrupted => t.lcs.otp.pend = 5 ∧ t.lcs.otp.bits = s.lcs.otp.bits ∧ t.on F.LCS_STATUS_CMD_BUSY = true
      | .done => t.lcs.otp.bits = s.lcs.otp.bits ||| 8 ∧ t.lcs.otp.pend = 0 ∧ t.on F.RST_CAUSE_LCS = true ∧ t.lcs.otp.seed = BitVec.allOnes 256 ∧ t.lcs.otp.owner = ⟨BitVec.allOnes 256, BitVec.allOnes 256⟩)) ∧
  (∀ (s : State) (ok : Bool), ∃ t, exec (.programSlot ok) s = .next t ∧
    (let c := s.lcsCmd
     if cmdByte c 4 ≠ 2 then t = s
     else if s.lcsCheck c ≠ 1 then t.f F.LCS_CMD_RESULT_RESULT = s.lcsCheck c ∧ t.f F.LCS_CMD_RESULT_OP = 2 ∧ t.lcs = s.lcs
     else t.f F.LCS_CMD_RESULT_RESULT = (if ok = true then 1 else 9) ∧ t.f F.LCS_CMD_RESULT_OP = 2 ∧
       t.lcs.otp.bits = s.lcs.otp.bits ∧ t.lcs.otp.pend = s.lcs.otp.pend ∧ (ok = true → t.lcs.otp.owner =
         (if cmdByte c 80 = 0 then { s.lcs.otp.owner with a := BitVec.ofNat 256 (fieldOf c 48 32) }
          else { s.lcs.otp.owner with b := BitVec.ofNat 256 (fieldOf c 48 32) })))) ∧
  (∀ (s : State) (ok : Bool), ∃ t, exec (.revokeSlot ok) s = .next t ∧
    (let c := s.lcsCmd
     if cmdByte c 4 ≠ 4 then t = s
     else if s.lcsCheck c ≠ 1 then t.f F.LCS_CMD_RESULT_RESULT = s.lcsCheck c ∧ t.f F.LCS_CMD_RESULT_OP = 4 ∧ t.lcs = s.lcs
     else t.f F.LCS_CMD_RESULT_RESULT = (if ok = true then 1 else 9) ∧ t.f F.LCS_CMD_RESULT_OP = 4 ∧
       t.lcs.otp.bits = s.lcs.otp.bits ∧ t.lcs.otp.pend = s.lcs.otp.pend ∧ (ok = true → t.lcs.otp.revoked = s.lcs.otp.revoked ||| BitVec.ofNat 2 (2 ^ cmdByte c 80)))) ∧
  (∀ (s : State) (ok : Bool), ∃ t, exec (.raiseSvn ok) s = .next t ∧
    (let c := s.lcsCmd
     if cmdByte c 4 ≠ 7 then t = s
     else if s.lcsCheck c ≠ 1 then t.f F.LCS_CMD_RESULT_RESULT = s.lcsCheck c ∧ t.f F.LCS_CMD_RESULT_OP = 7 ∧ t.lcs = s.lcs
     else t.f F.LCS_CMD_RESULT_RESULT = (if ok = true then 1 else 9) ∧ t.f F.LCS_CMD_RESULT_OP = 7 ∧
       t.lcs.otp.bits = s.lcs.otp.bits ∧ t.lcs.otp.pend = s.lcs.otp.pend ∧ (ok = true → t.lcs.otp.svn = fieldOf c 84 4)))

/-- R452 to R454, R460, R461: the life-cycle engine at work; log entries 4 and 25. -/
def Obligations.LifeCycleRuns : Prop :=
  (∀ s : State, ∃ t, exec .transitionResume s = .next t ∧
    (if s.lcs.otp.pend ≠ 0 ∧ s.did 2 = true ∧ s.did 5 = false then t.lcs.otp.pend = 0 ∧
       t.lcs.otp.bits = s.lcs.otp.bits ||| BitVec.ofNat 4 (2 ^ (s.lcs.otp.pend - 2)) ∧
       (4 ≤ s.lcs.otp.pend → t.lcs.otp.seed = BitVec.allOnes 256) else t = s)) ∧
  (∀ s : State, ∃ t, exec .trngFail s = .next t ∧
    (if s.on F.LCS_STATUS_TRNG_FAIL = true then t = s
     else t.on F.LCS_STATUS_TRNG_FAIL = true ∧ ∀ i, i < 8 → t.reg (A.LCS_NONCEi i) = 0 ∧ t.reg (A.LOG_NONCEi i) = 0)) ∧
  (∀ s : State, ∃ t, exec .idReady s = .next t ∧
    (if s.did 2 = true ∧ programmed s.lcs.otp.seed = true ∧ (s.lcs.otp.state = 1 ∨ s.lcs.otp.state = 2) then
       t.on F.LCS_STATUS_ID_READY = true ∧ OnlyReg s t F.LCS_STATUS_ID_READY.addr else t = s)) ∧
  (∀ s : State, ∃ t, exec .extend s = .next t ∧
    (let d := (List.range 8).flatMap fun i => bytesOf 4 (s.reg (A.LCS_EXT_DATAi i)).toNat
     if s.lcs.att.isSome = true then t.lcs.extends_ = s.lcs.extends_ ++ [d] ∧ t.regs = s.regs
     else (∀ i, i < 8 → t.reg (A.LCS_MEAS_m_i 3 i) = BitVec.ofNat 32 (fieldOf (sha3 (s.meas 3 ++ d)) (4 * i) 4)) ∧
       ∀ a, (a < A.LCS_MEAS_m_i 3 0 ∨ A.LCS_MEAS_m_i 3 8 ≤ a) → t.reg a = s.reg a)) ∧
  (∀ s : State, ∃ t, exec .attest s = .next t ∧
    (if s.lcs.att.isSome = true then t = s
     else if s.lcs.otp.grants [1, 2] = false ∨ s.on F.LCS_STATUS_ID_READY = false ∨ s.lcs.otp.pend ≠ 0 then
       t.f F.LCS_ATT_STATUS_RESULT = 2 ∧ t.lcs.report = [] ∧ t.lcs.att = none
     else t.on F.LCS_ATT_STATUS_BUSY = true ∧
       t.lcs.att = some ⟨(List.range 8).flatMap fun i => bytesOf 4 (s.reg (A.LCS_ATT_NONCEi i)).toNat,
         s.meas 0 ++ s.meas 1 ++ s.meas 2 ++ s.meas 3⟩)) ∧
  (∀ s : State, ∃ t, exec .reportBuilt s = .next t ∧
    match s.lcs.att with
    | none => t = s
    | some a => t.lcs.att = none ∧ t.lcs.extends_ = [] ∧ t.f F.LCS_ATT_STATUS_RESULT = 1 ∧ t.on F.LCS_ATT_STATUS_BUSY = false ∧
        t.lcs.report = Mem.writeN [] 0 (s.reportBody a ++
          padTo (Config.mldsaSign s.lcs.otp.seed (sha3 (s.reportBody a))) 2420))

/-- R462, R468: the TAP and fused repair. -/
def Obligations.TapAndRepairAct : Prop :=
  (∀ s : State, ∃ t, exec .bypass s = .next t ∧
    (if s.tapOk .bypass = true then t.bst.tap = .bypass ∧ t.regs = s.regs
     else t.bst.tap = .bypass ∧ t.on F.BST_STATUS_JTAG_BLOCKED = true)) ∧
  (∀ s : State, ∃ t, exec .samplePreload s = .next t ∧
    (if s.tapOk .samplePreload = true then t.bst.tap = .samplePreload ∧ t.regs = s.regs
     else t.bst.tap = .bypass ∧ t.on F.BST_STATUS_JTAG_BLOCKED = true)) ∧
  (∀ s : State, ∃ t, exec .extest s = .next t ∧
    (if s.tapOk .extest = true then t.bst.tap = .extest ∧ t.regs = s.regs
     else t.bst.tap = .bypass ∧ t.on F.BST_STATUS_JTAG_BLOCKED = true)) ∧
  (∀ s : State, ∃ t, exec .extestPulse s = .next t ∧
    (if s.tapOk .extestPulse = true then t.bst.tap = .extestPulse ∧ t.regs = s.regs
     else t.bst.tap = .bypass ∧ t.on F.BST_STATUS_JTAG_BLOCKED = true)) ∧
  (∀ s : State, ∃ t, exec .extestTrain s = .next t ∧
    (if s.tapOk .extestTrain = true then t.bst.tap = .extestTrain ∧ t.regs = s.regs
     else t.bst.tap = .bypass ∧ t.on F.BST_STATUS_JTAG_BLOCKED = true)) ∧
  (∀ s : State, ∃ t, exec .clamp s = .next t ∧
    (if s.tapOk .clamp = true then t.bst.tap = .clamp ∧ t.regs = s.regs
     else t.bst.tap = .bypass ∧ t.on F.BST_STATUS_JTAG_BLOCKED = true)) ∧
  (∀ s : State, ∃ t, exec .highz s = .next t ∧
    (if s.tapOk .highz = true then t.bst.tap = .highz ∧ t.regs = s.regs
     else t.bst.tap = .bypass ∧ t.on F.BST_STATUS_JTAG_BLOCKED = true)) ∧
  (∀ s : State, ∃ t, exec .intscan s = .next t ∧
    (if s.tapOk .intscan = true then t.bst.tap = .intscan ∧ t.regs = s.regs
     else t.bst.tap = .bypass ∧ t.on F.BST_STATUS_JTAG_BLOCKED = true)) ∧
  (∀ s : State, ∃ t, exec .idcode s = .next t ∧ t.bst.tap = .idcode ∧ t.regs = s.regs ∧
    t.out.head? = some (.readData (s.reg A.DEV_IDCODE).toNat)) ∧
  (∀ s : State, ∃ t, exec .repair s = .next t ∧
    (if s.tapOk .repair = false then t.bst.tap = .bypass ∧ t.on F.BST_STATUS_JTAG_BLOCKED = true
     else t.bst.tap = .repair ∧
     (if s.lcs.otp.grants [0, 1, 3] = false ∨ s.on F.BST_STATUS_BUSY = true ∨ s.bst.burn.isSome = true then
       t.f F.BST_REPAIR_REPAIR_RESULT = 2 ∧ t.bst.burn = s.bst.burn
     else t.bst.burn = some (.both) ∧ t.on F.BST_REPAIR_BURNING = true))) ∧
  (∀ (s : State) (data : Word), ∃ t, exec (.fuseSram data) s = .next t ∧
    (let v : Word := data ||| 1
     (if s.lcs.otp.grants [0, 1, 3] = false ∨ s.on F.BST_STATUS_BUSY = true ∨ s.bst.burn.isSome = true then
       t.f F.BST_REPAIR_REPAIR_RESULT = 2 ∧ t.bst.burn = s.bst.burn
     else t.bst.burn = some (if v.getLsbD 0 = true ∧ v.getLsbD 1 = true then .both else if v.getLsbD 0 = true then .sram else .tether) ∧ t.on F.BST_REPAIR_BURNING = true))) ∧
  (∀ (s : State) (data : Word), ∃ t, exec (.fuseTether data) s = .next t ∧
    (let v : Word := data ||| 2
     (if s.lcs.otp.grants [0, 1, 3] = false ∨ s.on F.BST_STATUS_BUSY = true ∨ s.bst.burn.isSome = true then
       t.f F.BST_REPAIR_REPAIR_RESULT = 2 ∧ t.bst.burn = s.bst.burn
     else t.bst.burn = some (if v.getLsbD 0 = true ∧ v.getLsbD 1 = true then .both else if v.getLsbD 0 = true then .sram else .tether) ∧ t.on F.BST_REPAIR_BURNING = true))) ∧
  (∀ (s : State) (ok : Bool), ∃ t, exec (.repairBurnDone ok) s = .next t ∧
    match s.bst.burn with
    | none => t = s
    | some b => t.bst.burn = none ∧ t.on F.BST_REPAIR_BURNING = false ∧ t.f F.BST_REPAIR_REPAIR_RESULT = (if ok = true then 1 else 3) ∧
        (ok = true → b ≠ .tether → t.f F.BST_SRAM_REPAIRS_SOFT = 0) ∧
        (ok = true → b ≠ .sram → t.bst.softTether = 0 ∧
          t.f F.TTH_RET_BAD_FUSE = (s.f F.TTH_RET_BAD_FUSE ||| s.bst.softTether / 2 ^ 40 % 8)))

/-- R464 to R467, R469 to R471: self-test. -/
def Obligations.SelfTestActs : Prop :=
  (∀ (s : State) (data : Word), ∃ t, exec (.bstGo data) s = .next t ∧
    (let v : Word := data ||| 0x100
     let tests := bitsOf v.toNat 0 5
     let u := if v.getLsbD 9 = true then (s.setF F.BST_RUN_TESTS tests).bstAbort else s.setF F.BST_RUN_TESTS tests
     if v.getLsbD 8 = false then t = u
     else if u.bstRefused tests = true then t.on F.BST_STATUS_REFUSED = true ∧ t.bst = u.bst
     else t.bst.todo = ((List.range 5).filter fun k => tests.testBit k) ∧
       (tests.testBit 3 = true ∨ tests.testBit 4 = true → t.on F.RST_CAUSE_BIST = true) ∧
       (tests.testBit 3 = false → tests.testBit 4 = false → tests ≠ 0 → t.on F.BST_STATUS_BUSY = true))) ∧
  (∀ (s : State) (data : Word), ∃ t, exec (.bstAbort data) s = .next t ∧
    (let v : Word := data ||| 0x200
     let tests := bitsOf v.toNat 0 5
     let u := if v.getLsbD 9 = true then (s.setF F.BST_RUN_TESTS tests).bstAbort else s.setF F.BST_RUN_TESTS tests
     if v.getLsbD 8 = false then t = u
     else if u.bstRefused tests = true then t.on F.BST_STATUS_REFUSED = true ∧ t.bst = u.bst
     else t.bst.todo = ((List.range 5).filter fun k => tests.testBit k) ∧
       (tests.testBit 3 = true ∨ tests.testBit 4 = true → t.on F.RST_CAUSE_BIST = true) ∧
       (tests.testBit 3 = false → tests.testBit 4 = false → tests ≠ 0 → t.on F.BST_STATUS_BUSY = true))) ∧
  (∀ (s : State) (k : Fin 5) (e : TestEnd), ∃ t, exec (.bstTestEnd k e) s = .next t ∧
    (if s.testRuns k = false then t = s
     else t.f (bstRes k) = testResult (Config.bstExpected k) e (s.testFails k e).2 ∧ t.reg (A.BST_t_COUNT k) = e.count ∧
       t.reg (A.BST_t_SIG k) = e.sig ∧ t.on (F.BST_t_STATE_DONE k) = e.done ∧ t.on (F.BST_t_STATE_SIG_OK k) = e.sigOk ∧
       t.bst.todo = s.bst.todo.filter (fun x => decide (x ≠ k.val)))) ∧
  (∀ s : State, ∃ t, exec .patrolSlice s = .next t ∧
    (if s.patrolOk = true ∧ s.on F.BST_PATROL_STATUS_RUNNING = false then t.on F.BST_PATROL_STATUS_RUNNING = true ∧
       t.f F.BST_PATROL_STATUS_SLICE = (s.f F.BST_PATROL_STATUS_SLICE + 1) % 768 ∧ OnlyReg s t F.BST_PATROL_STATUS_SLICE.addr
     else t = s)) ∧
  (∀ (s : State) (complete ok : Bool) (repairs : BitVec 16) (bad : Option (BitVec 26)),
    ∃ t, exec (.patrolSliceDone complete ok repairs bad) s = .next t ∧
    (if s.on F.BST_PATROL_STATUS_RUNNING = false then t = s
     else t.on F.BST_PATROL_STATUS_RUNNING = false ∧
       t.f (bstRes 5) = (if complete = false then 3 else if ok = true then 1 else 2) ∧
       t.f F.BST_PATROL_PASSES_COUNT = (if s.f F.BST_PATROL_STATUS_SLICE = 0 then (s.f F.BST_PATROL_PASSES_COUNT + 1) % 2 ^ 32
         else s.f F.BST_PATROL_PASSES_COUNT) ∧
       (complete = true → ok = false → t.f F.BST_PATROL_STATUS_FAILS = min (s.f F.BST_PATROL_STATUS_FAILS + 1) (2 ^ 16 - 1) ∧
         ∀ a, bad = some a → t.f F.BST_SRAM_FAIL_ADDR_OFFSET = a.toNat ∧ t.on F.BST_STATUS_SRAM_UNREP = true)))

/-- R119 to R122, R127 to R129, R133, R142: the timeline instructions. -/
def Obligations.TimelineInstructions : Prop :=
  (∀ (s : State) (c : Fin 17) (ga gb : Fin 16), CoreDoes s c (.tlAt c ga gb) fun t =>
    if isKeeper c = false then Illegal s t c
    else t.tl.queues = s.tl.queues ∧
      (fetchOk c (s.pcOf c + 8) = true ∨ ((s.cores[c]).trapOn = false ∧ fetchOk c (s.cores[c]).trapPc = true) →
        t.tl.held = some (s.g c gb ++ s.g c ga) ∧ t.on F.KPR_TL_STATUS_HELD = true ∧
        t.pair A.KPR_TL_HELD_LO = (s.g c gb ++ s.g c ga).toNat) ∧
      (fetchOk c (s.pcOf c + 8) = true → t.pcOf c = s.pcOf c + 8)) ∧
  (∀ (s : State) (c : Fin 17) (delta : BitVec 56), CoreDoes s c (.tlAtd c delta) fun t =>
    if isKeeper c = false then Illegal s t c
    else match s.tl.held with
      | none => Faults s t c (.tl 1) (s.pcOf c)
      | some old => t.tl.queues = s.tl.queues ∧
          (fetchOk c (s.pcOf c + 8) = true ∨ ((s.cores[c]).trapOn = false ∧ fetchOk c (s.cores[c]).trapPc = true) →
            t.tl.held = some (old + delta.setWidth 64) ∧ t.on F.KPR_TL_STATUS_HELD = true ∧
            t.pair A.KPR_TL_HELD_LO = (old + delta.setWidth 64).toNat) ∧
          (fetchOk c (s.pcOf c + 8) = true → t.pcOf c = s.pcOf c + 8)) ∧
  (∀ (s : State) (c : Fin 17) (unit : BitVec 4) (x : BitVec 20) (opnd : Word) (imm : Bool), CoreDoes s c (.tlSet c unit x opnd imm) fun t =>
    if isKeeper c = false then Illegal s t c
    else if imm = false ∧ s.tl.held = none then Faults s t c (.tl 1) (s.pcOf c)
    else if h : unit.toNat < 15 then
      (let u : Fin 15 := ⟨unit.toNat, h⟩
       let sel : Nat := x.toNat
       let held : Long := s.tl.held.getD 0
       if ¬ (scalarSel u.val sel = true) then Faults s t c (.tl 2) (s.pcOf c)
       else if imm = false ∧ held.toNat < s.pair (A.KPR_TLQ_u_LAST_LO u) then Faults s t c (.tl 3) (s.pcOf c)
         else if 256 ≤ counted s.tl.queues[u] then t.tl = s.tl ∧ t.on F.KPR_TL_STATUS_STALLED = true ∧
             t.f F.KPR_TL_STATUS_STALL_UNIT = u.val ∧ (t.cores[c]).stall = some (.timeline u.val sel opnd false imm) ∧
             t.pcOf c = s.pcOf c
           else (fetchOk c (s.pcOf c + 8) = true → t.pcOf c = s.pcOf c + 8) ∧
             (if imm = false ∧ held.toNat < s.tickNow.toNat + 64000 then
               (t.tl.queues[u]).length = (s.tl.queues[u]).length ∧ t.f (F.KPR_TLQ_u_ERRS_LATE u) = min (s.f (F.KPR_TLQ_u_ERRS_LATE u) + 1) (2 ^ (F.KPR_TLQ_u_ERRS_LATE u).width - 1)
              else t.tl.queues[u] = (let e := mkEntry u.val sel opnd none held imm s.time.samples
                 if imm = true then insertImm e s.tl.queues[u] else s.tl.queues[u] ++ [e]) ∧
               (imm = false → t.pair (A.KPR_TLQ_u_LAST_LO u) = held.toNat) ∧
               t.f (F.KPR_TLQ_u_ISSUED_ISSUED u) = (s.f (F.KPR_TLQ_u_ISSUED_ISSUED u) + 1) % 2 ^ 32 ∧ t.tl.loads = s.tl.loads))
    else Faults s t c (.tl 2) (s.pcOf c)) ∧
  (∀ (s : State) (c : Fin 17) (unit : BitVec 4) (x : BitVec 20) (ga : Fin 16) (imm : Bool), CoreDoes s c (.tlSetr c unit x ga imm) fun t =>
    if isKeeper c = false then Illegal s t c
    else if imm = false ∧ s.tl.held = none then Faults s t c (.tl 1) (s.pcOf c)
    else if h : unit.toNat < 15 then
      (let u : Fin 15 := ⟨unit.toNat, h⟩
       let sel : Nat := x.toNat
       let held : Long := s.tl.held.getD 0
       if ¬ (scalarSel u.val sel = true) then Faults s t c (.tl 2) (s.pcOf c)
       else if imm = false ∧ held.toNat < s.pair (A.KPR_TLQ_u_LAST_LO u) then Faults s t c (.tl 3) (s.pcOf c)
         else if 256 ≤ counted s.tl.queues[u] then t.tl = s.tl ∧ t.on F.KPR_TL_STATUS_STALLED = true ∧
             t.f F.KPR_TL_STATUS_STALL_UNIT = u.val ∧ (t.cores[c]).stall = some (.timeline u.val sel (s.g c ga) false imm) ∧
             t.pcOf c = s.pcOf c
           else (fetchOk c (s.pcOf c + 8) = true → t.pcOf c = s.pcOf c + 8) ∧
             (if imm = false ∧ held.toNat < s.tickNow.toNat + 64000 then
               (t.tl.queues[u]).length = (s.tl.queues[u]).length ∧ t.f (F.KPR_TLQ_u_ERRS_LATE u) = min (s.f (F.KPR_TLQ_u_ERRS_LATE u) + 1) (2 ^ (F.KPR_TLQ_u_ERRS_LATE u).width - 1)
              else t.tl.queues[u] = (let e := mkEntry u.val sel (s.g c ga) none held imm s.time.samples
                 if imm = true then insertImm e s.tl.queues[u] else s.tl.queues[u] ++ [e]) ∧
               (imm = false → t.pair (A.KPR_TLQ_u_LAST_LO u) = held.toNat) ∧
               t.f (F.KPR_TLQ_u_ISSUED_ISSUED u) = (s.f (F.KPR_TLQ_u_ISSUED_ISSUED u) + 1) % 2 ^ 32 ∧ t.tl.loads = s.tl.loads))
    else Faults s t c (.tl 2) (s.pcOf c)) ∧
  (∀ (s : State) (c : Fin 17) (unit : BitVec 4) (x : BitVec 20) (desc : Word) (imm : Bool), CoreDoes s c (.tlLoad c unit x desc imm) fun t =>
    if isKeeper c = false then Illegal s t c
    else if imm = false ∧ s.tl.held = none then Faults s t c (.tl 1) (s.pcOf c)
    else if h : unit.toNat < 15 then
      (let u : Fin 15 := ⟨unit.toNat, h⟩
       let sel : Nat := x.toNat
       let held : Long := s.tl.held.getD 0
       if ¬ (tableSize u.val sel ≠ 0) then Faults s t c (.tl 2) (s.pcOf c)
       else if imm = false ∧ held.toNat < s.pair (A.KPR_TLQ_u_LAST_LO u) then Faults s t c (.tl 3) (s.pcOf c)
         else match s.loadDesc desc.toNat with
          | none => Faults s t c (.tl 4) (s.pcOf c)
          | some (src, len) =>
            if 256 ≤ counted s.tl.queues[u] then t.tl = s.tl ∧ t.on F.KPR_TL_STATUS_STALLED = true ∧
             t.f F.KPR_TL_STATUS_STALL_UNIT = u.val ∧ (t.cores[c]).stall = some (.timeline u.val sel desc true imm) ∧
             t.pcOf c = s.pcOf c
           else (fetchOk c (s.pcOf c + 8) = true → t.pcOf c = s.pcOf c + 8) ∧
             (if imm = false ∧ held.toNat < s.tickNow.toNat + 64000 then
               (t.tl.queues[u]).length = (s.tl.queues[u]).length ∧ t.f (F.KPR_TLQ_u_ERRS_LATE u) = min (s.f (F.KPR_TLQ_u_ERRS_LATE u) + 1) (2 ^ (F.KPR_TLQ_u_ERRS_LATE u).width - 1)
              else t.tl.queues[u] = (let e := mkEntry u.val sel desc (some s.tl.nextLoad) held imm s.time.samples
                 if imm = true then insertImm e s.tl.queues[u] else s.tl.queues[u] ++ [e]) ∧
               (imm = false → t.pair (A.KPR_TLQ_u_LAST_LO u) = held.toNat) ∧
               t.f (F.KPR_TLQ_u_ISSUED_ISSUED u) = (s.f (F.KPR_TLQ_u_ISSUED_ISSUED u) + 1) % 2 ^ 32 ∧ t.tl.loads = s.tl.loads ++ [⟨s.tl.nextLoad, u.val, sel, src, len, false, []⟩]))
    else Faults s t c (.tl 2) (s.pcOf c))

/-- R128, R129, R135 to R138: the timeline queues. -/
def Obligations.TimelineQueuesAct : Prop :=
  (∀ s : State, ∃ t, exec .tlStallEnd s = .next t ∧
    match (s.cores[keeperNo]).stall with
    | some (.timeline unit sel opnd isLoad imm) =>
      if h : unit < 15 then
        (let u : Fin 15 := ⟨unit, h⟩
         if 256 ≤ counted s.tl.queues[u] then t = s
         else (t.cores[keeperNo]).stall = none ∧ t.on F.KPR_TL_STATUS_STALLED = false ∧
           (if isLoad = true ∧ s.loadDesc opnd.toNat = none then
              Faults s t keeperNo (.tl 4) (s.pcOf keeperNo) ∧ t.tl.queues = s.tl.queues ∧ t.tl.loads = s.tl.loads
            else if imm = false ∧ (s.tl.held.getD 0).toNat < s.tickNow.toNat + 64000 then
              (t.tl.queues[u]).length = (s.tl.queues[u]).length ∧ t.f (F.KPR_TLQ_u_ERRS_LATE u) = min (s.f (F.KPR_TLQ_u_ERRS_LATE u) + 1) (2 ^ (F.KPR_TLQ_u_ERRS_LATE u).width - 1)
            else (t.tl.queues[u]).length = (s.tl.queues[u]).length + 1 ∧
              (isLoad = false → t.tl.loads = s.tl.loads) ∧
              (∀ src len, isLoad = true → s.loadDesc opnd.toNat = some (src, len) →
                t.tl.loads = s.tl.loads ++ [⟨s.tl.nextLoad, u.val, sel, src, len, false, []⟩]) ∧
              (mkEntry u.val sel opnd (if isLoad = true then some s.tl.nextLoad else none) (s.tl.held.getD 0) imm s.time.samples) ∈
                t.tl.queues[u]))
      else t = s
    | _ => t = s) ∧
  (∀ s : State, ∃ t, exec .tlLoadCopyDone s = .next t ∧
    match nextCopy [] s.tl.loads with
    | none => t = s
    | some l => t.tl.loads = (s.tl.loads.map fun (x : TlLoad) =>
          if x.id = l.id then { x with done := true, shadow := s.engineBytes l.src l.len } else x) ∧
        (∀ u : Fin 15, ∀ e ∈ t.tl.queues[u], e.imm = true → e.table = some l.id → u.val = l.unit → e.from_ = s.time.samples) ∧
        t.f F.KPR_TL_LOADS_DONE = (s.f F.KPR_TL_LOADS_DONE + 1) % 2 ^ 16 ∧ OnlyReg s t F.KPR_TL_LOADS_DONE.addr) ∧
  (∀ (s : State) (units : BitVec 16), ∃ t, exec (.tlFlush units) s = .next t ∧ ∀ u : Fin 15,
    (if units.getLsbD u.val = true then t.tl.queues[u] = (s.tl.queues[u]).filter (fun e => decide (e.phase = .reported)) ∧
       (∀ l ∈ t.tl.loads, l.unit ≠ u.val) ∧
       t.f (F.KPR_TLQ_u_FLUSHED_FLUSHED u) = min (s.f (F.KPR_TLQ_u_FLUSHED_FLUSHED u) + counted ((s.tl.queues[u]).filter fun e => decide (e.phase ≠ .reported))) (2 ^ (F.KPR_TLQ_u_FLUSHED_FLUSHED u).width - 1)
     else t.tl.queues[u] = s.tl.queues[u]))

/-- R88, R455 to R460: image loads; log entries 3 and 4. -/
def Obligations.ImageLoads : Prop :=
  (∀ (s : State) (data : Word), ∃ t, exec (.loadGo data) s = .next t ∧ t.on F.LCS_LOAD_CTRL_SRC = data.getLsbD 1 ∧
    (if s.on F.LCS_LOAD_STATUS_BUSY = true ∨ s.pwrState = 4 then t.on F.LCS_LOAD_STATUS_LOAD_DROP = true ∧ t.lcs = s.lcs ∧
       t.cores = s.cores
     else t.on F.LCS_LOAD_STATUS_BUSY = true ∧ t.lcs.load = some ⟨data.getLsbD 1⟩ ∧ t.lcs.imageKey = none ∧
       t.on F.KPR_LOAD_STATUS_LOADED = false ∧ t.f F.KPR_STATUS_STATE = 0 ∧ t.reg A.BCN_STATE = 0 ∧ t.f F.LCS_SVN_IMAGE = 0)) ∧
  (∀ (s : State) (source : LoadData), ∃ t, exec (.imageLoadDone source) s = .next t ∧
    match s.lcs.load with
    | none => t = s
    | some l => t.lcs.load = none ∧ t.on F.LCS_LOAD_STATUS_BUSY = false ∧
      (let waits : Prop := t.lcs.hostWait = (!l.host && decide (s.f F.RST_STRAPS_BOOT_USED = 2))
       match source with
       | .absent => t.f F.LCS_LOAD_STATUS_RESULT = 2 ∧ waits
       | .found boot size c got =>
         (let p := s.containerOf l.host boot size c
          if p.2 = true ∨ containerBad p.1 = true then t.f F.LCS_LOAD_STATUS_RESULT = 3 ∧ waits
          else if got.isSome = true then t.f F.LCS_LOAD_STATUS_RESULT = 2 ∧ waits
          else t.f F.LCS_LOAD_STATUS_RESULT = s.loadCheck p.1 ∧
            (s.loadCheck p.1 = 1 → t.on F.KPR_LOAD_STATUS_LOADED = true ∧ t.lcs.imageKey = some (fieldOf p.1 12 1) ∧
              ∀ u : Fin 15, t.pair (A.KPR_TLQ_u_LAST_LO u) = t.pair A.KPR_LOAD_TICK_LO) ∧
            (5 ≤ s.loadCheck p.1 → t.pwrState = 4))))

/-- A step is the command at the front of the queue; what an empty queue does is the model's choice (log entry 1). -/
def Obligations.StepRunsFrontCommand : Prop :=
  (∀ (c : Instr) (cs : List Instr) (s : State), step { s with pending := c :: cs } = exec c { s with pending := cs }) ∧
  (∀ s : State, s.pending = [] → step s = .next s.idle) ∧
  (∀ (c : Instr) (s : State), ∃ t, exec c s = .next t) ∧ ∀ s : State, GoesOn s

/-- R35, R46, R58, R59, R421 and the reset columns of the register tables. -/
def Obligations.ResetLeaves : Prop :=
  (∀ p ∈ [(A.DEV_ID, 0x32021F9D), (A.DEV_REV, 0x211), (A.DEV_IDCODE, 0x132025A7), (A.DEV_CAPS, 0x13A1010),
     (A.DEV_SCRATCH, 0), (A.RST_CAUSE, 1), (A.PWR_STATUS, 0), (A.PWR_WAKE_CFG, 0x10000),
     (A.CLK_STATUS, 0x200), (A.CLK_SC_RDIV, 1), (A.CLK_SC_NINT, 0xA0), (A.CLK_SC_MDLL, 0x40),
     (A.CLK_SC_RATE_LO, 0x98D00000), (A.CLK_SC_RATE_HI, 0x71AFD4), (A.LMP_n_ATTEN 0, 0x1E), (A.LMP_n_ATTEN 1, 0x1E),
     (A.LMP_n_FT_THR0 0, 0x3FF), (A.CAL_SWAP_SCHED, 0x303D09), (A.CAL_n_STATUS 0, 0x200), (A.CAL_n_SCHED 1, 0x3D09),
     (A.TTH_STATUS, 0x30), (A.TTH_CTRL, 2), (A.FLT_n_THR_HIGH 0, 0xFFFFFFFF), (A.LNS_n_FFT_LOG2N 0, 0xA),
     (A.LNS_n_WINDOW 1, 1), (A.LNS_n_KAISER_BETA 0, 0x900), (A.LNS_n_BIN_FIRST 0, 0x1FE00), (A.LNS_n_BIN_LAST 0, 0x1FF),
     (A.SEC_PROG_CTRL0, 1), (A.SEC_HOLDOFF_LO, 0x1000), (A.SEC_POST_LO, 0x1000), (A.SEC_DEC_DELAY_LO, 0x130),
     (A.IVU_STOP_MASK, 0x10004), (A.IVU_STAT_N, 1), (A.GLW_GEOM_A, 0x20210), (A.GLW_INTEG, 0x100000),
     (A.KPR_TL_STATUS, 0), (A.BCN_AUTORESTART, 0xFFFF), (A.AMC_CFG, 0xA), (A.AMC_LTR, 0x82FFFF),
     (A.STR_s_CFG 63, 0xF00), (A.STR_s_RING 0, 0x1114), (A.STR_ANCHOR_STATUS, 0), (A.NVQ_q_TIMEOUT 15, 0x3E8),
     (A.PNL_CTRL, 6), (A.PNL_LINK, 0x2FA), (A.PNL_PANEL, 0x6400A00), (A.PNL_FRAME_US, 0x411B),
     (A.GGE_SCAN_MASK, 0xFFFFFFF), (A.GGE_SNAP_MINMAX, 0x20000FFF), (A.GGE_TEST_RESULT, 0xFFF), (A.GGE_i_LIMIT 31, 0xFFF0000),
     (A.LCS_STATUS, 0), (A.BST_PATROL_CTRL, 0xA1)],
     State.reset.reg p.1 = BitVec.ofNat 32 p.2) ∧
  State.reset.time.tick = 0 ∧ State.reset.pins.por = true ∧
  (∀ c : Fin 17, (State.reset.cores[c]).g = Vector.replicate 16 0 ∧ (State.reset.cores[c]).v = Vector.replicate 32 0 ∧
    (State.reset.cores[c]).acc = Vector.replicate 4 0 ∧ (State.reset.cores[c]).loops = [] ∧
    (State.reset.cores[c]).cst = BitVec.ofNat 32 (c.val * 256)) ∧
  (∀ x : Fin 64, State.reset.f (F.STR_s_STATUS_STATE x) = 0 ∧ (State.reset.streams[x]).formed = []) ∧
  (∀ u : Fin 15, State.reset.tl.queues[u] = [] ∧ State.reset.pair (A.KPR_TLQ_u_LAST_LO u) = 0) ∧
  State.reset.tl.held = none ∧ State.reset.pending = [] ∧ Canonical State.reset

/-- The canonical form of every memory (log entry 5) is kept by every step. -/
def Obligations.CanonicalFormsKept : Prop :=
  (∀ (i : Instr) (s t : State), exec i s = .next t → t.pending = s.pending ∧ (Canonical s → Canonical t)) ∧
  (∀ s t : State, step s = .next t → Canonical s → Canonical t)

/-- R446: bits are never unburned; R450 and R451: the version counter only rises; R214: fused marks cannot be cleared. -/
def Obligations.FusesNeverClear : Prop :=
  ∀ s t : State, step s = .next t →
    s.lcs.otp.bits &&& ~~~t.lcs.otp.bits = 0 ∧ s.lcs.otp.revoked &&& ~~~t.lcs.otp.revoked = 0 ∧ s.lcs.otp.svn ≤ t.lcs.otp.svn ∧
    (∀ l : Fin 34, (s.pair A.TTH_FWD_FUSE_LO).testBit l = true → (t.pair A.TTH_FWD_FUSE_LO).testBit l = true) ∧
    (∀ l : Fin 3, (s.f F.TTH_RET_BAD_FUSE).testBit l = true → (t.f F.TTH_RET_BAD_FUSE).testBit l = true) ∧
    s.lcs.otp.state ≤ t.lcs.otp.state

/-- The frame of the units: which commands may change which unit.  Where outputs held for their time and waiting resets act as
time passes (R40, R50), the clause is about a state with neither. -/
def Obligations.UnitsActAlone : Prop :=
  ∀ (i : Instr) (s t : State), resetting i = false → exec i s = .next t →
    (gaugeCommand i = false → t.gge = s.gge) ∧
    (nvmeCommand i = false → t.nvq = s.nvq) ∧
    (Quiet s → intervalCommand i = false → t.ivu = s.ivu) ∧
    (Quiet s → filterCommand i = false → t.flt = s.flt) ∧
    (glowCommand i = false → t.glw = s.glw) ∧
    (glowSetCommand i = false → t.glwSet = s.glwSet) ∧
    (lensCommand i = false → t.lns = s.lns) ∧
    (spectrumCommand i = false → t.specs = s.specs) ∧
    (captureCommand i = false → t.cap = s.cap) ∧
    (calCommand i = false → t.cal = s.cal) ∧
    (trimCommand i = false → t.trims = s.trims) ∧
    (dmaCommand i = false → t.dma = s.dma) ∧
    (Quiet s → sectorCommand i = false → t.sec = s.sec) ∧
    (pinCommand i = false → t.tower = s.tower) ∧
    (lampCommand i = false → t.lamp = s.lamp) ∧
    (clockCommand i = false → t.clk = s.clk) ∧
    (Quiet s → tetherCommand i = false → t.tth = s.tth) ∧
    (panelCommand i = false → t.pnl = s.pnl) ∧
    (memoryCommand i = false → t.amc = s.amc) ∧
    (Quiet s → dispatchCommand i = false → t.disp = s.disp) ∧
    (lifeCommand i = false → t.lcs = s.lcs) ∧
    (selfTestCommand i = false → t.bst = s.bst) ∧
    (storesAcquired i = false → t.amem = s.amem) ∧
    (i ≠ .transitionResume → t.lcs.otp = s.lcs.otp)

/-- R92, R93, R98, R105, R110, R115, R119: the words of the core instructions. -/
def Obligations.DecodeOfEncode : Prop :=
  (∀ (i : Instr) (e : CoreWord) (x : Word) (env : WriteEnv), encodeCore i = some e →
    (∀ c g p m o v, i = .st c g p m o v → v = env) → decodeCore e.core e.word (e.second.getD x) env = some i) ∧
  (∀ (i j : Instr) (e : CoreWord), encodeCore i = some e → encodeCore j = some e →
    (∀ c g p m o v, i ≠ .st c g p m o v) → (∀ c g p m o v, j ≠ .st c g p m o v) → i = j) ∧
  (∀ (i : Instr) (e : CoreWord), encodeCore i = some e → (e.second.isSome = true ↔ fieldAt e.word 30 2 = 3))

/-- R60: classes that a core does not have. -/
def Obligations.ClassesOfTheCores : Prop :=
  ∀ (s : State) (c : Fin 17) (w x : Word) (env : WriteEnv),
    ((isKeeper c = true ∧ (fieldAt w 30 2 = 1 ∨ (fieldAt w 30 2 = 2 ∧ 8 ≤ (fieldAt w 23 6).toNat))) ∨
     (isKeeper c = false ∧ fieldAt w 30 2 = 3)) →
    CoreDoes s c ((decodeCore c w x env).getD (.illegalInstruction c w x)) fun t => Illegal s t c

/-- R436, with R412 for the commit: the power warning. -/
def Obligations.PowerWarningCommits : Prop :=
  (∀ s : State, s.pins.pwrWarnN = true → ∃ t, exec .pwrWarnFall s = .next t ∧ t.pins.pwrWarnN = false ∧
    t.on F.PWR_STATUS_WARN = true ∧
    (s.f F.LOG_STATUS_STATE ≠ 0 → if s.on F.LOG_STATUS_WRITING = true then
        t.on F.LOG_STATUS_PENDING = true ∧ t.log.staging = s.log.staging ∧ t.reg A.LOG_SEQ = s.reg A.LOG_SEQ
      else t.reg A.LOG_SEQ = s.reg A.LOG_SEQ + 1 ∧
        t.log.staging = stagingOf s.log.live 1 (((s.reg A.LOG_SEQ).toNat + 1) % 2 ^ 32)) ∧
    (s.evtReset = false → t.on (evtPend 15) = true ∧ t.f (F.EVT_CNT_i_COUNT 15) = min (s.f (F.EVT_CNT_i_COUNT 15) + 1) 0xFFFF) ∧
    t.log.live = s.log.live ∧ t.log.slots = s.log.slots ∧
    (∀ a, a < 0x1000000 → a ≠ 0xD0E800 → a ≠ 0xD0E804 → a ≠ A.PWR_STATUS → t.reg a = s.reg a) ∧
    (∀ a, 0x1100000 ≤ a → a < 0x1300000 → t.reg a = s.reg a) ∧
    (∀ b : Fin 32, b.val ≠ F.PWR_STATUS_WARN.lo → (t.reg A.PWR_STATUS).getLsbD b = (s.reg A.PWR_STATUS).getLsbD b) ∧
    { t with regs := s.regs, log := s.log, evt := s.evt, out := s.out, pins := { t.pins with faultN := s.pins.faultN } } =
      { s with pins := { s.pins with pwrWarnN := false } }) ∧
  (∀ s : State, ∃ t, exec .pwrWarnRise s = .next t ∧ t.on F.PWR_STATUS_WARN = false)
end

