-- ==== Sys2Proof/Laws/Advance.lean ====
section
/-! SUPPORT. What time moving on does when nothing falls due on the way. -/

namespace Sys2Proof.Machine
open Sys2Proof

/-- Short of the wrap of the tick counter, counting changes the time state alone (R34, R56). -/
theorem State.count_eq (s : State) (n : Nat) (h : s.time.tick.toNat + n < 2 ^ 64) :
    s.count n = { s with time := s.time.pass s.kclkMHz s.tclkMHz n } := by
  unfold State.count
  exact if_pos h

/-- With no output held, running on is counting (R40). -/
theorem State.run_eq_count (s : State) (n : Nat) (h : s.held = []) : s.run n = s.count n := by
  simp [State.run, State.runBy, h]

/-- With no output held and no synchronising reset waiting, moving on is counting (R40, R50). -/
theorem State.advance_eq_count (s : State) (n : Nat) (hh : s.held = []) (hw : s.time.waiting = []) :
    s.advance n = s.count n := by
  simp [State.advance, State.advanceBy, hw, State.run_eq_count, hh]

/-- A count already passed changes nothing (log entry 6). -/
theorem State.advanceTo_passed (s : State) (t : Long) (h : t.toNat ≤ s.time.tick.toNat) : s.advanceTo t = s := by
  unfold State.advanceTo
  cases 2 * s.time.waiting.length <;> simp [State.advanceToBy, Nat.not_lt.mpr h]

/-- A sample count already reached changes nothing. -/
theorem State.advanceSamples_passed (s : State) (m : Nat) (h : m ≤ s.time.samples) : s.advanceSamples m = s := by
  simp [State.advanceSamples, Nat.not_lt.mpr h]

@[simp] theorem Time.pass_samples (t : Time) (k c n : Nat) : (t.pass k c n).samples = t.samples + n := rfl
@[simp] theorem Time.pass_tick (t : Time) (k c n : Nat) : (t.pass k c n).tick = t.tick + BitVec.ofNat 64 n := rfl
@[simp] theorem Time.pass_syncs (t : Time) (k c n : Nat) : (t.pass k c n).syncs = t.syncs := rfl
@[simp] theorem Time.pass_waiting (t : Time) (k c n : Nat) : (t.pass k c n).waiting = t.waiting := rfl

end Sys2Proof.Machine
end

