-- ==== Sys2Proof/Laws/State.lean ====
section
/-! SUPPORT. What each update of State leaves as it was, field by field. -/

set_option Elab.async false

namespace Sys2Proof.Machine
open Sys2Proof

/-! ### `setReg` changes `regs` alone -/

@[simp] theorem State.setReg_sram (s : State) (a : Nat) (v : Word) : (s.setReg a v).sram = s.sram := rfl
@[simp] theorem State.setReg_amem (s : State) (a : Nat) (v : Word) : (s.setReg a v).amem = s.amem := rfl
@[simp] theorem State.setReg_time (s : State) (a : Nat) (v : Word) : (s.setReg a v).time = s.time := rfl
@[simp] theorem State.setReg_good (s : State) (a : Nat) (v : Word) : (s.setReg a v).good = s.good := rfl
@[simp] theorem State.setReg_evt (s : State) (a : Nat) (v : Word) : (s.setReg a v).evt = s.evt := rfl
@[simp] theorem State.setReg_pins (s : State) (a : Nat) (v : Word) : (s.setReg a v).pins = s.pins := rfl
@[simp] theorem State.setReg_streams (s : State) (a : Nat) (v : Word) : (s.setReg a v).streams = s.streams := rfl
@[simp] theorem State.setReg_dma (s : State) (a : Nat) (v : Word) : (s.setReg a v).dma = s.dma := rfl
@[simp] theorem State.setReg_nvq (s : State) (a : Nat) (v : Word) : (s.setReg a v).nvq = s.nvq := rfl
@[simp] theorem State.setReg_cores (s : State) (a : Nat) (v : Word) : (s.setReg a v).cores = s.cores := rfl
@[simp] theorem State.setReg_keeper (s : State) (a : Nat) (v : Word) : (s.setReg a v).keeper = s.keeper := rfl
@[simp] theorem State.setReg_tl (s : State) (a : Nat) (v : Word) : (s.setReg a v).tl = s.tl := rfl
@[simp] theorem State.setReg_disp (s : State) (a : Nat) (v : Word) : (s.setReg a v).disp = s.disp := rfl
@[simp] theorem State.setReg_lamp (s : State) (a : Nat) (v : Word) : (s.setReg a v).lamp = s.lamp := rfl
@[simp] theorem State.setReg_tower (s : State) (a : Nat) (v : Word) : (s.setReg a v).tower = s.tower := rfl
@[simp] theorem State.setReg_clk (s : State) (a : Nat) (v : Word) : (s.setReg a v).clk = s.clk := rfl
@[simp] theorem State.setReg_tth (s : State) (a : Nat) (v : Word) : (s.setReg a v).tth = s.tth := rfl
@[simp] theorem State.setReg_cal (s : State) (a : Nat) (v : Word) : (s.setReg a v).cal = s.cal := rfl
@[simp] theorem State.setReg_trims (s : State) (a : Nat) (v : Word) : (s.setReg a v).trims = s.trims := rfl
@[simp] theorem State.setReg_flt (s : State) (a : Nat) (v : Word) : (s.setReg a v).flt = s.flt := rfl
@[simp] theorem State.setReg_lns (s : State) (a : Nat) (v : Word) : (s.setReg a v).lns = s.lns := rfl
@[simp] theorem State.setReg_specs (s : State) (a : Nat) (v : Word) : (s.setReg a v).specs = s.specs := rfl
@[simp] theorem State.setReg_sec (s : State) (a : Nat) (v : Word) : (s.setReg a v).sec = s.sec := rfl
@[simp] theorem State.setReg_ivu (s : State) (a : Nat) (v : Word) : (s.setReg a v).ivu = s.ivu := rfl
@[simp] theorem State.setReg_glwSet (s : State) (a : Nat) (v : Word) : (s.setReg a v).glwSet = s.glwSet := rfl
@[simp] theorem State.setReg_glw (s : State) (a : Nat) (v : Word) : (s.setReg a v).glw = s.glw := rfl
@[simp] theorem State.setReg_cap (s : State) (a : Nat) (v : Word) : (s.setReg a v).cap = s.cap := rfl
@[simp] theorem State.setReg_amc (s : State) (a : Nat) (v : Word) : (s.setReg a v).amc = s.amc := rfl
@[simp] theorem State.setReg_pnl (s : State) (a : Nat) (v : Word) : (s.setReg a v).pnl = s.pnl := rfl
@[simp] theorem State.setReg_gge (s : State) (a : Nat) (v : Word) : (s.setReg a v).gge = s.gge := rfl
@[simp] theorem State.setReg_log (s : State) (a : Nat) (v : Word) : (s.setReg a v).log = s.log := rfl
@[simp] theorem State.setReg_lcs (s : State) (a : Nat) (v : Word) : (s.setReg a v).lcs = s.lcs := rfl
@[simp] theorem State.setReg_bst (s : State) (a : Nat) (v : Word) : (s.setReg a v).bst = s.bst := rfl
@[simp] theorem State.setReg_rst (s : State) (a : Nat) (v : Word) : (s.setReg a v).rst = s.rst := rfl
@[simp] theorem State.setReg_free (s : State) (a : Nat) (v : Word) : (s.setReg a v).free = s.free := rfl
@[simp] theorem State.setReg_out (s : State) (a : Nat) (v : Word) : (s.setReg a v).out = s.out := rfl
@[simp] theorem State.setReg_pending (s : State) (a : Nat) (v : Word) : (s.setReg a v).pending = s.pending := rfl
@[simp] theorem State.setReg_held (s : State) (a : Nat) (v : Word) : (s.setReg a v).held = s.held := rfl

/-! ### `setF` changes `regs` alone -/

@[simp] theorem State.setF_sram (s : State) (x : Fld) (v : Nat) : (s.setF x v).sram = s.sram := rfl
@[simp] theorem State.setF_amem (s : State) (x : Fld) (v : Nat) : (s.setF x v).amem = s.amem := rfl
@[simp] theorem State.setF_time (s : State) (x : Fld) (v : Nat) : (s.setF x v).time = s.time := rfl
@[simp] theorem State.setF_good (s : State) (x : Fld) (v : Nat) : (s.setF x v).good = s.good := rfl
@[simp] theorem State.setF_evt (s : State) (x : Fld) (v : Nat) : (s.setF x v).evt = s.evt := rfl
@[simp] theorem State.setF_pins (s : State) (x : Fld) (v : Nat) : (s.setF x v).pins = s.pins := rfl
@[simp] theorem State.setF_streams (s : State) (x : Fld) (v : Nat) : (s.setF x v).streams = s.streams := rfl
@[simp] theorem State.setF_dma (s : State) (x : Fld) (v : Nat) : (s.setF x v).dma = s.dma := rfl
@[simp] theorem State.setF_nvq (s : State) (x : Fld) (v : Nat) : (s.setF x v).nvq = s.nvq := rfl
@[simp] theorem State.setF_cores (s : State) (x : Fld) (v : Nat) : (s.setF x v).cores = s.cores := rfl
@[simp] theorem State.setF_keeper (s : State) (x : Fld) (v : Nat) : (s.setF x v).keeper = s.keeper := rfl
@[simp] theorem State.setF_tl (s : State) (x : Fld) (v : Nat) : (s.setF x v).tl = s.tl := rfl
@[simp] theorem State.setF_disp (s : State) (x : Fld) (v : Nat) : (s.setF x v).disp = s.disp := rfl
@[simp] theorem State.setF_lamp (s : State) (x : Fld) (v : Nat) : (s.setF x v).lamp = s.lamp := rfl
@[simp] theorem State.setF_tower (s : State) (x : Fld) (v : Nat) : (s.setF x v).tower = s.tower := rfl
@[simp] theorem State.setF_clk (s : State) (x : Fld) (v : Nat) : (s.setF x v).clk = s.clk := rfl
@[simp] theorem State.setF_tth (s : State) (x : Fld) (v : Nat) : (s.setF x v).tth = s.tth := rfl
@[simp] theorem State.setF_cal (s : State) (x : Fld) (v : Nat) : (s.setF x v).cal = s.cal := rfl
@[simp] theorem State.setF_trims (s : State) (x : Fld) (v : Nat) : (s.setF x v).trims = s.trims := rfl
@[simp] theorem State.setF_flt (s : State) (x : Fld) (v : Nat) : (s.setF x v).flt = s.flt := rfl
@[simp] theorem State.setF_lns (s : State) (x : Fld) (v : Nat) : (s.setF x v).lns = s.lns := rfl
@[simp] theorem State.setF_specs (s : State) (x : Fld) (v : Nat) : (s.setF x v).specs = s.specs := rfl
@[simp] theorem State.setF_sec (s : State) (x : Fld) (v : Nat) : (s.setF x v).sec = s.sec := rfl
@[simp] theorem State.setF_ivu (s : State) (x : Fld) (v : Nat) : (s.setF x v).ivu = s.ivu := rfl
@[simp] theorem State.setF_glwSet (s : State) (x : Fld) (v : Nat) : (s.setF x v).glwSet = s.glwSet := rfl
@[simp] theorem State.setF_glw (s : State) (x : Fld) (v : Nat) : (s.setF x v).glw = s.glw := rfl
@[simp] theorem State.setF_cap (s : State) (x : Fld) (v : Nat) : (s.setF x v).cap = s.cap := rfl
@[simp] theorem State.setF_amc (s : State) (x : Fld) (v : Nat) : (s.setF x v).amc = s.amc := rfl
@[simp] theorem State.setF_pnl (s : State) (x : Fld) (v : Nat) : (s.setF x v).pnl = s.pnl := rfl
@[simp] theorem State.setF_gge (s : State) (x : Fld) (v : Nat) : (s.setF x v).gge = s.gge := rfl
@[simp] theorem State.setF_log (s : State) (x : Fld) (v : Nat) : (s.setF x v).log = s.log := rfl
@[simp] theorem State.setF_lcs (s : State) (x : Fld) (v : Nat) : (s.setF x v).lcs = s.lcs := rfl
@[simp] theorem State.setF_bst (s : State) (x : Fld) (v : Nat) : (s.setF x v).bst = s.bst := rfl
@[simp] theorem State.setF_rst (s : State) (x : Fld) (v : Nat) : (s.setF x v).rst = s.rst := rfl
@[simp] theorem State.setF_free (s : State) (x : Fld) (v : Nat) : (s.setF x v).free = s.free := rfl
@[simp] theorem State.setF_out (s : State) (x : Fld) (v : Nat) : (s.setF x v).out = s.out := rfl
@[simp] theorem State.setF_pending (s : State) (x : Fld) (v : Nat) : (s.setF x v).pending = s.pending := rfl
@[simp] theorem State.setF_held (s : State) (x : Fld) (v : Nat) : (s.setF x v).held = s.held := rfl

/-! ### `setB` changes `regs` alone -/

@[simp] theorem State.setB_sram (s : State) (x : Fld) (b : Bool) : (s.setB x b).sram = s.sram := rfl
@[simp] theorem State.setB_amem (s : State) (x : Fld) (b : Bool) : (s.setB x b).amem = s.amem := rfl
@[simp] theorem State.setB_time (s : State) (x : Fld) (b : Bool) : (s.setB x b).time = s.time := rfl
@[simp] theorem State.setB_good (s : State) (x : Fld) (b : Bool) : (s.setB x b).good = s.good := rfl
@[simp] theorem State.setB_evt (s : State) (x : Fld) (b : Bool) : (s.setB x b).evt = s.evt := rfl
@[simp] theorem State.setB_pins (s : State) (x : Fld) (b : Bool) : (s.setB x b).pins = s.pins := rfl
@[simp] theorem State.setB_streams (s : State) (x : Fld) (b : Bool) : (s.setB x b).streams = s.streams := rfl
@[simp] theorem State.setB_dma (s : State) (x : Fld) (b : Bool) : (s.setB x b).dma = s.dma := rfl
@[simp] theorem State.setB_nvq (s : State) (x : Fld) (b : Bool) : (s.setB x b).nvq = s.nvq := rfl
@[simp] theorem State.setB_cores (s : State) (x : Fld) (b : Bool) : (s.setB x b).cores = s.cores := rfl
@[simp] theorem State.setB_keeper (s : State) (x : Fld) (b : Bool) : (s.setB x b).keeper = s.keeper := rfl
@[simp] theorem State.setB_tl (s : State) (x : Fld) (b : Bool) : (s.setB x b).tl = s.tl := rfl
@[simp] theorem State.setB_disp (s : State) (x : Fld) (b : Bool) : (s.setB x b).disp = s.disp := rfl
@[simp] theorem State.setB_lamp (s : State) (x : Fld) (b : Bool) : (s.setB x b).lamp = s.lamp := rfl
@[simp] theorem State.setB_tower (s : State) (x : Fld) (b : Bool) : (s.setB x b).tower = s.tower := rfl
@[simp] theorem State.setB_clk (s : State) (x : Fld) (b : Bool) : (s.setB x b).clk = s.clk := rfl
@[simp] theorem State.setB_tth (s : State) (x : Fld) (b : Bool) : (s.setB x b).tth = s.tth := rfl
@[simp] theorem State.setB_cal (s : State) (x : Fld) (b : Bool) : (s.setB x b).cal = s.cal := rfl
@[simp] theorem State.setB_trims (s : State) (x : Fld) (b : Bool) : (s.setB x b).trims = s.trims := rfl
@[simp] theorem State.setB_flt (s : State) (x : Fld) (b : Bool) : (s.setB x b).flt = s.flt := rfl
@[simp] theorem State.setB_lns (s : State) (x : Fld) (b : Bool) : (s.setB x b).lns = s.lns := rfl
@[simp] theorem State.setB_specs (s : State) (x : Fld) (b : Bool) : (s.setB x b).specs = s.specs := rfl
@[simp] theorem State.setB_sec (s : State) (x : Fld) (b : Bool) : (s.setB x b).sec = s.sec := rfl
@[simp] theorem State.setB_ivu (s : State) (x : Fld) (b : Bool) : (s.setB x b).ivu = s.ivu := rfl
@[simp] theorem State.setB_glwSet (s : State) (x : Fld) (b : Bool) : (s.setB x b).glwSet = s.glwSet := rfl
@[simp] theorem State.setB_glw (s : State) (x : Fld) (b : Bool) : (s.setB x b).glw = s.glw := rfl
@[simp] theorem State.setB_cap (s : State) (x : Fld) (b : Bool) : (s.setB x b).cap = s.cap := rfl
@[simp] theorem State.setB_amc (s : State) (x : Fld) (b : Bool) : (s.setB x b).amc = s.amc := rfl
@[simp] theorem State.setB_pnl (s : State) (x : Fld) (b : Bool) : (s.setB x b).pnl = s.pnl := rfl
@[simp] theorem State.setB_gge (s : State) (x : Fld) (b : Bool) : (s.setB x b).gge = s.gge := rfl
@[simp] theorem State.setB_log (s : State) (x : Fld) (b : Bool) : (s.setB x b).log = s.log := rfl
@[simp] theorem State.setB_lcs (s : State) (x : Fld) (b : Bool) : (s.setB x b).lcs = s.lcs := rfl
@[simp] theorem State.setB_bst (s : State) (x : Fld) (b : Bool) : (s.setB x b).bst = s.bst := rfl
@[simp] theorem State.setB_rst (s : State) (x : Fld) (b : Bool) : (s.setB x b).rst = s.rst := rfl
@[simp] theorem State.setB_free (s : State) (x : Fld) (b : Bool) : (s.setB x b).free = s.free := rfl
@[simp] theorem State.setB_out (s : State) (x : Fld) (b : Bool) : (s.setB x b).out = s.out := rfl
@[simp] theorem State.setB_pending (s : State) (x : Fld) (b : Bool) : (s.setB x b).pending = s.pending := rfl
@[simp] theorem State.setB_held (s : State) (x : Fld) (b : Bool) : (s.setB x b).held = s.held := rfl

/-! ### `incWrap` changes `regs` alone -/

@[simp] theorem State.incWrap_sram (s : State) (x : Fld) (n : Nat) : (s.incWrap x n).sram = s.sram := rfl
@[simp] theorem State.incWrap_amem (s : State) (x : Fld) (n : Nat) : (s.incWrap x n).amem = s.amem := rfl
@[simp] theorem State.incWrap_time (s : State) (x : Fld) (n : Nat) : (s.incWrap x n).time = s.time := rfl
@[simp] theorem State.incWrap_good (s : State) (x : Fld) (n : Nat) : (s.incWrap x n).good = s.good := rfl
@[simp] theorem State.incWrap_evt (s : State) (x : Fld) (n : Nat) : (s.incWrap x n).evt = s.evt := rfl
@[simp] theorem State.incWrap_pins (s : State) (x : Fld) (n : Nat) : (s.incWrap x n).pins = s.pins := rfl
@[simp] theorem State.incWrap_streams (s : State) (x : Fld) (n : Nat) : (s.incWrap x n).streams = s.streams := rfl
@[simp] theorem State.incWrap_dma (s : State) (x : Fld) (n : Nat) : (s.incWrap x n).dma = s.dma := rfl
@[simp] theorem State.incWrap_nvq (s : State) (x : Fld) (n : Nat) : (s.incWrap x n).nvq = s.nvq := rfl
@[simp] theorem State.incWrap_cores (s : State) (x : Fld) (n : Nat) : (s.incWrap x n).cores = s.cores := rfl
@[simp] theorem State.incWrap_keeper (s : State) (x : Fld) (n : Nat) : (s.incWrap x n).keeper = s.keeper := rfl
@[simp] theorem State.incWrap_tl (s : State) (x : Fld) (n : Nat) : (s.incWrap x n).tl = s.tl := rfl
@[simp] theorem State.incWrap_disp (s : State) (x : Fld) (n : Nat) : (s.incWrap x n).disp = s.disp := rfl
@[simp] theorem State.incWrap_lamp (s : State) (x : Fld) (n : Nat) : (s.incWrap x n).lamp = s.lamp := rfl
@[simp] theorem State.incWrap_tower (s : State) (x : Fld) (n : Nat) : (s.incWrap x n).tower = s.tower := rfl
@[simp] theorem State.incWrap_clk (s : State) (x : Fld) (n : Nat) : (s.incWrap x n).clk = s.clk := rfl
@[simp] theorem State.incWrap_tth (s : State) (x : Fld) (n : Nat) : (s.incWrap x n).tth = s.tth := rfl
@[simp] theorem State.incWrap_cal (s : State) (x : Fld) (n : Nat) : (s.incWrap x n).cal = s.cal := rfl
@[simp] theorem State.incWrap_trims (s : State) (x : Fld) (n : Nat) : (s.incWrap x n).trims = s.trims := rfl
@[simp] theorem State.incWrap_flt (s : State) (x : Fld) (n : Nat) : (s.incWrap x n).flt = s.flt := rfl
@[simp] theorem State.incWrap_lns (s : State) (x : Fld) (n : Nat) : (s.incWrap x n).lns = s.lns := rfl
@[simp] theorem State.incWrap_specs (s : State) (x : Fld) (n : Nat) : (s.incWrap x n).specs = s.specs := rfl
@[simp] theorem State.incWrap_sec (s : State) (x : Fld) (n : Nat) : (s.incWrap x n).sec = s.sec := rfl
@[simp] theorem State.incWrap_ivu (s : State) (x : Fld) (n : Nat) : (s.incWrap x n).ivu = s.ivu := rfl
@[simp] theorem State.incWrap_glwSet (s : State) (x : Fld) (n : Nat) : (s.incWrap x n).glwSet = s.glwSet := rfl
@[simp] theorem State.incWrap_glw (s : State) (x : Fld) (n : Nat) : (s.incWrap x n).glw = s.glw := rfl
@[simp] theorem State.incWrap_cap (s : State) (x : Fld) (n : Nat) : (s.incWrap x n).cap = s.cap := rfl
@[simp] theorem State.incWrap_amc (s : State) (x : Fld) (n : Nat) : (s.incWrap x n).amc = s.amc := rfl
@[simp] theorem State.incWrap_pnl (s : State) (x : Fld) (n : Nat) : (s.incWrap x n).pnl = s.pnl := rfl
@[simp] theorem State.incWrap_gge (s : State) (x : Fld) (n : Nat) : (s.incWrap x n).gge = s.gge := rfl
@[simp] theorem State.incWrap_log (s : State) (x : Fld) (n : Nat) : (s.incWrap x n).log = s.log := rfl
@[simp] theorem State.incWrap_lcs (s : State) (x : Fld) (n : Nat) : (s.incWrap x n).lcs = s.lcs := rfl
@[simp] theorem State.incWrap_bst (s : State) (x : Fld) (n : Nat) : (s.incWrap x n).bst = s.bst := rfl
@[simp] theorem State.incWrap_rst (s : State) (x : Fld) (n : Nat) : (s.incWrap x n).rst = s.rst := rfl
@[simp] theorem State.incWrap_free (s : State) (x : Fld) (n : Nat) : (s.incWrap x n).free = s.free := rfl
@[simp] theorem State.incWrap_out (s : State) (x : Fld) (n : Nat) : (s.incWrap x n).out = s.out := rfl
@[simp] theorem State.incWrap_pending (s : State) (x : Fld) (n : Nat) : (s.incWrap x n).pending = s.pending := rfl
@[simp] theorem State.incWrap_held (s : State) (x : Fld) (n : Nat) : (s.incWrap x n).held = s.held := rfl

/-! ### `incSat` changes `regs` alone -/

@[simp] theorem State.incSat_sram (s : State) (x : Fld) (n : Nat) : (s.incSat x n).sram = s.sram := rfl
@[simp] theorem State.incSat_amem (s : State) (x : Fld) (n : Nat) : (s.incSat x n).amem = s.amem := rfl
@[simp] theorem State.incSat_time (s : State) (x : Fld) (n : Nat) : (s.incSat x n).time = s.time := rfl
@[simp] theorem State.incSat_good (s : State) (x : Fld) (n : Nat) : (s.incSat x n).good = s.good := rfl
@[simp] theorem State.incSat_evt (s : State) (x : Fld) (n : Nat) : (s.incSat x n).evt = s.evt := rfl
@[simp] theorem State.incSat_pins (s : State) (x : Fld) (n : Nat) : (s.incSat x n).pins = s.pins := rfl
@[simp] theorem State.incSat_streams (s : State) (x : Fld) (n : Nat) : (s.incSat x n).streams = s.streams := rfl
@[simp] theorem State.incSat_dma (s : State) (x : Fld) (n : Nat) : (s.incSat x n).dma = s.dma := rfl
@[simp] theorem State.incSat_nvq (s : State) (x : Fld) (n : Nat) : (s.incSat x n).nvq = s.nvq := rfl
@[simp] theorem State.incSat_cores (s : State) (x : Fld) (n : Nat) : (s.incSat x n).cores = s.cores := rfl
@[simp] theorem State.incSat_keeper (s : State) (x : Fld) (n : Nat) : (s.incSat x n).keeper = s.keeper := rfl
@[simp] theorem State.incSat_tl (s : State) (x : Fld) (n : Nat) : (s.incSat x n).tl = s.tl := rfl
@[simp] theorem State.incSat_disp (s : State) (x : Fld) (n : Nat) : (s.incSat x n).disp = s.disp := rfl
@[simp] theorem State.incSat_lamp (s : State) (x : Fld) (n : Nat) : (s.incSat x n).lamp = s.lamp := rfl
@[simp] theorem State.incSat_tower (s : State) (x : Fld) (n : Nat) : (s.incSat x n).tower = s.tower := rfl
@[simp] theorem State.incSat_clk (s : State) (x : Fld) (n : Nat) : (s.incSat x n).clk = s.clk := rfl
@[simp] theorem State.incSat_tth (s : State) (x : Fld) (n : Nat) : (s.incSat x n).tth = s.tth := rfl
@[simp] theorem State.incSat_cal (s : State) (x : Fld) (n : Nat) : (s.incSat x n).cal = s.cal := rfl
@[simp] theorem State.incSat_trims (s : State) (x : Fld) (n : Nat) : (s.incSat x n).trims = s.trims := rfl
@[simp] theorem State.incSat_flt (s : State) (x : Fld) (n : Nat) : (s.incSat x n).flt = s.flt := rfl
@[simp] theorem State.incSat_lns (s : State) (x : Fld) (n : Nat) : (s.incSat x n).lns = s.lns := rfl
@[simp] theorem State.incSat_specs (s : State) (x : Fld) (n : Nat) : (s.incSat x n).specs = s.specs := rfl
@[simp] theorem State.incSat_sec (s : State) (x : Fld) (n : Nat) : (s.incSat x n).sec = s.sec := rfl
@[simp] theorem State.incSat_ivu (s : State) (x : Fld) (n : Nat) : (s.incSat x n).ivu = s.ivu := rfl
@[simp] theorem State.incSat_glwSet (s : State) (x : Fld) (n : Nat) : (s.incSat x n).glwSet = s.glwSet := rfl
@[simp] theorem State.incSat_glw (s : State) (x : Fld) (n : Nat) : (s.incSat x n).glw = s.glw := rfl
@[simp] theorem State.incSat_cap (s : State) (x : Fld) (n : Nat) : (s.incSat x n).cap = s.cap := rfl
@[simp] theorem State.incSat_amc (s : State) (x : Fld) (n : Nat) : (s.incSat x n).amc = s.amc := rfl
@[simp] theorem State.incSat_pnl (s : State) (x : Fld) (n : Nat) : (s.incSat x n).pnl = s.pnl := rfl
@[simp] theorem State.incSat_gge (s : State) (x : Fld) (n : Nat) : (s.incSat x n).gge = s.gge := rfl
@[simp] theorem State.incSat_log (s : State) (x : Fld) (n : Nat) : (s.incSat x n).log = s.log := rfl
@[simp] theorem State.incSat_lcs (s : State) (x : Fld) (n : Nat) : (s.incSat x n).lcs = s.lcs := rfl
@[simp] theorem State.incSat_bst (s : State) (x : Fld) (n : Nat) : (s.incSat x n).bst = s.bst := rfl
@[simp] theorem State.incSat_rst (s : State) (x : Fld) (n : Nat) : (s.incSat x n).rst = s.rst := rfl
@[simp] theorem State.incSat_free (s : State) (x : Fld) (n : Nat) : (s.incSat x n).free = s.free := rfl
@[simp] theorem State.incSat_out (s : State) (x : Fld) (n : Nat) : (s.incSat x n).out = s.out := rfl
@[simp] theorem State.incSat_pending (s : State) (x : Fld) (n : Nat) : (s.incSat x n).pending = s.pending := rfl
@[simp] theorem State.incSat_held (s : State) (x : Fld) (n : Nat) : (s.incSat x n).held = s.held := rfl

/-! ### `setPair` changes `regs` alone -/

@[simp] theorem State.setPair_sram (s : State) (a v : Nat) : (s.setPair a v).sram = s.sram := rfl
@[simp] theorem State.setPair_amem (s : State) (a v : Nat) : (s.setPair a v).amem = s.amem := rfl
@[simp] theorem State.setPair_time (s : State) (a v : Nat) : (s.setPair a v).time = s.time := rfl
@[simp] theorem State.setPair_good (s : State) (a v : Nat) : (s.setPair a v).good = s.good := rfl
@[simp] theorem State.setPair_evt (s : State) (a v : Nat) : (s.setPair a v).evt = s.evt := rfl
@[simp] theorem State.setPair_pins (s : State) (a v : Nat) : (s.setPair a v).pins = s.pins := rfl
@[simp] theorem State.setPair_streams (s : State) (a v : Nat) : (s.setPair a v).streams = s.streams := rfl
@[simp] theorem State.setPair_dma (s : State) (a v : Nat) : (s.setPair a v).dma = s.dma := rfl
@[simp] theorem State.setPair_nvq (s : State) (a v : Nat) : (s.setPair a v).nvq = s.nvq := rfl
@[simp] theorem State.setPair_cores (s : State) (a v : Nat) : (s.setPair a v).cores = s.cores := rfl
@[simp] theorem State.setPair_keeper (s : State) (a v : Nat) : (s.setPair a v).keeper = s.keeper := rfl
@[simp] theorem State.setPair_tl (s : State) (a v : Nat) : (s.setPair a v).tl = s.tl := rfl
@[simp] theorem State.setPair_disp (s : State) (a v : Nat) : (s.setPair a v).disp = s.disp := rfl
@[simp] theorem State.setPair_lamp (s : State) (a v : Nat) : (s.setPair a v).lamp = s.lamp := rfl
@[simp] theorem State.setPair_tower (s : State) (a v : Nat) : (s.setPair a v).tower = s.tower := rfl
@[simp] theorem State.setPair_clk (s : State) (a v : Nat) : (s.setPair a v).clk = s.clk := rfl
@[simp] theorem State.setPair_tth (s : State) (a v : Nat) : (s.setPair a v).tth = s.tth := rfl
@[simp] theorem State.setPair_cal (s : State) (a v : Nat) : (s.setPair a v).cal = s.cal := rfl
@[simp] theorem State.setPair_trims (s : State) (a v : Nat) : (s.setPair a v).trims = s.trims := rfl
@[simp] theorem State.setPair_flt (s : State) (a v : Nat) : (s.setPair a v).flt = s.flt := rfl
@[simp] theorem State.setPair_lns (s : State) (a v : Nat) : (s.setPair a v).lns = s.lns := rfl
@[simp] theorem State.setPair_specs (s : State) (a v : Nat) : (s.setPair a v).specs = s.specs := rfl
@[simp] theorem State.setPair_sec (s : State) (a v : Nat) : (s.setPair a v).sec = s.sec := rfl
@[simp] theorem State.setPair_ivu (s : State) (a v : Nat) : (s.setPair a v).ivu = s.ivu := rfl
@[simp] theorem State.setPair_glwSet (s : State) (a v : Nat) : (s.setPair a v).glwSet = s.glwSet := rfl
@[simp] theorem State.setPair_glw (s : State) (a v : Nat) : (s.setPair a v).glw = s.glw := rfl
@[simp] theorem State.setPair_cap (s : State) (a v : Nat) : (s.setPair a v).cap = s.cap := rfl
@[simp] theorem State.setPair_amc (s : State) (a v : Nat) : (s.setPair a v).amc = s.amc := rfl
@[simp] theorem State.setPair_pnl (s : State) (a v : Nat) : (s.setPair a v).pnl = s.pnl := rfl
@[simp] theorem State.setPair_gge (s : State) (a v : Nat) : (s.setPair a v).gge = s.gge := rfl
@[simp] theorem State.setPair_log (s : State) (a v : Nat) : (s.setPair a v).log = s.log := rfl
@[simp] theorem State.setPair_lcs (s : State) (a v : Nat) : (s.setPair a v).lcs = s.lcs := rfl
@[simp] theorem State.setPair_bst (s : State) (a v : Nat) : (s.setPair a v).bst = s.bst := rfl
@[simp] theorem State.setPair_rst (s : State) (a v : Nat) : (s.setPair a v).rst = s.rst := rfl
@[simp] theorem State.setPair_free (s : State) (a v : Nat) : (s.setPair a v).free = s.free := rfl
@[simp] theorem State.setPair_out (s : State) (a v : Nat) : (s.setPair a v).out = s.out := rfl
@[simp] theorem State.setPair_pending (s : State) (a v : Nat) : (s.setPair a v).pending = s.pending := rfl
@[simp] theorem State.setPair_held (s : State) (a v : Nat) : (s.setPair a v).held = s.held := rfl

/-! ### `incPair` changes `regs` alone -/

@[simp] theorem State.incPair_sram (s : State) (a n : Nat) : (s.incPair a n).sram = s.sram := by rw [State.incPair, State.setPair_sram]
@[simp] theorem State.incPair_amem (s : State) (a n : Nat) : (s.incPair a n).amem = s.amem := by rw [State.incPair, State.setPair_amem]
@[simp] theorem State.incPair_time (s : State) (a n : Nat) : (s.incPair a n).time = s.time := by rw [State.incPair, State.setPair_time]
@[simp] theorem State.incPair_good (s : State) (a n : Nat) : (s.incPair a n).good = s.good := by rw [State.incPair, State.setPair_good]
@[simp] theorem State.incPair_evt (s : State) (a n : Nat) : (s.incPair a n).evt = s.evt := by rw [State.incPair, State.setPair_evt]
@[simp] theorem State.incPair_pins (s : State) (a n : Nat) : (s.incPair a n).pins = s.pins := by rw [State.incPair, State.setPair_pins]
@[simp] theorem State.incPair_streams (s : State) (a n : Nat) : (s.incPair a n).streams = s.streams := by rw [State.incPair, State.setPair_streams]
@[simp] theorem State.incPair_dma (s : State) (a n : Nat) : (s.incPair a n).dma = s.dma := by rw [State.incPair, State.setPair_dma]
@[simp] theorem State.incPair_nvq (s : State) (a n : Nat) : (s.incPair a n).nvq = s.nvq := by rw [State.incPair, State.setPair_nvq]
@[simp] theorem State.incPair_cores (s : State) (a n : Nat) : (s.incPair a n).cores = s.cores := by rw [State.incPair, State.setPair_cores]
@[simp] theorem State.incPair_keeper (s : State) (a n : Nat) : (s.incPair a n).keeper = s.keeper := by rw [State.incPair, State.setPair_keeper]
@[simp] theorem State.incPair_tl (s : State) (a n : Nat) : (s.incPair a n).tl = s.tl := by rw [State.incPair, State.setPair_tl]
@[simp] theorem State.incPair_disp (s : State) (a n : Nat) : (s.incPair a n).disp = s.disp := by rw [State.incPair, State.setPair_disp]
@[simp] theorem State.incPair_lamp (s : State) (a n : Nat) : (s.incPair a n).lamp = s.lamp := by rw [State.incPair, State.setPair_lamp]
@[simp] theorem State.incPair_tower (s : State) (a n : Nat) : (s.incPair a n).tower = s.tower := by rw [State.incPair, State.setPair_tower]
@[simp] theorem State.incPair_clk (s : State) (a n : Nat) : (s.incPair a n).clk = s.clk := by rw [State.incPair, State.setPair_clk]
@[simp] theorem State.incPair_tth (s : State) (a n : Nat) : (s.incPair a n).tth = s.tth := by rw [State.incPair, State.setPair_tth]
@[simp] theorem State.incPair_cal (s : State) (a n : Nat) : (s.incPair a n).cal = s.cal := by rw [State.incPair, State.setPair_cal]
@[simp] theorem State.incPair_trims (s : State) (a n : Nat) : (s.incPair a n).trims = s.trims := by rw [State.incPair, State.setPair_trims]
@[simp] theorem State.incPair_flt (s : State) (a n : Nat) : (s.incPair a n).flt = s.flt := by rw [State.incPair, State.setPair_flt]
@[simp] theorem State.incPair_lns (s : State) (a n : Nat) : (s.incPair a n).lns = s.lns := by rw [State.incPair, State.setPair_lns]
@[simp] theorem State.incPair_specs (s : State) (a n : Nat) : (s.incPair a n).specs = s.specs := by rw [State.incPair, State.setPair_specs]
@[simp] theorem State.incPair_sec (s : State) (a n : Nat) : (s.incPair a n).sec = s.sec := by rw [State.incPair, State.setPair_sec]
@[simp] theorem State.incPair_ivu (s : State) (a n : Nat) : (s.incPair a n).ivu = s.ivu := by rw [State.incPair, State.setPair_ivu]
@[simp] theorem State.incPair_glwSet (s : State) (a n : Nat) : (s.incPair a n).glwSet = s.glwSet := by rw [State.incPair, State.setPair_glwSet]
@[simp] theorem State.incPair_glw (s : State) (a n : Nat) : (s.incPair a n).glw = s.glw := by rw [State.incPair, State.setPair_glw]
@[simp] theorem State.incPair_cap (s : State) (a n : Nat) : (s.incPair a n).cap = s.cap := by rw [State.incPair, State.setPair_cap]
@[simp] theorem State.incPair_amc (s : State) (a n : Nat) : (s.incPair a n).amc = s.amc := by rw [State.incPair, State.setPair_amc]
@[simp] theorem State.incPair_pnl (s : State) (a n : Nat) : (s.incPair a n).pnl = s.pnl := by rw [State.incPair, State.setPair_pnl]
@[simp] theorem State.incPair_gge (s : State) (a n : Nat) : (s.incPair a n).gge = s.gge := by rw [State.incPair, State.setPair_gge]
@[simp] theorem State.incPair_log (s : State) (a n : Nat) : (s.incPair a n).log = s.log := by rw [State.incPair, State.setPair_log]
@[simp] theorem State.incPair_lcs (s : State) (a n : Nat) : (s.incPair a n).lcs = s.lcs := by rw [State.incPair, State.setPair_lcs]
@[simp] theorem State.incPair_bst (s : State) (a n : Nat) : (s.incPair a n).bst = s.bst := by rw [State.incPair, State.setPair_bst]
@[simp] theorem State.incPair_rst (s : State) (a n : Nat) : (s.incPair a n).rst = s.rst := by rw [State.incPair, State.setPair_rst]
@[simp] theorem State.incPair_free (s : State) (a n : Nat) : (s.incPair a n).free = s.free := by rw [State.incPair, State.setPair_free]
@[simp] theorem State.incPair_out (s : State) (a n : Nat) : (s.incPair a n).out = s.out := by rw [State.incPair, State.setPair_out]
@[simp] theorem State.incPair_pending (s : State) (a n : Nat) : (s.incPair a n).pending = s.pending := by rw [State.incPair, State.setPair_pending]
@[simp] theorem State.incPair_held (s : State) (a n : Nat) : (s.incPair a n).held = s.held := by rw [State.incPair, State.setPair_held]

/-! ### `resetRange` changes `regs` alone -/

@[simp] theorem State.resetRange_sram (s : State) (lo hi : Nat) : (s.resetRange lo hi).sram = s.sram := rfl
@[simp] theorem State.resetRange_amem (s : State) (lo hi : Nat) : (s.resetRange lo hi).amem = s.amem := rfl
@[simp] theorem State.resetRange_time (s : State) (lo hi : Nat) : (s.resetRange lo hi).time = s.time := rfl
@[simp] theorem State.resetRange_good (s : State) (lo hi : Nat) : (s.resetRange lo hi).good = s.good := rfl
@[simp] theorem State.resetRange_evt (s : State) (lo hi : Nat) : (s.resetRange lo hi).evt = s.evt := rfl
@[simp] theorem State.resetRange_pins (s : State) (lo hi : Nat) : (s.resetRange lo hi).pins = s.pins := rfl
@[simp] theorem State.resetRange_streams (s : State) (lo hi : Nat) : (s.resetRange lo hi).streams = s.streams := rfl
@[simp] theorem State.resetRange_dma (s : State) (lo hi : Nat) : (s.resetRange lo hi).dma = s.dma := rfl
@[simp] theorem State.resetRange_nvq (s : State) (lo hi : Nat) : (s.resetRange lo hi).nvq = s.nvq := rfl
@[simp] theorem State.resetRange_cores (s : State) (lo hi : Nat) : (s.resetRange lo hi).cores = s.cores := rfl
@[simp] theorem State.resetRange_keeper (s : State) (lo hi : Nat) : (s.resetRange lo hi).keeper = s.keeper := rfl
@[simp] theorem State.resetRange_tl (s : State) (lo hi : Nat) : (s.resetRange lo hi).tl = s.tl := rfl
@[simp] theorem State.resetRange_disp (s : State) (lo hi : Nat) : (s.resetRange lo hi).disp = s.disp := rfl
@[simp] theorem State.resetRange_lamp (s : State) (lo hi : Nat) : (s.resetRange lo hi).lamp = s.lamp := rfl
@[simp] theorem State.resetRange_tower (s : State) (lo hi : Nat) : (s.resetRange lo hi).tower = s.tower := rfl
@[simp] theorem State.resetRange_clk (s : State) (lo hi : Nat) : (s.resetRange lo hi).clk = s.clk := rfl
@[simp] theorem State.resetRange_tth (s : State) (lo hi : Nat) : (s.resetRange lo hi).tth = s.tth := rfl
@[simp] theorem State.resetRange_cal (s : State) (lo hi : Nat) : (s.resetRange lo hi).cal = s.cal := rfl
@[simp] theorem State.resetRange_trims (s : State) (lo hi : Nat) : (s.resetRange lo hi).trims = s.trims := rfl
@[simp] theorem State.resetRange_flt (s : State) (lo hi : Nat) : (s.resetRange lo hi).flt = s.flt := rfl
@[simp] theorem State.resetRange_lns (s : State) (lo hi : Nat) : (s.resetRange lo hi).lns = s.lns := rfl
@[simp] theorem State.resetRange_specs (s : State) (lo hi : Nat) : (s.resetRange lo hi).specs = s.specs := rfl
@[simp] theorem State.resetRange_sec (s : State) (lo hi : Nat) : (s.resetRange lo hi).sec = s.sec := rfl
@[simp] theorem State.resetRange_ivu (s : State) (lo hi : Nat) : (s.resetRange lo hi).ivu = s.ivu := rfl
@[simp] theorem State.resetRange_glwSet (s : State) (lo hi : Nat) : (s.resetRange lo hi).glwSet = s.glwSet := rfl
@[simp] theorem State.resetRange_glw (s : State) (lo hi : Nat) : (s.resetRange lo hi).glw = s.glw := rfl
@[simp] theorem State.resetRange_cap (s : State) (lo hi : Nat) : (s.resetRange lo hi).cap = s.cap := rfl
@[simp] theorem State.resetRange_amc (s : State) (lo hi : Nat) : (s.resetRange lo hi).amc = s.amc := rfl
@[simp] theorem State.resetRange_pnl (s : State) (lo hi : Nat) : (s.resetRange lo hi).pnl = s.pnl := rfl
@[simp] theorem State.resetRange_gge (s : State) (lo hi : Nat) : (s.resetRange lo hi).gge = s.gge := rfl
@[simp] theorem State.resetRange_log (s : State) (lo hi : Nat) : (s.resetRange lo hi).log = s.log := rfl
@[simp] theorem State.resetRange_lcs (s : State) (lo hi : Nat) : (s.resetRange lo hi).lcs = s.lcs := rfl
@[simp] theorem State.resetRange_bst (s : State) (lo hi : Nat) : (s.resetRange lo hi).bst = s.bst := rfl
@[simp] theorem State.resetRange_rst (s : State) (lo hi : Nat) : (s.resetRange lo hi).rst = s.rst := rfl
@[simp] theorem State.resetRange_free (s : State) (lo hi : Nat) : (s.resetRange lo hi).free = s.free := rfl
@[simp] theorem State.resetRange_out (s : State) (lo hi : Nat) : (s.resetRange lo hi).out = s.out := rfl
@[simp] theorem State.resetRange_pending (s : State) (lo hi : Nat) : (s.resetRange lo hi).pending = s.pending := rfl
@[simp] theorem State.resetRange_held (s : State) (lo hi : Nat) : (s.resetRange lo hi).held = s.held := rfl

/-! ### `emit` changes `out` alone -/

@[simp] theorem State.emit_regs (s : State) (o : Out) : (s.emit o).regs = s.regs := rfl
@[simp] theorem State.emit_sram (s : State) (o : Out) : (s.emit o).sram = s.sram := rfl
@[simp] theorem State.emit_amem (s : State) (o : Out) : (s.emit o).amem = s.amem := rfl
@[simp] theorem State.emit_time (s : State) (o : Out) : (s.emit o).time = s.time := rfl
@[simp] theorem State.emit_good (s : State) (o : Out) : (s.emit o).good = s.good := rfl
@[simp] theorem State.emit_evt (s : State) (o : Out) : (s.emit o).evt = s.evt := rfl
@[simp] theorem State.emit_pins (s : State) (o : Out) : (s.emit o).pins = s.pins := rfl
@[simp] theorem State.emit_streams (s : State) (o : Out) : (s.emit o).streams = s.streams := rfl
@[simp] theorem State.emit_dma (s : State) (o : Out) : (s.emit o).dma = s.dma := rfl
@[simp] theorem State.emit_nvq (s : State) (o : Out) : (s.emit o).nvq = s.nvq := rfl
@[simp] theorem State.emit_cores (s : State) (o : Out) : (s.emit o).cores = s.cores := rfl
@[simp] theorem State.emit_keeper (s : State) (o : Out) : (s.emit o).keeper = s.keeper := rfl
@[simp] theorem State.emit_tl (s : State) (o : Out) : (s.emit o).tl = s.tl := rfl
@[simp] theorem State.emit_disp (s : State) (o : Out) : (s.emit o).disp = s.disp := rfl
@[simp] theorem State.emit_lamp (s : State) (o : Out) : (s.emit o).lamp = s.lamp := rfl
@[simp] theorem State.emit_tower (s : State) (o : Out) : (s.emit o).tower = s.tower := rfl
@[simp] theorem State.emit_clk (s : State) (o : Out) : (s.emit o).clk = s.clk := rfl
@[simp] theorem State.emit_tth (s : State) (o : Out) : (s.emit o).tth = s.tth := rfl
@[simp] theorem State.emit_cal (s : State) (o : Out) : (s.emit o).cal = s.cal := rfl
@[simp] theorem State.emit_trims (s : State) (o : Out) : (s.emit o).trims = s.trims := rfl
@[simp] theorem State.emit_flt (s : State) (o : Out) : (s.emit o).flt = s.flt := rfl
@[simp] theorem State.emit_lns (s : State) (o : Out) : (s.emit o).lns = s.lns := rfl
@[simp] theorem State.emit_specs (s : State) (o : Out) : (s.emit o).specs = s.specs := rfl
@[simp] theorem State.emit_sec (s : State) (o : Out) : (s.emit o).sec = s.sec := rfl
@[simp] theorem State.emit_ivu (s : State) (o : Out) : (s.emit o).ivu = s.ivu := rfl
@[simp] theorem State.emit_glwSet (s : State) (o : Out) : (s.emit o).glwSet = s.glwSet := rfl
@[simp] theorem State.emit_glw (s : State) (o : Out) : (s.emit o).glw = s.glw := rfl
@[simp] theorem State.emit_cap (s : State) (o : Out) : (s.emit o).cap = s.cap := rfl
@[simp] theorem State.emit_amc (s : State) (o : Out) : (s.emit o).amc = s.amc := rfl
@[simp] theorem State.emit_pnl (s : State) (o : Out) : (s.emit o).pnl = s.pnl := rfl
@[simp] theorem State.emit_gge (s : State) (o : Out) : (s.emit o).gge = s.gge := rfl
@[simp] theorem State.emit_log (s : State) (o : Out) : (s.emit o).log = s.log := rfl
@[simp] theorem State.emit_lcs (s : State) (o : Out) : (s.emit o).lcs = s.lcs := rfl
@[simp] theorem State.emit_bst (s : State) (o : Out) : (s.emit o).bst = s.bst := rfl
@[simp] theorem State.emit_rst (s : State) (o : Out) : (s.emit o).rst = s.rst := rfl
@[simp] theorem State.emit_free (s : State) (o : Out) : (s.emit o).free = s.free := rfl
@[simp] theorem State.emit_pending (s : State) (o : Out) : (s.emit o).pending = s.pending := rfl
@[simp] theorem State.emit_held (s : State) (o : Out) : (s.emit o).held = s.held := rfl

/-! ### `modStream` changes `streams` alone -/

@[simp] theorem State.modStream_regs (s : State) (k : Fin 64) (g : Stream → Stream) : (s.modStream k g).regs = s.regs := rfl
@[simp] theorem State.modStream_sram (s : State) (k : Fin 64) (g : Stream → Stream) : (s.modStream k g).sram = s.sram := rfl
@[simp] theorem State.modStream_amem (s : State) (k : Fin 64) (g : Stream → Stream) : (s.modStream k g).amem = s.amem := rfl
@[simp] theorem State.modStream_time (s : State) (k : Fin 64) (g : Stream → Stream) : (s.modStream k g).time = s.time := rfl
@[simp] theorem State.modStream_good (s : State) (k : Fin 64) (g : Stream → Stream) : (s.modStream k g).good = s.good := rfl
@[simp] theorem State.modStream_evt (s : State) (k : Fin 64) (g : Stream → Stream) : (s.modStream k g).evt = s.evt := rfl
@[simp] theorem State.modStream_pins (s : State) (k : Fin 64) (g : Stream → Stream) : (s.modStream k g).pins = s.pins := rfl
@[simp] theorem State.modStream_dma (s : State) (k : Fin 64) (g : Stream → Stream) : (s.modStream k g).dma = s.dma := rfl
@[simp] theorem State.modStream_nvq (s : State) (k : Fin 64) (g : Stream → Stream) : (s.modStream k g).nvq = s.nvq := rfl
@[simp] theorem State.modStream_cores (s : State) (k : Fin 64) (g : Stream → Stream) : (s.modStream k g).cores = s.cores := rfl
@[simp] theorem State.modStream_keeper (s : State) (k : Fin 64) (g : Stream → Stream) : (s.modStream k g).keeper = s.keeper := rfl
@[simp] theorem State.modStream_tl (s : State) (k : Fin 64) (g : Stream → Stream) : (s.modStream k g).tl = s.tl := rfl
@[simp] theorem State.modStream_disp (s : State) (k : Fin 64) (g : Stream → Stream) : (s.modStream k g).disp = s.disp := rfl
@[simp] theorem State.modStream_lamp (s : State) (k : Fin 64) (g : Stream → Stream) : (s.modStream k g).lamp = s.lamp := rfl
@[simp] theorem State.modStream_tower (s : State) (k : Fin 64) (g : Stream → Stream) : (s.modStream k g).tower = s.tower := rfl
@[simp] theorem State.modStream_clk (s : State) (k : Fin 64) (g : Stream → Stream) : (s.modStream k g).clk = s.clk := rfl
@[simp] theorem State.modStream_tth (s : State) (k : Fin 64) (g : Stream → Stream) : (s.modStream k g).tth = s.tth := rfl
@[simp] theorem State.modStream_cal (s : State) (k : Fin 64) (g : Stream → Stream) : (s.modStream k g).cal = s.cal := rfl
@[simp] theorem State.modStream_trims (s : State) (k : Fin 64) (g : Stream → Stream) : (s.modStream k g).trims = s.trims := rfl
@[simp] theorem State.modStream_flt (s : State) (k : Fin 64) (g : Stream → Stream) : (s.modStream k g).flt = s.flt := rfl
@[simp] theorem State.modStream_lns (s : State) (k : Fin 64) (g : Stream → Stream) : (s.modStream k g).lns = s.lns := rfl
@[simp] theorem State.modStream_specs (s : State) (k : Fin 64) (g : Stream → Stream) : (s.modStream k g).specs = s.specs := rfl
@[simp] theorem State.modStream_sec (s : State) (k : Fin 64) (g : Stream → Stream) : (s.modStream k g).sec = s.sec := rfl
@[simp] theorem State.modStream_ivu (s : State) (k : Fin 64) (g : Stream → Stream) : (s.modStream k g).ivu = s.ivu := rfl
@[simp] theorem State.modStream_glwSet (s : State) (k : Fin 64) (g : Stream → Stream) : (s.modStream k g).glwSet = s.glwSet := rfl
@[simp] theorem State.modStream_glw (s : State) (k : Fin 64) (g : Stream → Stream) : (s.modStream k g).glw = s.glw := rfl
@[simp] theorem State.modStream_cap (s : State) (k : Fin 64) (g : Stream → Stream) : (s.modStream k g).cap = s.cap := rfl
@[simp] theorem State.modStream_amc (s : State) (k : Fin 64) (g : Stream → Stream) : (s.modStream k g).amc = s.amc := rfl
@[simp] theorem State.modStream_pnl (s : State) (k : Fin 64) (g : Stream → Stream) : (s.modStream k g).pnl = s.pnl := rfl
@[simp] theorem State.modStream_gge (s : State) (k : Fin 64) (g : Stream → Stream) : (s.modStream k g).gge = s.gge := rfl
@[simp] theorem State.modStream_log (s : State) (k : Fin 64) (g : Stream → Stream) : (s.modStream k g).log = s.log := rfl
@[simp] theorem State.modStream_lcs (s : State) (k : Fin 64) (g : Stream → Stream) : (s.modStream k g).lcs = s.lcs := rfl
@[simp] theorem State.modStream_bst (s : State) (k : Fin 64) (g : Stream → Stream) : (s.modStream k g).bst = s.bst := rfl
@[simp] theorem State.modStream_rst (s : State) (k : Fin 64) (g : Stream → Stream) : (s.modStream k g).rst = s.rst := rfl
@[simp] theorem State.modStream_free (s : State) (k : Fin 64) (g : Stream → Stream) : (s.modStream k g).free = s.free := rfl
@[simp] theorem State.modStream_out (s : State) (k : Fin 64) (g : Stream → Stream) : (s.modStream k g).out = s.out := rfl
@[simp] theorem State.modStream_pending (s : State) (k : Fin 64) (g : Stream → Stream) : (s.modStream k g).pending = s.pending := rfl
@[simp] theorem State.modStream_held (s : State) (k : Fin 64) (g : Stream → Stream) : (s.modStream k g).held = s.held := rfl

/-! ### `modLamp` changes `lamp` alone -/

@[simp] theorem State.modLamp_regs (s : State) (c : Fin 2) (g : Lamp → Lamp) : (s.modLamp c g).regs = s.regs := rfl
@[simp] theorem State.modLamp_sram (s : State) (c : Fin 2) (g : Lamp → Lamp) : (s.modLamp c g).sram = s.sram := rfl
@[simp] theorem State.modLamp_amem (s : State) (c : Fin 2) (g : Lamp → Lamp) : (s.modLamp c g).amem = s.amem := rfl
@[simp] theorem State.modLamp_time (s : State) (c : Fin 2) (g : Lamp → Lamp) : (s.modLamp c g).time = s.time := rfl
@[simp] theorem State.modLamp_good (s : State) (c : Fin 2) (g : Lamp → Lamp) : (s.modLamp c g).good = s.good := rfl
@[simp] theorem State.modLamp_evt (s : State) (c : Fin 2) (g : Lamp → Lamp) : (s.modLamp c g).evt = s.evt := rfl
@[simp] theorem State.modLamp_pins (s : State) (c : Fin 2) (g : Lamp → Lamp) : (s.modLamp c g).pins = s.pins := rfl
@[simp] theorem State.modLamp_streams (s : State) (c : Fin 2) (g : Lamp → Lamp) : (s.modLamp c g).streams = s.streams := rfl
@[simp] theorem State.modLamp_dma (s : State) (c : Fin 2) (g : Lamp → Lamp) : (s.modLamp c g).dma = s.dma := rfl
@[simp] theorem State.modLamp_nvq (s : State) (c : Fin 2) (g : Lamp → Lamp) : (s.modLamp c g).nvq = s.nvq := rfl
@[simp] theorem State.modLamp_cores (s : State) (c : Fin 2) (g : Lamp → Lamp) : (s.modLamp c g).cores = s.cores := rfl
@[simp] theorem State.modLamp_keeper (s : State) (c : Fin 2) (g : Lamp → Lamp) : (s.modLamp c g).keeper = s.keeper := rfl
@[simp] theorem State.modLamp_tl (s : State) (c : Fin 2) (g : Lamp → Lamp) : (s.modLamp c g).tl = s.tl := rfl
@[simp] theorem State.modLamp_disp (s : State) (c : Fin 2) (g : Lamp → Lamp) : (s.modLamp c g).disp = s.disp := rfl
@[simp] theorem State.modLamp_tower (s : State) (c : Fin 2) (g : Lamp → Lamp) : (s.modLamp c g).tower = s.tower := rfl
@[simp] theorem State.modLamp_clk (s : State) (c : Fin 2) (g : Lamp → Lamp) : (s.modLamp c g).clk = s.clk := rfl
@[simp] theorem State.modLamp_tth (s : State) (c : Fin 2) (g : Lamp → Lamp) : (s.modLamp c g).tth = s.tth := rfl
@[simp] theorem State.modLamp_cal (s : State) (c : Fin 2) (g : Lamp → Lamp) : (s.modLamp c g).cal = s.cal := rfl
@[simp] theorem State.modLamp_trims (s : State) (c : Fin 2) (g : Lamp → Lamp) : (s.modLamp c g).trims = s.trims := rfl
@[simp] theorem State.modLamp_flt (s : State) (c : Fin 2) (g : Lamp → Lamp) : (s.modLamp c g).flt = s.flt := rfl
@[simp] theorem State.modLamp_lns (s : State) (c : Fin 2) (g : Lamp → Lamp) : (s.modLamp c g).lns = s.lns := rfl
@[simp] theorem State.modLamp_specs (s : State) (c : Fin 2) (g : Lamp → Lamp) : (s.modLamp c g).specs = s.specs := rfl
@[simp] theorem State.modLamp_sec (s : State) (c : Fin 2) (g : Lamp → Lamp) : (s.modLamp c g).sec = s.sec := rfl
@[simp] theorem State.modLamp_ivu (s : State) (c : Fin 2) (g : Lamp → Lamp) : (s.modLamp c g).ivu = s.ivu := rfl
@[simp] theorem State.modLamp_glwSet (s : State) (c : Fin 2) (g : Lamp → Lamp) : (s.modLamp c g).glwSet = s.glwSet := rfl
@[simp] theorem State.modLamp_glw (s : State) (c : Fin 2) (g : Lamp → Lamp) : (s.modLamp c g).glw = s.glw := rfl
@[simp] theorem State.modLamp_cap (s : State) (c : Fin 2) (g : Lamp → Lamp) : (s.modLamp c g).cap = s.cap := rfl
@[simp] theorem State.modLamp_amc (s : State) (c : Fin 2) (g : Lamp → Lamp) : (s.modLamp c g).amc = s.amc := rfl
@[simp] theorem State.modLamp_pnl (s : State) (c : Fin 2) (g : Lamp → Lamp) : (s.modLamp c g).pnl = s.pnl := rfl
@[simp] theorem State.modLamp_gge (s : State) (c : Fin 2) (g : Lamp → Lamp) : (s.modLamp c g).gge = s.gge := rfl
@[simp] theorem State.modLamp_log (s : State) (c : Fin 2) (g : Lamp → Lamp) : (s.modLamp c g).log = s.log := rfl
@[simp] theorem State.modLamp_lcs (s : State) (c : Fin 2) (g : Lamp → Lamp) : (s.modLamp c g).lcs = s.lcs := rfl
@[simp] theorem State.modLamp_bst (s : State) (c : Fin 2) (g : Lamp → Lamp) : (s.modLamp c g).bst = s.bst := rfl
@[simp] theorem State.modLamp_rst (s : State) (c : Fin 2) (g : Lamp → Lamp) : (s.modLamp c g).rst = s.rst := rfl
@[simp] theorem State.modLamp_free (s : State) (c : Fin 2) (g : Lamp → Lamp) : (s.modLamp c g).free = s.free := rfl
@[simp] theorem State.modLamp_out (s : State) (c : Fin 2) (g : Lamp → Lamp) : (s.modLamp c g).out = s.out := rfl
@[simp] theorem State.modLamp_pending (s : State) (c : Fin 2) (g : Lamp → Lamp) : (s.modLamp c g).pending = s.pending := rfl
@[simp] theorem State.modLamp_held (s : State) (c : Fin 2) (g : Lamp → Lamp) : (s.modLamp c g).held = s.held := rfl

/-! ### `modFlt` changes `flt` alone -/

@[simp] theorem State.modFlt_regs (s : State) (c : Fin 2) (g : Flt → Flt) : (s.modFlt c g).regs = s.regs := rfl
@[simp] theorem State.modFlt_sram (s : State) (c : Fin 2) (g : Flt → Flt) : (s.modFlt c g).sram = s.sram := rfl
@[simp] theorem State.modFlt_amem (s : State) (c : Fin 2) (g : Flt → Flt) : (s.modFlt c g).amem = s.amem := rfl
@[simp] theorem State.modFlt_time (s : State) (c : Fin 2) (g : Flt → Flt) : (s.modFlt c g).time = s.time := rfl
@[simp] theorem State.modFlt_good (s : State) (c : Fin 2) (g : Flt → Flt) : (s.modFlt c g).good = s.good := rfl
@[simp] theorem State.modFlt_evt (s : State) (c : Fin 2) (g : Flt → Flt) : (s.modFlt c g).evt = s.evt := rfl
@[simp] theorem State.modFlt_pins (s : State) (c : Fin 2) (g : Flt → Flt) : (s.modFlt c g).pins = s.pins := rfl
@[simp] theorem State.modFlt_streams (s : State) (c : Fin 2) (g : Flt → Flt) : (s.modFlt c g).streams = s.streams := rfl
@[simp] theorem State.modFlt_dma (s : State) (c : Fin 2) (g : Flt → Flt) : (s.modFlt c g).dma = s.dma := rfl
@[simp] theorem State.modFlt_nvq (s : State) (c : Fin 2) (g : Flt → Flt) : (s.modFlt c g).nvq = s.nvq := rfl
@[simp] theorem State.modFlt_cores (s : State) (c : Fin 2) (g : Flt → Flt) : (s.modFlt c g).cores = s.cores := rfl
@[simp] theorem State.modFlt_keeper (s : State) (c : Fin 2) (g : Flt → Flt) : (s.modFlt c g).keeper = s.keeper := rfl
@[simp] theorem State.modFlt_tl (s : State) (c : Fin 2) (g : Flt → Flt) : (s.modFlt c g).tl = s.tl := rfl
@[simp] theorem State.modFlt_disp (s : State) (c : Fin 2) (g : Flt → Flt) : (s.modFlt c g).disp = s.disp := rfl
@[simp] theorem State.modFlt_lamp (s : State) (c : Fin 2) (g : Flt → Flt) : (s.modFlt c g).lamp = s.lamp := rfl
@[simp] theorem State.modFlt_tower (s : State) (c : Fin 2) (g : Flt → Flt) : (s.modFlt c g).tower = s.tower := rfl
@[simp] theorem State.modFlt_clk (s : State) (c : Fin 2) (g : Flt → Flt) : (s.modFlt c g).clk = s.clk := rfl
@[simp] theorem State.modFlt_tth (s : State) (c : Fin 2) (g : Flt → Flt) : (s.modFlt c g).tth = s.tth := rfl
@[simp] theorem State.modFlt_cal (s : State) (c : Fin 2) (g : Flt → Flt) : (s.modFlt c g).cal = s.cal := rfl
@[simp] theorem State.modFlt_trims (s : State) (c : Fin 2) (g : Flt → Flt) : (s.modFlt c g).trims = s.trims := rfl
@[simp] theorem State.modFlt_lns (s : State) (c : Fin 2) (g : Flt → Flt) : (s.modFlt c g).lns = s.lns := rfl
@[simp] theorem State.modFlt_specs (s : State) (c : Fin 2) (g : Flt → Flt) : (s.modFlt c g).specs = s.specs := rfl
@[simp] theorem State.modFlt_sec (s : State) (c : Fin 2) (g : Flt → Flt) : (s.modFlt c g).sec = s.sec := rfl
@[simp] theorem State.modFlt_ivu (s : State) (c : Fin 2) (g : Flt → Flt) : (s.modFlt c g).ivu = s.ivu := rfl
@[simp] theorem State.modFlt_glwSet (s : State) (c : Fin 2) (g : Flt → Flt) : (s.modFlt c g).glwSet = s.glwSet := rfl
@[simp] theorem State.modFlt_glw (s : State) (c : Fin 2) (g : Flt → Flt) : (s.modFlt c g).glw = s.glw := rfl
@[simp] theorem State.modFlt_cap (s : State) (c : Fin 2) (g : Flt → Flt) : (s.modFlt c g).cap = s.cap := rfl
@[simp] theorem State.modFlt_amc (s : State) (c : Fin 2) (g : Flt → Flt) : (s.modFlt c g).amc = s.amc := rfl
@[simp] theorem State.modFlt_pnl (s : State) (c : Fin 2) (g : Flt → Flt) : (s.modFlt c g).pnl = s.pnl := rfl
@[simp] theorem State.modFlt_gge (s : State) (c : Fin 2) (g : Flt → Flt) : (s.modFlt c g).gge = s.gge := rfl
@[simp] theorem State.modFlt_log (s : State) (c : Fin 2) (g : Flt → Flt) : (s.modFlt c g).log = s.log := rfl
@[simp] theorem State.modFlt_lcs (s : State) (c : Fin 2) (g : Flt → Flt) : (s.modFlt c g).lcs = s.lcs := rfl
@[simp] theorem State.modFlt_bst (s : State) (c : Fin 2) (g : Flt → Flt) : (s.modFlt c g).bst = s.bst := rfl
@[simp] theorem State.modFlt_rst (s : State) (c : Fin 2) (g : Flt → Flt) : (s.modFlt c g).rst = s.rst := rfl
@[simp] theorem State.modFlt_free (s : State) (c : Fin 2) (g : Flt → Flt) : (s.modFlt c g).free = s.free := rfl
@[simp] theorem State.modFlt_out (s : State) (c : Fin 2) (g : Flt → Flt) : (s.modFlt c g).out = s.out := rfl
@[simp] theorem State.modFlt_pending (s : State) (c : Fin 2) (g : Flt → Flt) : (s.modFlt c g).pending = s.pending := rfl
@[simp] theorem State.modFlt_held (s : State) (c : Fin 2) (g : Flt → Flt) : (s.modFlt c g).held = s.held := rfl

/-! ### `gapDone` changes `rst` alone -/

@[simp] theorem State.gapDone_regs (s : State) (u : Nat) : (s.gapDone u).regs = s.regs := rfl
@[simp] theorem State.gapDone_sram (s : State) (u : Nat) : (s.gapDone u).sram = s.sram := rfl
@[simp] theorem State.gapDone_amem (s : State) (u : Nat) : (s.gapDone u).amem = s.amem := rfl
@[simp] theorem State.gapDone_time (s : State) (u : Nat) : (s.gapDone u).time = s.time := rfl
@[simp] theorem State.gapDone_good (s : State) (u : Nat) : (s.gapDone u).good = s.good := rfl
@[simp] theorem State.gapDone_evt (s : State) (u : Nat) : (s.gapDone u).evt = s.evt := rfl
@[simp] theorem State.gapDone_pins (s : State) (u : Nat) : (s.gapDone u).pins = s.pins := rfl
@[simp] theorem State.gapDone_streams (s : State) (u : Nat) : (s.gapDone u).streams = s.streams := rfl
@[simp] theorem State.gapDone_dma (s : State) (u : Nat) : (s.gapDone u).dma = s.dma := rfl
@[simp] theorem State.gapDone_nvq (s : State) (u : Nat) : (s.gapDone u).nvq = s.nvq := rfl
@[simp] theorem State.gapDone_cores (s : State) (u : Nat) : (s.gapDone u).cores = s.cores := rfl
@[simp] theorem State.gapDone_keeper (s : State) (u : Nat) : (s.gapDone u).keeper = s.keeper := rfl
@[simp] theorem State.gapDone_tl (s : State) (u : Nat) : (s.gapDone u).tl = s.tl := rfl
@[simp] theorem State.gapDone_disp (s : State) (u : Nat) : (s.gapDone u).disp = s.disp := rfl
@[simp] theorem State.gapDone_lamp (s : State) (u : Nat) : (s.gapDone u).lamp = s.lamp := rfl
@[simp] theorem State.gapDone_tower (s : State) (u : Nat) : (s.gapDone u).tower = s.tower := rfl
@[simp] theorem State.gapDone_clk (s : State) (u : Nat) : (s.gapDone u).clk = s.clk := rfl
@[simp] theorem State.gapDone_tth (s : State) (u : Nat) : (s.gapDone u).tth = s.tth := rfl
@[simp] theorem State.gapDone_cal (s : State) (u : Nat) : (s.gapDone u).cal = s.cal := rfl
@[simp] theorem State.gapDone_trims (s : State) (u : Nat) : (s.gapDone u).trims = s.trims := rfl
@[simp] theorem State.gapDone_flt (s : State) (u : Nat) : (s.gapDone u).flt = s.flt := rfl
@[simp] theorem State.gapDone_lns (s : State) (u : Nat) : (s.gapDone u).lns = s.lns := rfl
@[simp] theorem State.gapDone_specs (s : State) (u : Nat) : (s.gapDone u).specs = s.specs := rfl
@[simp] theorem State.gapDone_sec (s : State) (u : Nat) : (s.gapDone u).sec = s.sec := rfl
@[simp] theorem State.gapDone_ivu (s : State) (u : Nat) : (s.gapDone u).ivu = s.ivu := rfl
@[simp] theorem State.gapDone_glwSet (s : State) (u : Nat) : (s.gapDone u).glwSet = s.glwSet := rfl
@[simp] theorem State.gapDone_glw (s : State) (u : Nat) : (s.gapDone u).glw = s.glw := rfl
@[simp] theorem State.gapDone_cap (s : State) (u : Nat) : (s.gapDone u).cap = s.cap := rfl
@[simp] theorem State.gapDone_amc (s : State) (u : Nat) : (s.gapDone u).amc = s.amc := rfl
@[simp] theorem State.gapDone_pnl (s : State) (u : Nat) : (s.gapDone u).pnl = s.pnl := rfl
@[simp] theorem State.gapDone_gge (s : State) (u : Nat) : (s.gapDone u).gge = s.gge := rfl
@[simp] theorem State.gapDone_log (s : State) (u : Nat) : (s.gapDone u).log = s.log := rfl
@[simp] theorem State.gapDone_lcs (s : State) (u : Nat) : (s.gapDone u).lcs = s.lcs := rfl
@[simp] theorem State.gapDone_bst (s : State) (u : Nat) : (s.gapDone u).bst = s.bst := rfl
@[simp] theorem State.gapDone_free (s : State) (u : Nat) : (s.gapDone u).free = s.free := rfl
@[simp] theorem State.gapDone_out (s : State) (u : Nat) : (s.gapDone u).out = s.out := rfl
@[simp] theorem State.gapDone_pending (s : State) (u : Nat) : (s.gapDone u).pending = s.pending := rfl
@[simp] theorem State.gapDone_held (s : State) (u : Nat) : (s.gapDone u).held = s.held := rfl

@[simp] theorem State.emit_reg (s : State) (o : Out) (x : Nat) : (s.emit o).reg x = s.reg x := rfl
@[simp] theorem State.modStream_reg (s : State) (k : Fin 64) (g : Stream → Stream) (x : Nat) : (s.modStream k g).reg x = s.reg x := rfl
@[simp] theorem State.modLamp_reg (s : State) (c : Fin 2) (g : Lamp → Lamp) (x : Nat) : (s.modLamp c g).reg x = s.reg x := rfl
@[simp] theorem State.modFlt_reg (s : State) (c : Fin 2) (g : Flt → Flt) (x : Nat) : (s.modFlt c g).reg x = s.reg x := rfl
@[simp] theorem State.gapDone_reg (s : State) (u : Nat) (x : Nat) : (s.gapDone u).reg x = s.reg x := rfl

end Sys2Proof.Machine
end

