-- ==== Sys2Proof/Laws/Regs.lean ====
section
/-! SUPPORT. Registers: reading back what was written, and the canonical form of the register list. -/

set_option Elab.async false

namespace Sys2Proof.Machine
open Sys2Proof

/-! ### The list -/

theorem Regs.find_erase_self (r : List (Nat × Word)) (a : Nat) : Regs.find (Regs.erase r a) a = none := by
  induction r with
  | nil => rfl
  | cons p r ih =>
    obtain ⟨b, w⟩ := p
    by_cases h : b = a
    · simpa [Regs.erase, h] using ih
    · simpa [Regs.erase, h, Regs.find] using ih

theorem Regs.find_erase_ne (r : List (Nat × Word)) (a b : Nat) (h : b ≠ a) : Regs.find (Regs.erase r a) b = Regs.find r b := by
  induction r with
  | nil => rfl
  | cons p r ih =>
    obtain ⟨c, w⟩ := p
    by_cases hc : c = a
    · have hb : c ≠ b := by omega
      simpa [Regs.erase, hc, Regs.find, hb] using by simpa [Regs.erase, hc ▸ hb] using ih
    · by_cases hb : c = b
      · simp [Regs.erase, Regs.find, hb, h]
      · simpa [Regs.erase, hc, Regs.find, hb] using ih

theorem Regs.find_put_self (r : List (Nat × Word)) (a : Nat) (v : Word) : Regs.find (Regs.put r a v) a = some v := by
  induction r with
  | nil => simp [Regs.put, Regs.find]
  | cons p r ih =>
    obtain ⟨b, w⟩ := p
    unfold Regs.put
    by_cases h1 : a < b
    · simp [h1, Regs.find]
    · by_cases h2 : a = b
      · simp [h2, Regs.find]
      · have : b ≠ a := fun h => h2 h.symm
        simp [h1, h2, Regs.find, this, ih]

theorem Regs.find_put_ne (r : List (Nat × Word)) (a b : Nat) (v : Word) (h : b ≠ a) :
    Regs.find (Regs.put r a v) b = Regs.find r b := by
  have ha : a ≠ b := fun e => h e.symm
  induction r with
  | nil => simp [Regs.put, Regs.find, ha]
  | cons p r ih =>
    obtain ⟨c, w⟩ := p
    unfold Regs.put
    by_cases h1 : a < c
    · simp [h1, Regs.find, ha]
    · by_cases h2 : a = c
      · subst h2
        simp [Regs.find, ha]
      · simp [h1, h2, Regs.find, ih]

/-! ### Whole registers -/

/-- A register reads what was written to it. -/
@[simp] theorem State.reg_setReg_self (s : State) (a : Nat) (v : Word) : (s.setReg a v).reg a = v := by
  unfold State.reg State.setReg
  by_cases h : v = resetVal a
  · simp [h, Regs.find_erase_self]
  · simp [h, Regs.find_put_self]

/-- A write to a register leaves every other register. -/
theorem State.reg_setReg_ne (s : State) (a b : Nat) (v : Word) (h : b ≠ a) : (s.setReg a v).reg b = s.reg b := by
  unfold State.reg State.setReg
  by_cases hv : v = resetVal a
  · simp [hv, Regs.find_erase_ne _ _ _ h]
  · simp [hv, Regs.find_put_ne _ _ _ _ h]

theorem State.reg_setF_ne (s : State) (x : Fld) (v b : Nat) (h : b ≠ x.addr) : (s.setF x v).reg b = s.reg b :=
  s.reg_setReg_ne _ _ _ h

theorem State.reg_setB_ne (s : State) (x : Fld) (v : Bool) (b : Nat) (h : b ≠ x.addr) : (s.setB x v).reg b = s.reg b :=
  s.reg_setReg_ne _ _ _ h

/-! ### Fields -/

/-- Bits other than those replaced stay; the replaced ones are those of the new value. -/
theorem bitsOf_setBits_self (v lo w x : Nat) : bitsOf (setBits v lo w x) lo w = x % 2 ^ w := by
  unfold bitsOf setBits
  have h1 : v / 2 ^ (lo + w) * 2 ^ (lo + w) = v / 2 ^ (lo + w) * 2 ^ w * 2 ^ lo := by rw [Nat.pow_add]; ac_rfl
  rw [h1, Nat.add_assoc, Nat.add_comm, Nat.add_right_comm, ← Nat.add_mul, Nat.add_comm]
  rw [Nat.mul_comm _ (2 ^ lo), Nat.add_mul_div_left _ _ (Nat.two_pow_pos lo), Nat.div_eq_of_lt (Nat.mod_lt _ (Nat.two_pow_pos lo))]
  rw [Nat.zero_add, Nat.add_mul_mod_self_right, Nat.mod_mod]

theorem setBits_lt (v lo w x : Nat) (h : lo + w ≤ 32) (hv : v < 2 ^ 32) : setBits v lo w x < 2 ^ 32 := by
  unfold setBits
  obtain ⟨k, hk⟩ := Nat.exists_eq_add_of_le h
  have p1 := Nat.two_pow_pos (lo + w)
  have e32 : 2 ^ 32 = 2 ^ k * 2 ^ (lo + w) := by rw [hk, Nat.pow_add, Nat.mul_comm]
  have a1 : v / 2 ^ (lo + w) < 2 ^ k := by
    rw [Nat.div_lt_iff_lt_mul p1, ← e32]
    exact hv
  have a2 : x % 2 ^ w * 2 ^ lo + v % 2 ^ lo < 2 ^ (lo + w) := by
    have b1 : x % 2 ^ w + 1 ≤ 2 ^ w := Nat.mod_lt _ (Nat.two_pow_pos w)
    have b2 := Nat.mod_lt v (Nat.two_pow_pos lo)
    calc x % 2 ^ w * 2 ^ lo + v % 2 ^ lo < x % 2 ^ w * 2 ^ lo + 2 ^ lo := by omega
      _ = (x % 2 ^ w + 1) * 2 ^ lo := by rw [Nat.add_mul, Nat.one_mul]
      _ ≤ 2 ^ w * 2 ^ lo := Nat.mul_le_mul_right _ b1
      _ = 2 ^ (lo + w) := by rw [Nat.pow_add, Nat.mul_comm]
  calc _ = v / 2 ^ (lo + w) * 2 ^ (lo + w) + (x % 2 ^ w * 2 ^ lo + v % 2 ^ lo) := by rw [Nat.add_assoc]
    _ < v / 2 ^ (lo + w) * 2 ^ (lo + w) + 2 ^ (lo + w) := by omega
    _ = (v / 2 ^ (lo + w) + 1) * 2 ^ (lo + w) := by rw [Nat.add_mul, Nat.one_mul]
    _ ≤ 2 ^ k * 2 ^ (lo + w) := Nat.mul_le_mul_right _ a1
    _ = 2 ^ 32 := e32.symm

/-- A field below the replaced bits stays. -/
theorem bitsOf_setBits_low (v lo w x lo' w' : Nat) (h : lo' + w' ≤ lo) :
    bitsOf (setBits v lo w x) lo' w' = bitsOf v lo' w' := by
  unfold bitsOf setBits
  obtain ⟨k, rfl⟩ := Nat.exists_eq_add_of_le h
  have e1 : ∀ a b, a * 2 ^ (lo' + w' + k + w) + b * 2 ^ (lo' + w' + k) = (a * 2 ^ (w + k) + b * 2 ^ k) * 2 ^ (lo' + w') := by
    intro a b
    rw [Nat.add_mul, Nat.mul_assoc, Nat.mul_assoc, ← Nat.pow_add, ← Nat.pow_add,
      show lo' + w' + k + w = w + k + (lo' + w') by omega, show lo' + w' + k = k + (lo' + w') by omega]
  rw [e1, Nat.add_comm]
  have e2 : ∀ n : Nat, n / 2 ^ lo' % 2 ^ w' = n % 2 ^ (lo' + w') / 2 ^ lo' := by
    intro n; rw [Nat.pow_add, Nat.mod_mul_right_div_self]
  rw [e2, e2, Nat.add_mul_mod_self_right, Nat.mod_mod_of_dvd]
  exact Nat.pow_dvd_pow 2 (by omega)

/-- A field above the replaced bits stays. -/
theorem bitsOf_setBits_high (v lo w x lo' w' : Nat) (h : lo + w ≤ lo') :
    bitsOf (setBits v lo w x) lo' w' = bitsOf v lo' w' := by
  unfold bitsOf setBits
  obtain ⟨k, rfl⟩ := Nat.exists_eq_add_of_le h
  have b1 : x % 2 ^ w * 2 ^ lo + v % 2 ^ lo < 2 ^ (lo + w) := by
    have b1 : x % 2 ^ w + 1 ≤ 2 ^ w := Nat.mod_lt _ (Nat.two_pow_pos w)
    have b2 := Nat.mod_lt v (Nat.two_pow_pos lo)
    calc x % 2 ^ w * 2 ^ lo + v % 2 ^ lo < x % 2 ^ w * 2 ^ lo + 2 ^ lo := by omega
      _ = (x % 2 ^ w + 1) * 2 ^ lo := by rw [Nat.add_mul, Nat.one_mul]
      _ ≤ 2 ^ w * 2 ^ lo := Nat.mul_le_mul_right _ b1
      _ = 2 ^ (lo + w) := by rw [Nat.pow_add, Nat.mul_comm]
  rw [Nat.pow_add 2 (lo + w) k, ← Nat.div_div_eq_div_mul, ← Nat.div_div_eq_div_mul, Nat.add_assoc,
    Nat.add_comm (v / 2 ^ (lo + w) * 2 ^ (lo + w)), Nat.mul_comm (v / 2 ^ (lo + w)),
    Nat.add_mul_div_left _ _ (Nat.two_pow_pos _), Nat.div_eq_of_lt b1, Nat.zero_add]

/-- A field reads what was written to it. -/
theorem State.f_setF_self (s : State) (x : Fld) (v : Nat) (h : x.lo + x.width ≤ 32) : (s.setF x v).f x = v % 2 ^ x.width := by
  unfold State.f State.setF
  rw [State.reg_setReg_self, BitVec.toNat_ofNat, Nat.mod_eq_of_lt (setBits_lt _ _ _ _ h (s.reg x.addr).isLt), bitsOf_setBits_self]

/-- Two fields share no bit. -/
def Fld.apart (x y : Fld) : Bool := x.addr != y.addr || decide (x.lo + x.width ≤ y.lo) || decide (y.lo + y.width ≤ x.lo)

/-- A field stays under a write to a field that shares no bit with it. -/
theorem State.f_setF_apart (s : State) (x y : Fld) (v : Nat) (h : x.lo + x.width ≤ 32) (ha : x.apart y = true) :
    (s.setF x v).f y = s.f y := by
  unfold State.f State.setF
  by_cases e : y.addr = x.addr
  · rw [e, State.reg_setReg_self, BitVec.toNat_ofNat, Nat.mod_eq_of_lt (setBits_lt _ _ _ _ h (s.reg x.addr).isLt)]
    simp only [Fld.apart, e, bne_self_eq_false, Bool.false_or, Bool.or_eq_true, decide_eq_true_eq] at ha
    rcases ha with ha | ha
    · exact bitsOf_setBits_high _ _ _ _ _ _ ha
    · exact bitsOf_setBits_low _ _ _ _ _ _ ha
  · rw [State.reg_setReg_ne _ _ _ _ e]

theorem State.f_setF_addr (s : State) (x y : Fld) (v : Nat) (h : y.addr ≠ x.addr) : (s.setF x v).f y = s.f y := by
  unfold State.f
  rw [State.reg_setF_ne _ _ _ _ h]

/-- A field of a register that was not written stays. -/
theorem State.f_setReg_addr (s : State) (a : Nat) (y : Fld) (v : Word) (h : y.addr ≠ a) : (s.setReg a v).f y = s.f y := by
  unfold State.f
  rw [State.reg_setReg_ne _ _ _ _ h]

theorem State.on_setB_self (s : State) (x : Fld) (b : Bool) (h : x.lo + 1 ≤ 32) (hw : x.width = 1) : (s.setB x b).on x = b := by
  unfold State.on State.setB
  rw [State.f_setF_self _ _ _ (by omega), hw]
  cases b <;> rfl

theorem State.on_setB_apart (s : State) (x y : Fld) (b : Bool) (h : x.lo + x.width ≤ 32) (ha : x.apart y = true) :
    (s.setB x b).on y = s.on y := by
  unfold State.on State.setB
  rw [State.f_setF_apart _ _ _ _ h ha]

/-- A pair reads what was written to it. -/
theorem State.pair_setPair_self (s : State) (a v : Nat) : (s.setPair a v).pair a = v % 2 ^ 64 := by
  unfold State.pair State.setPair
  rw [State.reg_setReg_ne _ _ _ _ (by omega), State.reg_setReg_self, State.reg_setReg_self]
  simp only [BitVec.toNat_ofNat]
  omega

theorem State.reg_setPair_ne (s : State) (a v b : Nat) (h1 : b ≠ a) (h2 : b ≠ a + 4) : (s.setPair a v).reg b = s.reg b := by
  unfold State.setPair
  rw [State.reg_setReg_ne _ _ _ _ h2, State.reg_setReg_ne _ _ _ _ h1]

end Sys2Proof.Machine
end

