-- ==== Sys2Proof/Laws/Mem.lean ====
section
/-! SUPPORT. Memory: the canonical form is kept, and reading back what was written; the register list likewise. -/

set_option Elab.async false

namespace Sys2Proof.Machine
open Sys2Proof

/-! ### Bytes -/

theorem Mem.wfFrom_mono (m : List Host.Cell) (a b : Nat) (h : a ≤ b) (hb : Mem.wfFrom b m = true) : Mem.wfFrom a m = true := by
  cases m with
  | nil => rfl
  | cons c m =>
    obtain ⟨k, v⟩ := c
    simp only [Mem.wfFrom, Bool.and_eq_true, decide_eq_true_eq] at hb ⊢
    exact ⟨⟨by omega, hb.1.2⟩, hb.2⟩

theorem Mem.wfFrom_write (m : List Host.Cell) (a b : Nat) (v : Byte) (h : b ≤ a) (hm : Mem.wfFrom b m = true) :
    Mem.wfFrom b (Mem.write m a v) = true := by
  induction m generalizing b with
  | nil =>
    unfold Mem.write
    split
    · rfl
    · simp_all [Mem.wfFrom]
  | cons c m ih =>
    obtain ⟨k, w⟩ := c
    simp only [Mem.wfFrom, Bool.and_eq_true, decide_eq_true_eq] at hm
    obtain ⟨⟨h1, h2⟩, h3⟩ := hm
    unfold Mem.write
    split
    · split
      · simp_all [Mem.wfFrom]
      · simp only [Mem.wfFrom, Bool.and_eq_true, decide_eq_true_eq]
        exact ⟨⟨h, by simpa using ‹¬v = 0›⟩, ⟨by omega, h2⟩, h3⟩
    · split
      · split
        · exact Mem.wfFrom_mono _ _ _ (by omega) h3
        · simp only [Mem.wfFrom, Bool.and_eq_true, decide_eq_true_eq]
          exact ⟨⟨h, by simpa using ‹¬v = 0›⟩, by simpa [‹a = k›] using h3⟩
      · simp only [Mem.wfFrom, Bool.and_eq_true, decide_eq_true_eq]
        exact ⟨⟨h1, h2⟩, ih _ (by omega) h3⟩

/-- A write keeps the canonical form. -/
theorem Mem.wf_write (m : List Host.Cell) (a : Nat) (v : Byte) (h : Mem.wf m = true) : Mem.wf (Mem.write m a v) = true :=
  Mem.wfFrom_write _ _ _ _ (Nat.zero_le a) h

/-- So does a write of several bytes. -/
theorem Mem.wf_writeN (bs : List Byte) (m : List Host.Cell) (a : Nat) (h : Mem.wf m = true) :
    Mem.wf (Mem.writeN m a bs) = true := by
  induction bs generalizing m a with
  | nil => exact h
  | cons b bs ih => exact ih _ _ (Mem.wf_write _ _ _ h)

theorem Mem.read_below (m : List Host.Cell) (a b : Nat) (h : Mem.wfFrom b m = true) (ha : a < b) : Mem.read m a = 0 := by
  induction m generalizing b with
  | nil => rfl
  | cons c m ih =>
    obtain ⟨k, w⟩ := c
    simp only [Mem.wfFrom, Bool.and_eq_true, decide_eq_true_eq] at h
    unfold Mem.read
    rw [if_neg (by omega)]
    exact ih _ h.2 (by omega)

theorem Mem.read_writeFrom_self (m : List Host.Cell) (a b : Nat) (v : Byte) (hm : Mem.wfFrom b m = true) :
    Mem.read (Mem.write m a v) a = v := by
  induction m generalizing b with
  | nil =>
    by_cases hv : v = 0
    · simp only [Mem.write, hv, if_true, Mem.read]
    · simp only [Mem.write, if_neg hv, Mem.read, if_true]
  | cons c m ih =>
    obtain ⟨k, w⟩ := c
    simp only [Mem.wfFrom, Bool.and_eq_true, decide_eq_true_eq] at hm
    unfold Mem.write
    by_cases h1 : a < k
    · by_cases hv : v = 0
      · simp only [h1, hv, if_true]
        unfold Mem.read
        rw [if_neg (by omega)]
        exact Mem.read_below _ _ _ hm.2 (by omega)
      · simp only [if_pos h1, if_neg hv, Mem.read, if_true]
    · by_cases h2 : a = k
      · by_cases hv : v = 0
        · simp only [h2, hv, if_true, if_false, Nat.lt_irrefl]
          exact Mem.read_below _ _ _ hm.2 (by omega)
        · simp only [h2, if_neg hv, if_true, if_false, Nat.lt_irrefl, Mem.read]
      · simp only [h1, h2, if_false]
        unfold Mem.read
        rw [if_neg (by omega)]
        exact ih _ hm.2

/-- A byte reads as it was written. -/
theorem Mem.read_write_self (m : List Host.Cell) (a : Nat) (v : Byte) (h : Mem.wf m = true) : Mem.read (Mem.write m a v) a = v :=
  Mem.read_writeFrom_self _ _ _ _ h

/-- A write leaves every other byte. -/
theorem Mem.read_write_ne (m : List Host.Cell) (a b : Nat) (v : Byte) (hb : b ≠ a) : Mem.read (Mem.write m a v) b = Mem.read m b := by
  induction m with
  | nil =>
    by_cases hv : v = 0
    · simp [Mem.write, hv]
    · simp only [Mem.write, hv, if_false]
      rw [Mem.read.eq_2, if_neg (by omega)]
  | cons c m ih =>
    obtain ⟨k, w⟩ := c
    unfold Mem.write
    by_cases h1 : a < k
    · by_cases hv : v = 0
      · simp [h1, hv]
      · simp only [h1, hv, if_true, if_false]
        rw [Mem.read, if_neg (by omega)]
    · by_cases h2 : a = k
      · by_cases hv : v = 0
        · simp only [h2, hv, if_true, if_false, Nat.lt_irrefl]
          rw [Mem.read, if_neg (by omega)]
        · simp only [h2, hv, if_true, if_false, Nat.lt_irrefl]
          rw [Mem.read, Mem.read, if_neg (by omega), if_neg (by omega)]
      · simp only [h1, h2, if_false]
        rw [Mem.read, Mem.read, ih]

/-- A write of several bytes leaves every byte outside them. -/
theorem Mem.read_writeN_out (bs : List Byte) (m : List Host.Cell) (a b : Nat) (h : b < a ∨ a + bs.length ≤ b) :
    Mem.read (Mem.writeN m a bs) b = Mem.read m b := by
  induction bs generalizing m a with
  | nil => rfl
  | cons c bs ih =>
    simp only [List.length_cons] at h
    rw [Mem.writeN, ih _ _ (by omega), Mem.read_write_ne _ _ _ _ (by omega)]

/-- Bytes read as they were written. -/
theorem Mem.readN_writeN_self (bs : List Byte) (m : List Host.Cell) (a : Nat) (h : Mem.wf m = true) :
    Mem.readN (Mem.writeN m a bs) a bs.length = bs := by
  induction bs generalizing m a with
  | nil => rfl
  | cons c bs ih =>
    simp only [List.length_cons, Mem.readN, Mem.writeN]
    rw [ih _ _ (Mem.wf_write _ _ _ h), Mem.read_writeN_out _ _ _ _ (by omega), Mem.read_write_self _ _ _ h]

/-! ### The register list -/

theorem Regs.wfFrom_mono (r : List (Nat × Word)) (a b : Nat) (h : a ≤ b) (hb : Regs.wfFrom b r = true) :
    Regs.wfFrom a r = true := by
  cases r with
  | nil => rfl
  | cons c r =>
    obtain ⟨k, v⟩ := c
    simp only [Regs.wfFrom, Bool.and_eq_true, decide_eq_true_eq] at hb ⊢
    exact ⟨⟨by omega, hb.1.2⟩, hb.2⟩

theorem Regs.wfFrom_filter (r : List (Nat × Word)) (b : Nat) (p : Nat × Word → Bool) (h : Regs.wfFrom b r = true) :
    Regs.wfFrom b (r.filter p) = true := by
  induction r generalizing b with
  | nil => rfl
  | cons c r ih =>
    obtain ⟨k, v⟩ := c
    simp only [Regs.wfFrom, Bool.and_eq_true, decide_eq_true_eq] at h
    rw [List.filter_cons]
    split
    · simp only [Regs.wfFrom, Bool.and_eq_true, decide_eq_true_eq]
      exact ⟨h.1, ih _ h.2⟩
    · exact Regs.wfFrom_mono _ _ _ (by omega) (ih _ h.2)

theorem Regs.wfFrom_put (r : List (Nat × Word)) (a b : Nat) (v : Word) (h : b ≤ a) (hv : (v != resetVal a) = true)
    (hr : Regs.wfFrom b r = true) : Regs.wfFrom b (Regs.put r a v) = true := by
  induction r generalizing b with
  | nil =>
    simp only [Regs.put, Regs.wfFrom, Bool.and_eq_true, decide_eq_true_eq]
    exact ⟨⟨h, hv⟩, trivial⟩
  | cons c r ih =>
    obtain ⟨k, w⟩ := c
    simp only [Regs.wfFrom, Bool.and_eq_true, decide_eq_true_eq] at hr
    obtain ⟨⟨h1, h2⟩, h3⟩ := hr
    unfold Regs.put
    split
    · simp only [Regs.wfFrom, Bool.and_eq_true, decide_eq_true_eq]
      exact ⟨⟨h, hv⟩, ⟨by omega, h2⟩, h3⟩
    · split
      · simp only [Regs.wfFrom, Bool.and_eq_true, decide_eq_true_eq]
        exact ⟨⟨h, hv⟩, by simpa [‹a = k›] using h3⟩
      · simp only [Regs.wfFrom, Bool.and_eq_true, decide_eq_true_eq]
        exact ⟨⟨h1, h2⟩, ih _ (by omega) h3⟩

/-- A register write keeps the canonical form. -/
theorem State.regsWf_setReg (s : State) (a : Nat) (v : Word) (h : Regs.wf s.regs = true) : Regs.wf (s.setReg a v).regs = true := by
  unfold State.setReg
  dsimp only
  split
  · exact Regs.wfFrom_filter _ _ _ h
  · exact Regs.wfFrom_put _ _ _ _ (Nat.zero_le _) (by simpa using ‹_›) h

/-- So does a reset of a range of registers. -/
theorem State.regsWf_resetRange (s : State) (lo hi : Nat) (h : Regs.wf s.regs = true) :
    Regs.wf (s.resetRange lo hi).regs = true := Regs.wfFrom_filter _ _ _ h

end Sys2Proof.Machine
end

