-- ==== Sys2Proof/Laws/Events.lean ====
section
/-! SUPPORT. An event (R481 to R486) touches the registers of EVT and the PBA, the state of EVT, `FAULT_N` and what leaves
the block, and nothing else. -/

set_option Elab.async false

namespace Sys2Proof.Machine
open Sys2Proof

/-- Addresses of the registers an event may write. -/
def evtOwned (a : Nat) : Bool := decide (0x1300000 ≤ a) || decide (a = 0xD0E800) || decide (a = 0xD0E804)

/-- A state with everything an event may touch blotted out. -/
def State.apartFromEvents (s : State) : State :=
  { s with regs := [], evt := State.reset.evt, pins := State.reset.pins, out := [] }

theorem State.updFault_apart (s : State) : s.updFault.apartFromEvents = s.apartFromEvents := by
  unfold State.updFault; dsimp only; split <;> rfl
theorem State.setReg_apart (s : State) (a : Nat) (v : Word) : (s.setReg a v).apartFromEvents = s.apartFromEvents := rfl
theorem State.setF_apart (s : State) (x : Fld) (v : Nat) : (s.setF x v).apartFromEvents = s.apartFromEvents := rfl
theorem State.setB_apart (s : State) (x : Fld) (b : Bool) : (s.setB x b).apartFromEvents = s.apartFromEvents := rfl
theorem State.emit_apart (s : State) (o : Out) : (s.emit o).apartFromEvents = s.apartFromEvents := rfl
theorem State.evt_apart (s : State) (e : Evt) : ({ s with evt := e } : State).apartFromEvents = s.apartFromEvents := rfl
theorem State.msixSend_apart (s : State) (v : Nat) : (s.msixSend v).apartFromEvents = s.apartFromEvents := by
  unfold State.msixSend; (repeat' split) <;> rfl
theorem State.trigger_apart (s : State) (v : Nat) : (s.trigger v).apartFromEvents = s.apartFromEvents := by
  unfold State.trigger; (repeat' split) <;> first | rfl | rw [State.msixSend_apart]
theorem State.evtCount_apart (s : State) (i : Nat) : (s.evtCount i).1.apartFromEvents = s.apartFromEvents := by
  unfold State.evtCount; dsimp only; (repeat' split) <;> rfl
theorem State.evtRoute_apart (s : State) (i : Nat) : (s.evtRoute i).apartFromEvents = s.apartFromEvents := by
  unfold State.evtRoute
  dsimp only
  have h1 := State.setB_apart s (evtPend i) true
  generalize s.setB (evtPend i) true = s1 at h1
  have h2 := State.trigger_apart s1 (s1.f (F.EVT_ROUTE_i_VECTOR i))
  generalize s1.trigger (s1.f (F.EVT_ROUTE_i_VECTOR i)) = s2 at h2
  (repeat' split) <;> simp only [State.evt_apart, State.updFault_apart, State.setB_apart, h2, h1]
theorem State.raise_apart (s : State) (i : Nat) : (s.raise i).apartFromEvents = s.apartFromEvents := by
  unfold State.raise; dsimp only; (repeat' split) <;> simp only [State.evtRoute_apart, State.evtCount_apart]
theorem State.raiseLimited_apart (s : State) (i us : Nat) : (s.raiseLimited i us).apartFromEvents = s.apartFromEvents := by
  unfold State.raiseLimited
  split
  · exact State.raise_apart _ _
  · rfl
theorem State.setBRaise_apart (s : State) (x : Fld) (i : Nat) : (s.setBRaise x i).apartFromEvents = s.apartFromEvents := by
  unfold State.setBRaise; split <;> simp only [State.raise_apart, State.setB_apart]

@[simp] theorem State.updFault_sram (s : State) : (s.updFault).sram = s.sram := by
  have h := congrArg State.sram (s.updFault_apart)
  exact h
@[simp] theorem State.updFault_amem (s : State) : (s.updFault).amem = s.amem := by
  have h := congrArg State.amem (s.updFault_apart)
  exact h
@[simp] theorem State.updFault_time (s : State) : (s.updFault).time = s.time := by
  have h := congrArg State.time (s.updFault_apart)
  exact h
@[simp] theorem State.updFault_good (s : State) : (s.updFault).good = s.good := by
  have h := congrArg State.good (s.updFault_apart)
  exact h
@[simp] theorem State.updFault_streams (s : State) : (s.updFault).streams = s.streams := by
  have h := congrArg State.streams (s.updFault_apart)
  exact h
@[simp] theorem State.updFault_dma (s : State) : (s.updFault).dma = s.dma := by
  have h := congrArg State.dma (s.updFault_apart)
  exact h
@[simp] theorem State.updFault_nvq (s : State) : (s.updFault).nvq = s.nvq := by
  have h := congrArg State.nvq (s.updFault_apart)
  exact h
@[simp] theorem State.updFault_cores (s : State) : (s.updFault).cores = s.cores := by
  have h := congrArg State.cores (s.updFault_apart)
  exact h
@[simp] theorem State.updFault_keeper (s : State) : (s.updFault).keeper = s.keeper := by
  have h := congrArg State.keeper (s.updFault_apart)
  exact h
@[simp] theorem State.updFault_tl (s : State) : (s.updFault).tl = s.tl := by
  have h := congrArg State.tl (s.updFault_apart)
  exact h
@[simp] theorem State.updFault_disp (s : State) : (s.updFault).disp = s.disp := by
  have h := congrArg State.disp (s.updFault_apart)
  exact h
@[simp] theorem State.updFault_lamp (s : State) : (s.updFault).lamp = s.lamp := by
  have h := congrArg State.lamp (s.updFault_apart)
  exact h
@[simp] theorem State.updFault_tower (s : State) : (s.updFault).tower = s.tower := by
  have h := congrArg State.tower (s.updFault_apart)
  exact h
@[simp] theorem State.updFault_clk (s : State) : (s.updFault).clk = s.clk := by
  have h := congrArg State.clk (s.updFault_apart)
  exact h
@[simp] theorem State.updFault_tth (s : State) : (s.updFault).tth = s.tth := by
  have h := congrArg State.tth (s.updFault_apart)
  exact h
@[simp] theorem State.updFault_cal (s : State) : (s.updFault).cal = s.cal := by
  have h := congrArg State.cal (s.updFault_apart)
  exact h
@[simp] theorem State.updFault_trims (s : State) : (s.updFault).trims = s.trims := by
  have h := congrArg State.trims (s.updFault_apart)
  exact h
@[simp] theorem State.updFault_flt (s : State) : (s.updFault).flt = s.flt := by
  have h := congrArg State.flt (s.updFault_apart)
  exact h
@[simp] theorem State.updFault_lns (s : State) : (s.updFault).lns = s.lns := by
  have h := congrArg State.lns (s.updFault_apart)
  exact h
@[simp] theorem State.updFault_specs (s : State) : (s.updFault).specs = s.specs := by
  have h := congrArg State.specs (s.updFault_apart)
  exact h
@[simp] theorem State.updFault_sec (s : State) : (s.updFault).sec = s.sec := by
  have h := congrArg State.sec (s.updFault_apart)
  exact h
@[simp] theorem State.updFault_ivu (s : State) : (s.updFault).ivu = s.ivu := by
  have h := congrArg State.ivu (s.updFault_apart)
  exact h
@[simp] theorem State.updFault_glwSet (s : State) : (s.updFault).glwSet = s.glwSet := by
  have h := congrArg State.glwSet (s.updFault_apart)
  exact h
@[simp] theorem State.updFault_glw (s : State) : (s.updFault).glw = s.glw := by
  have h := congrArg State.glw (s.updFault_apart)
  exact h
@[simp] theorem State.updFault_cap (s : State) : (s.updFault).cap = s.cap := by
  have h := congrArg State.cap (s.updFault_apart)
  exact h
@[simp] theorem State.updFault_amc (s : State) : (s.updFault).amc = s.amc := by
  have h := congrArg State.amc (s.updFault_apart)
  exact h
@[simp] theorem State.updFault_pnl (s : State) : (s.updFault).pnl = s.pnl := by
  have h := congrArg State.pnl (s.updFault_apart)
  exact h
@[simp] theorem State.updFault_gge (s : State) : (s.updFault).gge = s.gge := by
  have h := congrArg State.gge (s.updFault_apart)
  exact h
@[simp] theorem State.updFault_log (s : State) : (s.updFault).log = s.log := by
  have h := congrArg State.log (s.updFault_apart)
  exact h
@[simp] theorem State.updFault_lcs (s : State) : (s.updFault).lcs = s.lcs := by
  have h := congrArg State.lcs (s.updFault_apart)
  exact h
@[simp] theorem State.updFault_bst (s : State) : (s.updFault).bst = s.bst := by
  have h := congrArg State.bst (s.updFault_apart)
  exact h
@[simp] theorem State.updFault_rst (s : State) : (s.updFault).rst = s.rst := by
  have h := congrArg State.rst (s.updFault_apart)
  exact h
@[simp] theorem State.updFault_free (s : State) : (s.updFault).free = s.free := by
  have h := congrArg State.free (s.updFault_apart)
  exact h
@[simp] theorem State.updFault_pending (s : State) : (s.updFault).pending = s.pending := by
  have h := congrArg State.pending (s.updFault_apart)
  exact h
@[simp] theorem State.msixSend_sram (s : State) (v : Nat) : (s.msixSend v).sram = s.sram := by
  have h := congrArg State.sram (s.msixSend_apart v)
  exact h
@[simp] theorem State.msixSend_amem (s : State) (v : Nat) : (s.msixSend v).amem = s.amem := by
  have h := congrArg State.amem (s.msixSend_apart v)
  exact h
@[simp] theorem State.msixSend_time (s : State) (v : Nat) : (s.msixSend v).time = s.time := by
  have h := congrArg State.time (s.msixSend_apart v)
  exact h
@[simp] theorem State.msixSend_good (s : State) (v : Nat) : (s.msixSend v).good = s.good := by
  have h := congrArg State.good (s.msixSend_apart v)
  exact h
@[simp] theorem State.msixSend_streams (s : State) (v : Nat) : (s.msixSend v).streams = s.streams := by
  have h := congrArg State.streams (s.msixSend_apart v)
  exact h
@[simp] theorem State.msixSend_dma (s : State) (v : Nat) : (s.msixSend v).dma = s.dma := by
  have h := congrArg State.dma (s.msixSend_apart v)
  exact h
@[simp] theorem State.msixSend_nvq (s : State) (v : Nat) : (s.msixSend v).nvq = s.nvq := by
  have h := congrArg State.nvq (s.msixSend_apart v)
  exact h
@[simp] theorem State.msixSend_cores (s : State) (v : Nat) : (s.msixSend v).cores = s.cores := by
  have h := congrArg State.cores (s.msixSend_apart v)
  exact h
@[simp] theorem State.msixSend_keeper (s : State) (v : Nat) : (s.msixSend v).keeper = s.keeper := by
  have h := congrArg State.keeper (s.msixSend_apart v)
  exact h
@[simp] theorem State.msixSend_tl (s : State) (v : Nat) : (s.msixSend v).tl = s.tl := by
  have h := congrArg State.tl (s.msixSend_apart v)
  exact h
@[simp] theorem State.msixSend_disp (s : State) (v : Nat) : (s.msixSend v).disp = s.disp := by
  have h := congrArg State.disp (s.msixSend_apart v)
  exact h
@[simp] theorem State.msixSend_lamp (s : State) (v : Nat) : (s.msixSend v).lamp = s.lamp := by
  have h := congrArg State.lamp (s.msixSend_apart v)
  exact h
@[simp] theorem State.msixSend_tower (s : State) (v : Nat) : (s.msixSend v).tower = s.tower := by
  have h := congrArg State.tower (s.msixSend_apart v)
  exact h
@[simp] theorem State.msixSend_clk (s : State) (v : Nat) : (s.msixSend v).clk = s.clk := by
  have h := congrArg State.clk (s.msixSend_apart v)
  exact h
@[simp] theorem State.msixSend_tth (s : State) (v : Nat) : (s.msixSend v).tth = s.tth := by
  have h := congrArg State.tth (s.msixSend_apart v)
  exact h
@[simp] theorem State.msixSend_cal (s : State) (v : Nat) : (s.msixSend v).cal = s.cal := by
  have h := congrArg State.cal (s.msixSend_apart v)
  exact h
@[simp] theorem State.msixSend_trims (s : State) (v : Nat) : (s.msixSend v).trims = s.trims := by
  have h := congrArg State.trims (s.msixSend_apart v)
  exact h
@[simp] theorem State.msixSend_flt (s : State) (v : Nat) : (s.msixSend v).flt = s.flt := by
  have h := congrArg State.flt (s.msixSend_apart v)
  exact h
@[simp] theorem State.msixSend_lns (s : State) (v : Nat) : (s.msixSend v).lns = s.lns := by
  have h := congrArg State.lns (s.msixSend_apart v)
  exact h
@[simp] theorem State.msixSend_specs (s : State) (v : Nat) : (s.msixSend v).specs = s.specs := by
  have h := congrArg State.specs (s.msixSend_apart v)
  exact h
@[simp] theorem State.msixSend_sec (s : State) (v : Nat) : (s.msixSend v).sec = s.sec := by
  have h := congrArg State.sec (s.msixSend_apart v)
  exact h
@[simp] theorem State.msixSend_ivu (s : State) (v : Nat) : (s.msixSend v).ivu = s.ivu := by
  have h := congrArg State.ivu (s.msixSend_apart v)
  exact h
@[simp] theorem State.msixSend_glwSet (s : State) (v : Nat) : (s.msixSend v).glwSet = s.glwSet := by
  have h := congrArg State.glwSet (s.msixSend_apart v)
  exact h
@[simp] theorem State.msixSend_glw (s : State) (v : Nat) : (s.msixSend v).glw = s.glw := by
  have h := congrArg State.glw (s.msixSend_apart v)
  exact h
@[simp] theorem State.msixSend_cap (s : State) (v : Nat) : (s.msixSend v).cap = s.cap := by
  have h := congrArg State.cap (s.msixSend_apart v)
  exact h
@[simp] theorem State.msixSend_amc (s : State) (v : Nat) : (s.msixSend v).amc = s.amc := by
  have h := congrArg State.amc (s.msixSend_apart v)
  exact h
@[simp] theorem State.msixSend_pnl (s : State) (v : Nat) : (s.msixSend v).pnl = s.pnl := by
  have h := congrArg State.pnl (s.msixSend_apart v)
  exact h
@[simp] theorem State.msixSend_gge (s : State) (v : Nat) : (s.msixSend v).gge = s.gge := by
  have h := congrArg State.gge (s.msixSend_apart v)
  exact h
@[simp] theorem State.msixSend_log (s : State) (v : Nat) : (s.msixSend v).log = s.log := by
  have h := congrArg State.log (s.msixSend_apart v)
  exact h
@[simp] theorem State.msixSend_lcs (s : State) (v : Nat) : (s.msixSend v).lcs = s.lcs := by
  have h := congrArg State.lcs (s.msixSend_apart v)
  exact h
@[simp] theorem State.msixSend_bst (s : State) (v : Nat) : (s.msixSend v).bst = s.bst := by
  have h := congrArg State.bst (s.msixSend_apart v)
  exact h
@[simp] theorem State.msixSend_rst (s : State) (v : Nat) : (s.msixSend v).rst = s.rst := by
  have h := congrArg State.rst (s.msixSend_apart v)
  exact h
@[simp] theorem State.msixSend_free (s : State) (v : Nat) : (s.msixSend v).free = s.free := by
  have h := congrArg State.free (s.msixSend_apart v)
  exact h
@[simp] theorem State.msixSend_pending (s : State) (v : Nat) : (s.msixSend v).pending = s.pending := by
  have h := congrArg State.pending (s.msixSend_apart v)
  exact h
@[simp] theorem State.trigger_sram (s : State) (v : Nat) : (s.trigger v).sram = s.sram := by
  have h := congrArg State.sram (s.trigger_apart v)
  exact h
@[simp] theorem State.trigger_amem (s : State) (v : Nat) : (s.trigger v).amem = s.amem := by
  have h := congrArg State.amem (s.trigger_apart v)
  exact h
@[simp] theorem State.trigger_time (s : State) (v : Nat) : (s.trigger v).time = s.time := by
  have h := congrArg State.time (s.trigger_apart v)
  exact h
@[simp] theorem State.trigger_good (s : State) (v : Nat) : (s.trigger v).good = s.good := by
  have h := congrArg State.good (s.trigger_apart v)
  exact h
@[simp] theorem State.trigger_streams (s : State) (v : Nat) : (s.trigger v).streams = s.streams := by
  have h := congrArg State.streams (s.trigger_apart v)
  exact h
@[simp] theorem State.trigger_dma (s : State) (v : Nat) : (s.trigger v).dma = s.dma := by
  have h := congrArg State.dma (s.trigger_apart v)
  exact h
@[simp] theorem State.trigger_nvq (s : State) (v : Nat) : (s.trigger v).nvq = s.nvq := by
  have h := congrArg State.nvq (s.trigger_apart v)
  exact h
@[simp] theorem State.trigger_cores (s : State) (v : Nat) : (s.trigger v).cores = s.cores := by
  have h := congrArg State.cores (s.trigger_apart v)
  exact h
@[simp] theorem State.trigger_keeper (s : State) (v : Nat) : (s.trigger v).keeper = s.keeper := by
  have h := congrArg State.keeper (s.trigger_apart v)
  exact h
@[simp] theorem State.trigger_tl (s : State) (v : Nat) : (s.trigger v).tl = s.tl := by
  have h := congrArg State.tl (s.trigger_apart v)
  exact h
@[simp] theorem State.trigger_disp (s : State) (v : Nat) : (s.trigger v).disp = s.disp := by
  have h := congrArg State.disp (s.trigger_apart v)
  exact h
@[simp] theorem State.trigger_lamp (s : State) (v : Nat) : (s.trigger v).lamp = s.lamp := by
  have h := congrArg State.lamp (s.trigger_apart v)
  exact h
@[simp] theorem State.trigger_tower (s : State) (v : Nat) : (s.trigger v).tower = s.tower := by
  have h := congrArg State.tower (s.trigger_apart v)
  exact h
@[simp] theorem State.trigger_clk (s : State) (v : Nat) : (s.trigger v).clk = s.clk := by
  have h := congrArg State.clk (s.trigger_apart v)
  exact h
@[simp] theorem State.trigger_tth (s : State) (v : Nat) : (s.trigger v).tth = s.tth := by
  have h := congrArg State.tth (s.trigger_apart v)
  exact h
@[simp] theorem State.trigger_cal (s : State) (v : Nat) : (s.trigger v).cal = s.cal := by
  have h := congrArg State.cal (s.trigger_apart v)
  exact h
@[simp] theorem State.trigger_trims (s : State) (v : Nat) : (s.trigger v).trims = s.trims := by
  have h := congrArg State.trims (s.trigger_apart v)
  exact h
@[simp] theorem State.trigger_flt (s : State) (v : Nat) : (s.trigger v).flt = s.flt := by
  have h := congrArg State.flt (s.trigger_apart v)
  exact h
@[simp] theorem State.trigger_lns (s : State) (v : Nat) : (s.trigger v).lns = s.lns := by
  have h := congrArg State.lns (s.trigger_apart v)
  exact h
@[simp] theorem State.trigger_specs (s : State) (v : Nat) : (s.trigger v).specs = s.specs := by
  have h := congrArg State.specs (s.trigger_apart v)
  exact h
@[simp] theorem State.trigger_sec (s : State) (v : Nat) : (s.trigger v).sec = s.sec := by
  have h := congrArg State.sec (s.trigger_apart v)
  exact h
@[simp] theorem State.trigger_ivu (s : State) (v : Nat) : (s.trigger v).ivu = s.ivu := by
  have h := congrArg State.ivu (s.trigger_apart v)
  exact h
@[simp] theorem State.trigger_glwSet (s : State) (v : Nat) : (s.trigger v).glwSet = s.glwSet := by
  have h := congrArg State.glwSet (s.trigger_apart v)
  exact h
@[simp] theorem State.trigger_glw (s : State) (v : Nat) : (s.trigger v).glw = s.glw := by
  have h := congrArg State.glw (s.trigger_apart v)
  exact h
@[simp] theorem State.trigger_cap (s : State) (v : Nat) : (s.trigger v).cap = s.cap := by
  have h := congrArg State.cap (s.trigger_apart v)
  exact h
@[simp] theorem State.trigger_amc (s : State) (v : Nat) : (s.trigger v).amc = s.amc := by
  have h := congrArg State.amc (s.trigger_apart v)
  exact h
@[simp] theorem State.trigger_pnl (s : State) (v : Nat) : (s.trigger v).pnl = s.pnl := by
  have h := congrArg State.pnl (s.trigger_apart v)
  exact h
@[simp] theorem State.trigger_gge (s : State) (v : Nat) : (s.trigger v).gge = s.gge := by
  have h := congrArg State.gge (s.trigger_apart v)
  exact h
@[simp] theorem State.trigger_log (s : State) (v : Nat) : (s.trigger v).log = s.log := by
  have h := congrArg State.log (s.trigger_apart v)
  exact h
@[simp] theorem State.trigger_lcs (s : State) (v : Nat) : (s.trigger v).lcs = s.lcs := by
  have h := congrArg State.lcs (s.trigger_apart v)
  exact h
@[simp] theorem State.trigger_bst (s : State) (v : Nat) : (s.trigger v).bst = s.bst := by
  have h := congrArg State.bst (s.trigger_apart v)
  exact h
@[simp] theorem State.trigger_rst (s : State) (v : Nat) : (s.trigger v).rst = s.rst := by
  have h := congrArg State.rst (s.trigger_apart v)
  exact h
@[simp] theorem State.trigger_free (s : State) (v : Nat) : (s.trigger v).free = s.free := by
  have h := congrArg State.free (s.trigger_apart v)
  exact h
@[simp] theorem State.trigger_pending (s : State) (v : Nat) : (s.trigger v).pending = s.pending := by
  have h := congrArg State.pending (s.trigger_apart v)
  exact h
@[simp] theorem State.raise_sram (s : State) (i : Nat) : (s.raise i).sram = s.sram := by
  have h := congrArg State.sram (s.raise_apart i)
  exact h
@[simp] theorem State.raise_amem (s : State) (i : Nat) : (s.raise i).amem = s.amem := by
  have h := congrArg State.amem (s.raise_apart i)
  exact h
@[simp] theorem State.raise_time (s : State) (i : Nat) : (s.raise i).time = s.time := by
  have h := congrArg State.time (s.raise_apart i)
  exact h
@[simp] theorem State.raise_good (s : State) (i : Nat) : (s.raise i).good = s.good := by
  have h := congrArg State.good (s.raise_apart i)
  exact h
@[simp] theorem State.raise_streams (s : State) (i : Nat) : (s.raise i).streams = s.streams := by
  have h := congrArg State.streams (s.raise_apart i)
  exact h
@[simp] theorem State.raise_dma (s : State) (i : Nat) : (s.raise i).dma = s.dma := by
  have h := congrArg State.dma (s.raise_apart i)
  exact h
@[simp] theorem State.raise_nvq (s : State) (i : Nat) : (s.raise i).nvq = s.nvq := by
  have h := congrArg State.nvq (s.raise_apart i)
  exact h
@[simp] theorem State.raise_cores (s : State) (i : Nat) : (s.raise i).cores = s.cores := by
  have h := congrArg State.cores (s.raise_apart i)
  exact h
@[simp] theorem State.raise_keeper (s : State) (i : Nat) : (s.raise i).keeper = s.keeper := by
  have h := congrArg State.keeper (s.raise_apart i)
  exact h
@[simp] theorem State.raise_tl (s : State) (i : Nat) : (s.raise i).tl = s.tl := by
  have h := congrArg State.tl (s.raise_apart i)
  exact h
@[simp] theorem State.raise_disp (s : State) (i : Nat) : (s.raise i).disp = s.disp := by
  have h := congrArg State.disp (s.raise_apart i)
  exact h
@[simp] theorem State.raise_lamp (s : State) (i : Nat) : (s.raise i).lamp = s.lamp := by
  have h := congrArg State.lamp (s.raise_apart i)
  exact h
@[simp] theorem State.raise_tower (s : State) (i : Nat) : (s.raise i).tower = s.tower := by
  have h := congrArg State.tower (s.raise_apart i)
  exact h
@[simp] theorem State.raise_clk (s : State) (i : Nat) : (s.raise i).clk = s.clk := by
  have h := congrArg State.clk (s.raise_apart i)
  exact h
@[simp] theorem State.raise_tth (s : State) (i : Nat) : (s.raise i).tth = s.tth := by
  have h := congrArg State.tth (s.raise_apart i)
  exact h
@[simp] theorem State.raise_cal (s : State) (i : Nat) : (s.raise i).cal = s.cal := by
  have h := congrArg State.cal (s.raise_apart i)
  exact h
@[simp] theorem State.raise_trims (s : State) (i : Nat) : (s.raise i).trims = s.trims := by
  have h := congrArg State.trims (s.raise_apart i)
  exact h
@[simp] theorem State.raise_flt (s : State) (i : Nat) : (s.raise i).flt = s.flt := by
  have h := congrArg State.flt (s.raise_apart i)
  exact h
@[simp] theorem State.raise_lns (s : State) (i : Nat) : (s.raise i).lns = s.lns := by
  have h := congrArg State.lns (s.raise_apart i)
  exact h
@[simp] theorem State.raise_specs (s : State) (i : Nat) : (s.raise i).specs = s.specs := by
  have h := congrArg State.specs (s.raise_apart i)
  exact h
@[simp] theorem State.raise_sec (s : State) (i : Nat) : (s.raise i).sec = s.sec := by
  have h := congrArg State.sec (s.raise_apart i)
  exact h
@[simp] theorem State.raise_ivu (s : State) (i : Nat) : (s.raise i).ivu = s.ivu := by
  have h := congrArg State.ivu (s.raise_apart i)
  exact h
@[simp] theorem State.raise_glwSet (s : State) (i : Nat) : (s.raise i).glwSet = s.glwSet := by
  have h := congrArg State.glwSet (s.raise_apart i)
  exact h
@[simp] theorem State.raise_glw (s : State) (i : Nat) : (s.raise i).glw = s.glw := by
  have h := congrArg State.glw (s.raise_apart i)
  exact h
@[simp] theorem State.raise_cap (s : State) (i : Nat) : (s.raise i).cap = s.cap := by
  have h := congrArg State.cap (s.raise_apart i)
  exact h
@[simp] theorem State.raise_amc (s : State) (i : Nat) : (s.raise i).amc = s.amc := by
  have h := congrArg State.amc (s.raise_apart i)
  exact h
@[simp] theorem State.raise_pnl (s : State) (i : Nat) : (s.raise i).pnl = s.pnl := by
  have h := congrArg State.pnl (s.raise_apart i)
  exact h
@[simp] theorem State.raise_gge (s : State) (i : Nat) : (s.raise i).gge = s.gge := by
  have h := congrArg State.gge (s.raise_apart i)
  exact h
@[simp] theorem State.raise_log (s : State) (i : Nat) : (s.raise i).log = s.log := by
  have h := congrArg State.log (s.raise_apart i)
  exact h
@[simp] theorem State.raise_lcs (s : State) (i : Nat) : (s.raise i).lcs = s.lcs := by
  have h := congrArg State.lcs (s.raise_apart i)
  exact h
@[simp] theorem State.raise_bst (s : State) (i : Nat) : (s.raise i).bst = s.bst := by
  have h := congrArg State.bst (s.raise_apart i)
  exact h
@[simp] theorem State.raise_rst (s : State) (i : Nat) : (s.raise i).rst = s.rst := by
  have h := congrArg State.rst (s.raise_apart i)
  exact h
@[simp] theorem State.raise_free (s : State) (i : Nat) : (s.raise i).free = s.free := by
  have h := congrArg State.free (s.raise_apart i)
  exact h
@[simp] theorem State.raise_pending (s : State) (i : Nat) : (s.raise i).pending = s.pending := by
  have h := congrArg State.pending (s.raise_apart i)
  exact h
@[simp] theorem State.raiseLimited_sram (s : State) (i us : Nat) : (s.raiseLimited i us).sram = s.sram := by
  have h := congrArg State.sram (s.raiseLimited_apart i us)
  exact h
@[simp] theorem State.raiseLimited_amem (s : State) (i us : Nat) : (s.raiseLimited i us).amem = s.amem := by
  have h := congrArg State.amem (s.raiseLimited_apart i us)
  exact h
@[simp] theorem State.raiseLimited_time (s : State) (i us : Nat) : (s.raiseLimited i us).time = s.time := by
  have h := congrArg State.time (s.raiseLimited_apart i us)
  exact h
@[simp] theorem State.raiseLimited_good (s : State) (i us : Nat) : (s.raiseLimited i us).good = s.good := by
  have h := congrArg State.good (s.raiseLimited_apart i us)
  exact h
@[simp] theorem State.raiseLimited_streams (s : State) (i us : Nat) : (s.raiseLimited i us).streams = s.streams := by
  have h := congrArg State.streams (s.raiseLimited_apart i us)
  exact h
@[simp] theorem State.raiseLimited_dma (s : State) (i us : Nat) : (s.raiseLimited i us).dma = s.dma := by
  have h := congrArg State.dma (s.raiseLimited_apart i us)
  exact h
@[simp] theorem State.raiseLimited_nvq (s : State) (i us : Nat) : (s.raiseLimited i us).nvq = s.nvq := by
  have h := congrArg State.nvq (s.raiseLimited_apart i us)
  exact h
@[simp] theorem State.raiseLimited_cores (s : State) (i us : Nat) : (s.raiseLimited i us).cores = s.cores := by
  have h := congrArg State.cores (s.raiseLimited_apart i us)
  exact h
@[simp] theorem State.raiseLimited_keeper (s : State) (i us : Nat) : (s.raiseLimited i us).keeper = s.keeper := by
  have h := congrArg State.keeper (s.raiseLimited_apart i us)
  exact h
@[simp] theorem State.raiseLimited_tl (s : State) (i us : Nat) : (s.raiseLimited i us).tl = s.tl := by
  have h := congrArg State.tl (s.raiseLimited_apart i us)
  exact h
@[simp] theorem State.raiseLimited_disp (s : State) (i us : Nat) : (s.raiseLimited i us).disp = s.disp := by
  have h := congrArg State.disp (s.raiseLimited_apart i us)
  exact h
@[simp] theorem State.raiseLimited_lamp (s : State) (i us : Nat) : (s.raiseLimited i us).lamp = s.lamp := by
  have h := congrArg State.lamp (s.raiseLimited_apart i us)
  exact h
@[simp] theorem State.raiseLimited_tower (s : State) (i us : Nat) : (s.raiseLimited i us).tower = s.tower := by
  have h := congrArg State.tower (s.raiseLimited_apart i us)
  exact h
@[simp] theorem State.raiseLimited_clk (s : State) (i us : Nat) : (s.raiseLimited i us).clk = s.clk := by
  have h := congrArg State.clk (s.raiseLimited_apart i us)
  exact h
@[simp] theorem State.raiseLimited_tth (s : State) (i us : Nat) : (s.raiseLimited i us).tth = s.tth := by
  have h := congrArg State.tth (s.raiseLimited_apart i us)
  exact h
@[simp] theorem State.raiseLimited_cal (s : State) (i us : Nat) : (s.raiseLimited i us).cal = s.cal := by
  have h := congrArg State.cal (s.raiseLimited_apart i us)
  exact h
@[simp] theorem State.raiseLimited_trims (s : State) (i us : Nat) : (s.raiseLimited i us).trims = s.trims := by
  have h := congrArg State.trims (s.raiseLimited_apart i us)
  exact h
@[simp] theorem State.raiseLimited_flt (s : State) (i us : Nat) : (s.raiseLimited i us).flt = s.flt := by
  have h := congrArg State.flt (s.raiseLimited_apart i us)
  exact h
@[simp] theorem State.raiseLimited_lns (s : State) (i us : Nat) : (s.raiseLimited i us).lns = s.lns := by
  have h := congrArg State.lns (s.raiseLimited_apart i us)
  exact h
@[simp] theorem State.raiseLimited_specs (s : State) (i us : Nat) : (s.raiseLimited i us).specs = s.specs := by
  have h := congrArg State.specs (s.raiseLimited_apart i us)
  exact h
@[simp] theorem State.raiseLimited_sec (s : State) (i us : Nat) : (s.raiseLimited i us).sec = s.sec := by
  have h := congrArg State.sec (s.raiseLimited_apart i us)
  exact h
@[simp] theorem State.raiseLimited_ivu (s : State) (i us : Nat) : (s.raiseLimited i us).ivu = s.ivu := by
  have h := congrArg State.ivu (s.raiseLimited_apart i us)
  exact h
@[simp] theorem State.raiseLimited_glwSet (s : State) (i us : Nat) : (s.raiseLimited i us).glwSet = s.glwSet := by
  have h := congrArg State.glwSet (s.raiseLimited_apart i us)
  exact h
@[simp] theorem State.raiseLimited_glw (s : State) (i us : Nat) : (s.raiseLimited i us).glw = s.glw := by
  have h := congrArg State.glw (s.raiseLimited_apart i us)
  exact h
@[simp] theorem State.raiseLimited_cap (s : State) (i us : Nat) : (s.raiseLimited i us).cap = s.cap := by
  have h := congrArg State.cap (s.raiseLimited_apart i us)
  exact h
@[simp] theorem State.raiseLimited_amc (s : State) (i us : Nat) : (s.raiseLimited i us).amc = s.amc := by
  have h := congrArg State.amc (s.raiseLimited_apart i us)
  exact h
@[simp] theorem State.raiseLimited_pnl (s : State) (i us : Nat) : (s.raiseLimited i us).pnl = s.pnl := by
  have h := congrArg State.pnl (s.raiseLimited_apart i us)
  exact h
@[simp] theorem State.raiseLimited_gge (s : State) (i us : Nat) : (s.raiseLimited i us).gge = s.gge := by
  have h := congrArg State.gge (s.raiseLimited_apart i us)
  exact h
@[simp] theorem State.raiseLimited_log (s : State) (i us : Nat) : (s.raiseLimited i us).log = s.log := by
  have h := congrArg State.log (s.raiseLimited_apart i us)
  exact h
@[simp] theorem State.raiseLimited_lcs (s : State) (i us : Nat) : (s.raiseLimited i us).lcs = s.lcs := by
  have h := congrArg State.lcs (s.raiseLimited_apart i us)
  exact h
@[simp] theorem State.raiseLimited_bst (s : State) (i us : Nat) : (s.raiseLimited i us).bst = s.bst := by
  have h := congrArg State.bst (s.raiseLimited_apart i us)
  exact h
@[simp] theorem State.raiseLimited_rst (s : State) (i us : Nat) : (s.raiseLimited i us).rst = s.rst := by
  have h := congrArg State.rst (s.raiseLimited_apart i us)
  exact h
@[simp] theorem State.raiseLimited_free (s : State) (i us : Nat) : (s.raiseLimited i us).free = s.free := by
  have h := congrArg State.free (s.raiseLimited_apart i us)
  exact h
@[simp] theorem State.raiseLimited_pending (s : State) (i us : Nat) : (s.raiseLimited i us).pending = s.pending := by
  have h := congrArg State.pending (s.raiseLimited_apart i us)
  exact h
@[simp] theorem State.setBRaise_sram (s : State) (x : Fld) (i : Nat) : (s.setBRaise x i).sram = s.sram := by
  have h := congrArg State.sram (s.setBRaise_apart x i)
  exact h
@[simp] theorem State.setBRaise_amem (s : State) (x : Fld) (i : Nat) : (s.setBRaise x i).amem = s.amem := by
  have h := congrArg State.amem (s.setBRaise_apart x i)
  exact h
@[simp] theorem State.setBRaise_time (s : State) (x : Fld) (i : Nat) : (s.setBRaise x i).time = s.time := by
  have h := congrArg State.time (s.setBRaise_apart x i)
  exact h
@[simp] theorem State.setBRaise_good (s : State) (x : Fld) (i : Nat) : (s.setBRaise x i).good = s.good := by
  have h := congrArg State.good (s.setBRaise_apart x i)
  exact h
@[simp] theorem State.setBRaise_streams (s : State) (x : Fld) (i : Nat) : (s.setBRaise x i).streams = s.streams := by
  have h := congrArg State.streams (s.setBRaise_apart x i)
  exact h
@[simp] theorem State.setBRaise_dma (s : State) (x : Fld) (i : Nat) : (s.setBRaise x i).dma = s.dma := by
  have h := congrArg State.dma (s.setBRaise_apart x i)
  exact h
@[simp] theorem State.setBRaise_nvq (s : State) (x : Fld) (i : Nat) : (s.setBRaise x i).nvq = s.nvq := by
  have h := congrArg State.nvq (s.setBRaise_apart x i)
  exact h
@[simp] theorem State.setBRaise_cores (s : State) (x : Fld) (i : Nat) : (s.setBRaise x i).cores = s.cores := by
  have h := congrArg State.cores (s.setBRaise_apart x i)
  exact h
@[simp] theorem State.setBRaise_keeper (s : State) (x : Fld) (i : Nat) : (s.setBRaise x i).keeper = s.keeper := by
  have h := congrArg State.keeper (s.setBRaise_apart x i)
  exact h
@[simp] theorem State.setBRaise_tl (s : State) (x : Fld) (i : Nat) : (s.setBRaise x i).tl = s.tl := by
  have h := congrArg State.tl (s.setBRaise_apart x i)
  exact h
@[simp] theorem State.setBRaise_disp (s : State) (x : Fld) (i : Nat) : (s.setBRaise x i).disp = s.disp := by
  have h := congrArg State.disp (s.setBRaise_apart x i)
  exact h
@[simp] theorem State.setBRaise_lamp (s : State) (x : Fld) (i : Nat) : (s.setBRaise x i).lamp = s.lamp := by
  have h := congrArg State.lamp (s.setBRaise_apart x i)
  exact h
@[simp] theorem State.setBRaise_tower (s : State) (x : Fld) (i : Nat) : (s.setBRaise x i).tower = s.tower := by
  have h := congrArg State.tower (s.setBRaise_apart x i)
  exact h
@[simp] theorem State.setBRaise_clk (s : State) (x : Fld) (i : Nat) : (s.setBRaise x i).clk = s.clk := by
  have h := congrArg State.clk (s.setBRaise_apart x i)
  exact h
@[simp] theorem State.setBRaise_tth (s : State) (x : Fld) (i : Nat) : (s.setBRaise x i).tth = s.tth := by
  have h := congrArg State.tth (s.setBRaise_apart x i)
  exact h
@[simp] theorem State.setBRaise_cal (s : State) (x : Fld) (i : Nat) : (s.setBRaise x i).cal = s.cal := by
  have h := congrArg State.cal (s.setBRaise_apart x i)
  exact h
@[simp] theorem State.setBRaise_trims (s : State) (x : Fld) (i : Nat) : (s.setBRaise x i).trims = s.trims := by
  have h := congrArg State.trims (s.setBRaise_apart x i)
  exact h
@[simp] theorem State.setBRaise_flt (s : State) (x : Fld) (i : Nat) : (s.setBRaise x i).flt = s.flt := by
  have h := congrArg State.flt (s.setBRaise_apart x i)
  exact h
@[simp] theorem State.setBRaise_lns (s : State) (x : Fld) (i : Nat) : (s.setBRaise x i).lns = s.lns := by
  have h := congrArg State.lns (s.setBRaise_apart x i)
  exact h
@[simp] theorem State.setBRaise_specs (s : State) (x : Fld) (i : Nat) : (s.setBRaise x i).specs = s.specs := by
  have h := congrArg State.specs (s.setBRaise_apart x i)
  exact h
@[simp] theorem State.setBRaise_sec (s : State) (x : Fld) (i : Nat) : (s.setBRaise x i).sec = s.sec := by
  have h := congrArg State.sec (s.setBRaise_apart x i)
  exact h
@[simp] theorem State.setBRaise_ivu (s : State) (x : Fld) (i : Nat) : (s.setBRaise x i).ivu = s.ivu := by
  have h := congrArg State.ivu (s.setBRaise_apart x i)
  exact h
@[simp] theorem State.setBRaise_glwSet (s : State) (x : Fld) (i : Nat) : (s.setBRaise x i).glwSet = s.glwSet := by
  have h := congrArg State.glwSet (s.setBRaise_apart x i)
  exact h
@[simp] theorem State.setBRaise_glw (s : State) (x : Fld) (i : Nat) : (s.setBRaise x i).glw = s.glw := by
  have h := congrArg State.glw (s.setBRaise_apart x i)
  exact h
@[simp] theorem State.setBRaise_cap (s : State) (x : Fld) (i : Nat) : (s.setBRaise x i).cap = s.cap := by
  have h := congrArg State.cap (s.setBRaise_apart x i)
  exact h
@[simp] theorem State.setBRaise_amc (s : State) (x : Fld) (i : Nat) : (s.setBRaise x i).amc = s.amc := by
  have h := congrArg State.amc (s.setBRaise_apart x i)
  exact h
@[simp] theorem State.setBRaise_pnl (s : State) (x : Fld) (i : Nat) : (s.setBRaise x i).pnl = s.pnl := by
  have h := congrArg State.pnl (s.setBRaise_apart x i)
  exact h
@[simp] theorem State.setBRaise_gge (s : State) (x : Fld) (i : Nat) : (s.setBRaise x i).gge = s.gge := by
  have h := congrArg State.gge (s.setBRaise_apart x i)
  exact h
@[simp] theorem State.setBRaise_log (s : State) (x : Fld) (i : Nat) : (s.setBRaise x i).log = s.log := by
  have h := congrArg State.log (s.setBRaise_apart x i)
  exact h
@[simp] theorem State.setBRaise_lcs (s : State) (x : Fld) (i : Nat) : (s.setBRaise x i).lcs = s.lcs := by
  have h := congrArg State.lcs (s.setBRaise_apart x i)
  exact h
@[simp] theorem State.setBRaise_bst (s : State) (x : Fld) (i : Nat) : (s.setBRaise x i).bst = s.bst := by
  have h := congrArg State.bst (s.setBRaise_apart x i)
  exact h
@[simp] theorem State.setBRaise_rst (s : State) (x : Fld) (i : Nat) : (s.setBRaise x i).rst = s.rst := by
  have h := congrArg State.rst (s.setBRaise_apart x i)
  exact h
@[simp] theorem State.setBRaise_free (s : State) (x : Fld) (i : Nat) : (s.setBRaise x i).free = s.free := by
  have h := congrArg State.free (s.setBRaise_apart x i)
  exact h
@[simp] theorem State.setBRaise_pending (s : State) (x : Fld) (i : Nat) : (s.setBRaise x i).pending = s.pending := by
  have h := congrArg State.pending (s.setBRaise_apart x i)
  exact h

/-! ### Registers -/

theorem State.reg_of_regs (s t : State) (h : s.regs = t.regs) (a : Nat) : s.reg a = t.reg a := by
  unfold State.reg; rw [h]

@[simp] theorem State.updFault_regs (s : State) : s.updFault.regs = s.regs := by
  unfold State.updFault; dsimp only; split <;> rfl

theorem State.updFault_reg (s : State) (a : Nat) : s.updFault.reg a = s.reg a := State.reg_of_regs _ _ s.updFault_regs a

theorem State.msixSend_reg (s : State) (v a : Nat) (hv : v < 64) (h : evtOwned a = false) : (s.msixSend v).reg a = s.reg a := by
  simp only [evtOwned, Bool.or_eq_false_iff, decide_eq_false_iff_not] at h
  have ha : a ≠ (pbaBit v).addr := by
    simp only [pbaBit, F.MSIX_PBA_w_PBA]
    omega
  unfold State.msixSend
  split
  · rfl
  · split
    · exact State.reg_setB_ne _ _ _ _ ha
    · exact State.reg_setB_ne _ _ _ _ ha

theorem State.trigger_reg (s : State) (v a : Nat) (hv : v < 64) (h : evtOwned a = false) : (s.trigger v).reg a = s.reg a := by
  unfold State.trigger
  split
  · rfl
  · split
    · rfl
    · split
      · refine State.reg_setB_ne _ _ _ _ ?_
        simp only [evtOwned, Bool.or_eq_false_iff, decide_eq_false_iff_not] at h
        simp only [F.EVT_VEC_v_DEFERRED]
        omega
      · exact State.msixSend_reg _ _ _ hv h

theorem State.evtCount_reg (s : State) (i a : Nat) (h : evtOwned a = false) : (s.evtCount i).1.reg a = s.reg a := by
  simp only [evtOwned, Bool.or_eq_false_iff, decide_eq_false_iff_not] at h
  have h1 : a ≠ (F.EVT_CNT_i_COUNT i).addr := by simp only [F.EVT_CNT_i_COUNT]; omega
  have h2 : a ≠ (evtSat i).addr := by simp only [evtSat, F.EVT_SAT_w_SAT]; omega
  unfold State.evtCount
  dsimp only
  split
  · rfl
  · split
    · rw [State.reg_setB_ne _ _ _ _ h2, State.reg_setF_ne _ _ _ _ h1]
    · exact State.reg_setF_ne _ _ _ _ h1

theorem State.f_lt (s : State) (x : Fld) : s.f x < 2 ^ x.width := Nat.mod_lt _ (Nat.two_pow_pos _)

theorem State.evtRoute_reg (s : State) (i a : Nat) (h : evtOwned a = false) : (s.evtRoute i).reg a = s.reg a := by
  have h1 : a ≠ (evtPend i).addr := by
    simp only [evtOwned, Bool.or_eq_false_iff, decide_eq_false_iff_not] at h
    simp only [evtPend, F.EVT_PEND_w_PEND]; omega
  have h2 : a ≠ F.EVT_FAULT_ACTIVE.addr := by
    simp only [evtOwned, Bool.or_eq_false_iff, decide_eq_false_iff_not] at h
    simp only [F.EVT_FAULT_ACTIVE]; omega
  unfold State.evtRoute
  dsimp only
  generalize hs : s.setB (evtPend i) true = s1
  have e1 : s1.reg a = s.reg a := by rw [← hs]; exact State.reg_setB_ne _ _ _ _ h1
  generalize ht : (if (!s.on (evtPend i) && s1.on (F.EVT_ROUTE_i_MSIX_EN i)) = true then
    s1.trigger (s1.f (F.EVT_ROUTE_i_VECTOR i)) else s1) = s2
  have e2 : s2.reg a = s.reg a := by
    rw [← ht]
    split
    · rw [State.trigger_reg _ _ _ (s1.f_lt (F.EVT_ROUTE_i_VECTOR i)) h, e1]
    · exact e1
  generalize hu : (if s2.on (F.EVT_ROUTE_i_FAULT_EN i) = true then (s2.setB F.EVT_FAULT_ACTIVE true).updFault else s2) = s3
  have e3 : s3.reg a = s.reg a := by
    rw [← hu]
    split
    · rw [State.updFault_reg, State.reg_setB_ne _ _ _ _ h2, e2]
    · exact e2
  split
  · exact e3
  · exact e3

/-- An event leaves every register outside EVT and the PBA. -/
theorem State.raise_reg (s : State) (i a : Nat) (h : evtOwned a = false) : (s.raise i).reg a = s.reg a := by
  unfold State.raise
  dsimp only
  (repeat' split) <;> simp only [State.evtRoute_reg _ _ _ h, State.evtCount_reg _ _ _ h]

theorem State.raiseLimited_reg (s : State) (i us a : Nat) (h : evtOwned a = false) : (s.raiseLimited i us).reg a = s.reg a := by
  unfold State.raiseLimited
  split
  · exact State.raise_reg _ _ _ h
  · rfl

theorem State.setBRaise_reg (s : State) (x : Fld) (i a : Nat) (h : evtOwned a = false) (ha : a ≠ x.addr) :
    (s.setBRaise x i).reg a = s.reg a := by
  unfold State.setBRaise
  split
  · rfl
  · rw [State.raise_reg _ _ _ h, State.reg_setB_ne _ _ _ _ ha]

/-- An event leaves every field of a register outside EVT and the PBA. -/
theorem State.raise_f (s : State) (i : Nat) (x : Fld) (h : evtOwned x.addr = false) : (s.raise i).f x = s.f x := by
  unfold State.f; rw [State.raise_reg _ _ _ h]

theorem State.raise_on (s : State) (i : Nat) (x : Fld) (h : evtOwned x.addr = false) : (s.raise i).on x = s.on x := by
  unfold State.on; rw [State.raise_f _ _ _ h]

/-- The bit that a one-bit field with an event sets is set. -/
theorem State.setBRaise_on (s : State) (x : Fld) (i : Nat) (h : evtOwned x.addr = false) (hl : x.lo + 1 ≤ 32) (hw : x.width = 1) :
    (s.setBRaise x i).on x = true := by
  unfold State.setBRaise
  split
  · assumption
  · rw [State.raise_on _ _ _ h, State.on_setB_self _ _ _ hl hw]

/-! ### The canonical form -/

theorem State.regsWf_updFault (s : State) (h : Regs.wf s.regs = true) : Regs.wf s.updFault.regs = true := by simpa using h

theorem State.regsWf_setB (s : State) (x : Fld) (b : Bool) (h : Regs.wf s.regs = true) : Regs.wf (s.setB x b).regs = true :=
  State.regsWf_setReg _ _ _ h

theorem State.regsWf_msixSend (s : State) (v : Nat) (h : Regs.wf s.regs = true) : Regs.wf (s.msixSend v).regs = true := by
  unfold State.msixSend
  split
  · exact h
  · split
    · exact State.regsWf_setB _ _ _ h
    · exact State.regsWf_setB _ _ _ h

theorem State.regsWf_trigger (s : State) (v : Nat) (h : Regs.wf s.regs = true) : Regs.wf (s.trigger v).regs = true := by
  unfold State.trigger
  split
  · exact h
  · split
    · exact h
    · split
      · exact State.regsWf_setB _ _ _ h
      · exact State.regsWf_msixSend _ _ h

theorem State.regsWf_evtCount (s : State) (i : Nat) (h : Regs.wf s.regs = true) : Regs.wf (s.evtCount i).1.regs = true := by
  unfold State.evtCount
  dsimp only
  split
  · exact h
  · split
    · exact State.regsWf_setB _ _ _ (State.regsWf_setReg _ _ _ h)
    · exact State.regsWf_setReg _ _ _ h

theorem State.regsWf_evtRoute (s : State) (i : Nat) (h : Regs.wf s.regs = true) : Regs.wf (s.evtRoute i).regs = true := by
  unfold State.evtRoute
  dsimp only
  have h1 := State.regsWf_setB s (evtPend i) true h
  generalize s.setB (evtPend i) true = s1 at h1
  generalize hb : (!s.on (evtPend i) && s1.on (F.EVT_ROUTE_i_MSIX_EN i)) = b
  cases b
  · simp only [if_false, Bool.false_eq_true]
    (repeat' split) <;> first | exact h1 | (rw [State.updFault_regs]; exact State.regsWf_setB _ _ _ h1)
  · simp only [if_true]
    have h2 := State.regsWf_trigger s1 (s1.f (F.EVT_ROUTE_i_VECTOR i)) h1
    generalize s1.trigger (s1.f (F.EVT_ROUTE_i_VECTOR i)) = s2 at h2
    (repeat' split) <;> first | exact h2 | (rw [State.updFault_regs]; exact State.regsWf_setB _ _ _ h2)

/-- An event keeps the canonical form. -/
theorem State.regsWf_raise (s : State) (i : Nat) (h : Regs.wf s.regs = true) : Regs.wf (s.raise i).regs = true := by
  unfold State.raise
  dsimp only
  (repeat' split) <;> first
    | exact h
    | exact State.regsWf_evtRoute _ _ (State.regsWf_evtCount _ _ h)
    | exact State.regsWf_evtRoute _ _ (State.regsWf_evtCount _ _ (State.regsWf_evtRoute _ _ (State.regsWf_evtCount _ _ h)))
    | exact State.regsWf_evtRoute _ _ (State.regsWf_evtRoute _ _ (State.regsWf_evtCount _ _
        (State.regsWf_evtRoute _ _ (State.regsWf_evtCount _ _ h))))

end Sys2Proof.Machine
end

