-- ==== Sys2Proof/WellFormed.lean ====
section
/-! DEFINITION. What a command's operands have to meet beyond their types: facts of the spec about what comes from outside the
block (lengths of blocks and tables, one DIMM per channel, the words that stand for no instruction). -/

namespace Sys2Proof

/-- No channel is named twice. -/
def chansOk : List (Fin 8) → Bool
  | [] => true
  | c :: cs => !cs.contains c && chansOk cs

/-- Is a command well-formed? -/
def Instr.wf : Instr → Bool
  | .registerWrite _ _ _ => true
  | .mirrorWrite _ _ => true
  | .domainClockGood _ => true
  | .clkNotReady _ => true
  | .tickWrap => true
  | .anchorCommit => true
  | .anchorRecordsEmitted => true
  | .rangeSyncEdge _ _ => true
  | .syncDeferred => true
  | .syncOutPulseEnd => true
  | .rangeArm => true
  | .rangeDisarm => true
  | .rangeLoadWrite _ => true
  | .queueEntryWrite _ => true
  | .qrdWrite _ _ _ => true
  | .post _ _ => true
  | .postCopied _ => true
  | .beaconFault _ _ _ => true
  | .beaconHang _ => true
  | .beaconRestart _ => true
  | .bcnRun _ => true
  | .bcnHalt _ => true
  | .bcnWdogWrite _ _ => true
  | .queueCfgWrite _ _ _ _ => true
  | .keeperTrap _ _ => true
  | .kprWdtExpire => true
  | .wdtCtrlWrite _ => true
  | .wdtKick _ => true
  | .kprHalt => true
  | .kprResume => true
  | .kprRestart => true
  | .keeperRestartDone => true
  | .mboxDbRing => true
  | .mboxOut7Write _ => true
  | .loadGo _ => true
  | .imageLoadDone _ => true
  | .illegalInstruction core word second => (Machine.decodeCore core word second ⟨[], false, .done, true⟩).isNone
  | .nop _ => true
  | .add _ _ _ _ _ => true
  | .sub _ _ _ _ _ => true
  | .mul _ _ _ _ _ => true
  | .mulh _ _ _ _ => true
  | .and _ _ _ _ => true
  | .or _ _ _ _ => true
  | .xor _ _ _ _ => true
  | .sll _ _ _ _ _ => true
  | .srl _ _ _ _ => true
  | .sra _ _ _ _ => true
  | .slt _ _ _ _ => true
  | .sltu _ _ _ _ => true
  | .min _ _ _ _ => true
  | .max _ _ _ _ => true
  | .abs _ _ _ _ => true
  | .addi _ _ _ _ _ => true
  | .andi _ _ _ _ => true
  | .ori _ _ _ _ => true
  | .xori _ _ _ _ => true
  | .slli _ _ _ _ _ => true
  | .srli _ _ _ _ => true
  | .srai _ _ _ _ => true
  | .slti _ _ _ _ => true
  | .lui _ _ _ => true
  | .lli _ _ _ => true
  | .beq _ _ _ _ => true
  | .bne _ _ _ _ => true
  | .blt _ _ _ _ => true
  | .bge _ _ _ _ => true
  | .bltu _ _ _ _ => true
  | .bgeu _ _ _ _ => true
  | .jmp _ _ => true
  | .jal _ _ => true
  | .jr _ _ => true
  | .jalr _ _ _ => true
  | .loop _ _ _ => true
  | .loopi _ _ _ => true
  | .loopBackEdge _ => true
  | .movs _ _ _ => true
  | .movsi _ _ _ => true
  | .fence _ => true
  | .brk _ => true
  | .rett _ => true
  | .amod _ _ _ => true
  | .waitq _ _ _ => true
  | .waitqWake _ => true
  | .signal _ _ => true
  | .vmov _ _ _ _ => true
  | .vadd _ _ _ _ _ _ => true
  | .vsub _ _ _ _ _ _ => true
  | .vmulq _ _ _ _ _ _ => true
  | .vmin _ _ _ _ _ => true
  | .vmax _ _ _ _ _ => true
  | .vabs _ _ _ _ _ => true
  | .vneg _ _ _ _ _ => true
  | .vand _ _ _ _ _ => true
  | .vor _ _ _ _ _ => true
  | .vxor _ _ _ _ _ => true
  | .vshl _ _ _ _ _ _ => true
  | .vsra _ _ _ _ _ => true
  | .vsrl _ _ _ _ _ => true
  | .vconj _ _ _ _ _ => true
  | .vmag2 _ _ _ _ _ => true
  | .vfma _ _ _ _ _ _ => true
  | .vcvt _ _ _ _ _ _ _ => true
  | .vperm _ _ _ _ _ => true
  | .valn _ _ _ _ _ _ => true
  | .vget _ _ _ _ _ => true
  | .vput _ _ _ _ _ => true
  | .vhmax _ _ _ _ => true
  | .vmac _ _ _ _ _ _ _ _ => true
  | .vmacp _ _ _ _ _ _ _ => true
  | .vpmac _ _ _ _ _ _ _ _ => true
  | .vpmsc _ _ _ _ _ _ _ _ => true
  | .vcmac _ _ _ _ _ _ _ _ => true
  | .vcmacj _ _ _ _ _ _ _ _ => true
  | .vcmacp _ _ _ _ _ _ _ => true
  | .vcmacpj _ _ _ _ _ _ _ => true
  | .vrnd _ _ _ _ _ _ => true
  | .vrndw _ _ _ _ _ _ _ => true
  | .vamov _ _ _ _ _ => true
  | .vaclr _ _ _ => true
  | .ld _ _ _ _ _ => true
  | .st _ _ _ _ _ _ => true
  | .vld _ _ _ _ _ => true
  | .vst _ _ _ _ _ => true
  | .vldb _ _ _ _ _ => true
  | .vld2 _ _ _ _ _ _ _ => true
  | .vldst _ _ _ _ _ _ _ => true
  | .vstld _ _ _ _ _ _ _ => true
  | .vst2 _ _ _ _ _ _ _ => true
  | .li _ _ _ => true
  | .tlAt _ _ _ => true
  | .tlAtd _ _ => true
  | .tlSet _ _ _ _ _ => true
  | .tlSetr _ _ _ _ _ => true
  | .tlLoad _ _ _ _ _ => true
  | .tlStallEnd => true
  | .tlLoadCopyDone => true
  | .tlFlush _ => true
  | .atten _ _ => true
  | .preamp _ _ => true
  | .ftThr _ _ => true
  | .ftCtrl _ _ _ _ => true
  | .ncoFreq _ _ => true
  | .ncoPhase _ _ => true
  | .decK _ _ => true
  | .spanMode _ _ => true
  | .rankCtrl _ _ => true
  | .thrHigh _ _ => true
  | .thrLow _ _ => true
  | .outCtrl _ _ => true
  | .enable _ _ => true
  | .fftLog2n _ _ => true
  | .window _ _ => true
  | .kaiserBeta _ _ => true
  | .hopDiv _ _ => true
  | .detMode _ _ => true
  | .detCount _ _ => true
  | .binFirst _ _ => true
  | .binLast _ _ => true
  | .format _ _ => true
  | .userWindow _ _ => true
  | .maskCtrl _ => true
  | .mask _ => true
  | .progCtrl _ => true
  | .prog _ => true
  | .holdoff _ => true
  | .auto _ => true
  | .pre _ => true
  | .sectorPost _ => true
  | .segRing _ => true
  | .arm _ => true
  | .disarm _ => true
  | .geom _ _ => true
  | .integ _ => true
  | .persist _ => true
  | .snapCtrl _ => true
  | .lut _ => true
  | .startSrc _ => true
  | .stopMask _ => true
  | .gateCtrl _ => true
  | .statN _ => true
  | .calCtrl _ => true
  | .cap _ _ => true
  | .ring _ _ => true
  | .streamEn _ _ => true
  | .mark _ => true
  | .freeze _ => true
  | .rotate _ => true
  | .swapSched _ => true
  | .scanMask _ => true
  | .urgent _ => true
  | .bind _ => true
  | .cpage _ => true
  | .resyncV _ => true
  | .resync _ => true
  | .syncOut _ _ => true
  | .trigoutSrc _ _ => true
  | .xtrigCtrl _ => true
  | .frontEndStepEnd _ => true
  | .thresholdHoldEnd _ _ => true
  | .comparatorTransition _ _ _ _ => true
  | .ovrFire _ _ => true
  | .tripFire _ _ => true
  | .ovrMarkEnd _ => true
  | .overloadEpisodeEnd _ => true
  | .lampEntryArrive _ => true
  | .peakClear _ => true
  | .trigoutPulseStart _ _ => true
  | .trigoutPulseEnd _ => true
  | .swapGridPoint _ _ => true
  | .deferredSwapPerform _ => true
  | .referenceWindowEnd _ => true
  | .checkWindowStart _ => true
  | .checkWindowEnd _ _ _ _ _ => true
  | .factoryTrimReadDone data => data.length = 144
  | .userTrimReadDone _ => true
  | .trimSetApplied _ => true
  | .refinWindowEnd _ _ _ => true
  | .holdoverLock _ => true
  | .backupClockLock => true
  | .clkStart => true
  | .towerSynthLock => true
  | .refNomWrite _ => true
  | .scApply _ => true
  | .scRetune _ => true
  | .scLock _ => true
  | .scLoss _ => true
  | .sclkInLoss _ => true
  | .towerClkLoss => true
  | .memClkLoss => true
  | .memClkRelock => true
  | .panelClkLoss => true
  | .panelClkRelock => true
  | .aclkLoss => true
  | .spreadWrite _ _ => true
  | .spreadChange _ => true
  | .forwardFrame _ pairs => decide (pairs.length ≤ 17) && pairs.all fun p => p.1.length = 64 && p.2.length = 64
  | .laneSwitch _ => true
  | .clockLaneFail => true
  | .returnFrame _ => true
  | .returnResend => true
  | .returnLinkTimeout => true
  | .retrain => true
  | .trainingPhaseDone _ _ => true
  | .filterOutput _ codes => !codes.isEmpty
  | .lensFrame _ => true
  | .maxExpClear _ => true
  | .sectorEvent => true
  | .sectorLabel _ => true
  | .stepTimeout _ => true
  | .autoTrigger => true
  | .segmentEnd => true
  | .xtrigEdge _ => true
  | .xtrigPulseStart _ => true
  | .xtrigPulseEnd => true
  | .trigInEdge _ _ _ _ => true
  | .coarseOverflow => true
  | .gateOpen _ => true
  | .gateClose _ => true
  | .twoPeriodCalibration _ one two => one.length = 4 && two.length = 4
  | .codeDensityTable _ hits => hits.foldl (· + ·) 0 = 2 ^ 20
  | .roleChange _ => true
  | .glowUpdate _ => true
  | .snapshotComplete _ => true
  | .amcApply _ dimms => chansOk (dimms.map (·.ch))
  | .initialTrainingDone => true
  | .dimmTempCheck temps => chansOk (temps.map (·.1))
  | .tempRetrain => true
  | .fullRetrainDone => true
  | .alertN _ => true
  | .correctableError _ => true
  | .uncorrectableError _ _ => true
  | .slotFrame _ => true
  | .captureFifoIntake => true
  | .fifoIntakeResume => true
  | .captureWrite => true
  | .selfRefreshEnter => true
  | .selfRefreshExit => true
  | .selfRefreshExitDone => true
  | .bar5Access _ len data => data.all fun d => d.length = len
  | .fifoPeakClear => true
  | .linkUp _ _ => true
  | .hotReset => true
  | .dmaStart _ _ => true
  | .descriptorFinish _ _ _ _ => true
  | .dmaResume _ _ => true
  | .dmaFlush _ _ => true
  | .dmaStopForced _ _ _ => true
  | .recordRelease _ => true
  | .producerUpdate _ => true
  | .streamAdmit _ => true
  | .streamRelease _ => true
  | .consumerWrite _ _ => true
  | .streamCfgWrite _ _ _ => true
  | .nvqCfgWrite _ _ _ => true
  | .nvqKick => true
  | .completionPoll => true
  | .nvmeCompletion _ _ _ => true
  | .nvmeTimeout _ => true
  | .stripeWrite _ => true
  | .stripePartialTimeout _ => true
  | .bar4Read _ => true
  | .tagsPeakClear => true
  | .d3hot _ => true
  | .panelEnable _ => true
  | .panelDisable _ => true
  | .panelLinkUp => true
  | .panelCfgWrite _ _ => true
  | .full _ => true
  | .dcsSend _ => true
  | .teEdge _ => true
  | .frameTimer _ => true
  | .teLost => true
  | .commitGo => true
  | .commitHost => true
  | .hostRowRead _ => true
  | .pushDone => true
  | .conversionDone _ => true
  | .urgentRequest _ => true
  | .snapLatch _ => true
  | .snapClear _ => true
  | .testCtrlWrite _ => true
  | .operatingSecond => true
  | .logCommit => true
  | .pwrWarnFall => true
  | .slotWriteDone _ => true
  | .eraseSectorDone => true
  | .logbookLoadDone _ => true
  | .cursorWrite _ => true
  | .windowCopyDone => true
  | .logClear => true
  | .clearCheckDone => true
  | .identityRead => true
  | .temperatureRead => true
  | .stateRead => true
  | .causeRead => true
  | .smbusCursorSet _ => true
  | .smbusBlockRead => true
  | .seqLowRead => true
  | .seqHighRead => true
  | .powerOnReset => true
  | .resetN => true
  | .resetNRise _ _ => true
  | .perstN => true
  | .perstNRise => true
  | .releaseStepDone _ _ _ _ _ => true
  | .thermalTrip _ => true
  | .thermalClear => true
  | .rstBlockReq _ => true
  | .blockIdle _ => true
  | .quiesceTimeout _ => true
  | .blockResetElapsed _ => true
  | .blockClockGood _ => true
  | .blockClockTimeout _ => true
  | .powerRequest _ => true
  | .powerTransitionDone => true
  | .standbyDrainTimeout => true
  | .acquisitionStop _ => true
  | .acquisitionResume _ => true
  | .wake _ => true
  | .provision _ => true
  | .programSlot _ => true
  | .secure _ => true
  | .revokeSlot _ => true
  | .returnLcs _ => true
  | .scrap _ => true
  | .raiseSvn _ => true
  | .transitionResume => true
  | .trngFail => true
  | .idReady => true
  | .extend => true
  | .attest => true
  | .reportBuilt => true
  | .bypass => true
  | .idcode => true
  | .samplePreload => true
  | .extest => true
  | .extestPulse => true
  | .extestTrain => true
  | .clamp => true
  | .highz => true
  | .intscan => true
  | .repair => true
  | .bstGo _ => true
  | .bstTestEnd _ _ => true
  | .bstAbort _ => true
  | .fuseSram _ => true
  | .fuseTether _ => true
  | .repairBurnDone _ => true
  | .patrolSlice => true
  | .patrolSliceDone _ _ _ _ => true
  | .swEvent _ => true
  | .gpioEdge _ => true
  | .eventOccurrence _ => true
  | .pendClear _ _ => true
  | .clrCnt => true
  | .cntClear _ => true
  | .minGapExpiry _ => true
  | .msixUnmask _ => true
  | .msixEnable _ _ => true
  | .gpioPulseEnd _ => true
  | .registerRead _ _ => true
  | .bar2Write _ offset data => decide (offset.toNat + data.length ≤ 2 ^ 26)
  | .returnToD0 => true
  | .pwrWarnRise => true

end Sys2Proof
end

