-- ==== Sys2Proof/Tests/Slice0.lean ====
section
/-! SUPPORT. The model's own tests: ill-formed commands are refused by name of their check, words written out from the spec's
encodings decode to their instructions, single commands on small states, and a witness for every statement with hypotheses. -/

set_option Elab.async false

namespace Sys2Proof.Tests
open Sys2Proof Machine

/-! ### Small states -/

/-- The part released, in ACTIVE, with every clock good and every block out of reset. -/
def up : State :=
  { State.reset with
    pins := { State.reset.pins with por := false, resetN := true, perstN := true }
    good := ⟨true, true, true, true, true, true, true⟩
    rst := { State.reset.rst with steps := [1, 2, 3, 4, 5, 6, 7] } }

/-- `up` with Beacon core 0 and the Keeper running, all clocks shown locked, REFIN present and the Tether up. -/
def run : State :=
  (((((((up.setF (bcnState 0) 1).setF F.KPR_STATUS_STATE 1).setB F.CLK_STATUS_REF_PRESENT true).setB F.CLK_STATUS_SC_LOCKED
    true).setB F.CLK_STATUS_TOWER_LOCKED true).setF F.CLK_SC_STATUS_STATE 2).setB F.TTH_STATUS_FWD_UP true).setB
    F.TTH_STATUS_RET_UP true

/-- `s` with one entry waiting in the queue of unit `u`; its load, if it has one, is copied. -/
def withEntry (s : State) (u : Fin 15) (e : Entry) (tab : List Byte) : State :=
  { s with tl := { s.tl with queues := s.tl.queues.set u [e]
                             loads := if e.table.isSome then [⟨0, u.val, e.sel, 0, tab.length, true, tab⟩] else [] } }

/-- An entry with target 0 that waits at its unit. -/
def entry (sel : Nat) (opnd : Word) (load : Bool := false) : Entry :=
  ⟨sel, opnd, if load then some 0 else none, 0, false, .stored, 0, false⟩

/-- What `TakesHere` asks, as a computation. -/
def takesB (s : State) (u : Fin 15) (sel : Nat → Bool) (at_ : Long) (e : Entry) (tab : List Byte) (stage : Nat := 0) : Bool :=
  decide (s.nextEntry u stage = some ([], e, [])) && s.takesEntry u sel at_ e && s.loaded e &&
  decide (tab = (match s.loadOf e with
    | some l => l.shadow
    | none => [])) && (!e.table.isSome || decide (tab.length ≤ tableSize u e.sel)) &&
  decide (e.table.isSome = true ↔ 0x10000 ≤ e.sel)

/-- The state an entry acts on. -/
def after (s : State) (u : Fin 15) (e : Entry) : State := (s.finishEntry u [] e []).dropLoad e

theorem takes_of (s : State) (u : Fin 15) (sel : Nat → Bool) (at_ : Long) (e : Entry) (tab : List Byte) (stage : Nat)
    (h : takesB s u sel at_ e tab stage = true) : TakesHere s u sel at_ e tab (after s u e) stage := by
  simp only [takesB, Bool.and_eq_true, decide_eq_true_eq, Bool.not_eq_true', Bool.or_eq_true] at h
  obtain ⟨⟨⟨⟨⟨h1, h2⟩, h3⟩, h4⟩, h5⟩, h6⟩ := h
  refine ⟨[], [], h1, h2, h3, h4, fun hs => ?_, h6, rfl⟩
  rcases h5 with h5 | h5
  · rw [hs] at h5; cases h5
  · exact h5

/-- The converter of a state where no reset waits is at label 0 already. -/
theorem advanceTo_zero (s : State) (h : s.time.waiting = []) : s.advanceTo 0 = s := by
  simp [State.advanceTo, State.advanceToBy, h]

/-- An entry of unit `u` with `opnd` is taken at label 0, and `good` holds of it. -/
def Taken (s : State) (u : Fin 15) (sel : Nat → Bool) (stage : Nat) (good : Entry → List Byte → State → Prop) : Prop :=
  ∃ e tab s2, TakesHere s u sel 0 e tab s2 stage ∧ good e tab s2

/-- Does the outcome go on to a state of which `p` holds? -/
def did (o : Host.Outcome State Fault Refusal) (p : State → Bool) : Bool :=
  match o with
  | .next t => p t
  | _ => false

/-- `run` with g1 of core 0 the largest number and g2 one. -/
def big : State := run.modCore 0 fun k => { k with g := (k.g.set 1 0x7FFFFFFF).set 2 1 }

/-! ### Ill-formed commands -/

theorem test_wf_illegalInstruction : (Instr.illegalInstruction 0 0x08000000#32 0).wf = false ∧
    (Instr.illegalInstruction 0 0x80000000#32 0).wf = false := by decide
theorem test_wf_factoryTrimReadDone : (Instr.factoryTrimReadDone [0, 0]).wf = false := by decide
theorem test_wf_forwardFrame : (Instr.forwardFrame ⟨[], []⟩ [([], [])]).wf = false := by decide
theorem test_wf_filterOutput : (Instr.filterOutput 0 []).wf = false := by decide
theorem test_wf_twoPeriodCalibration : (Instr.twoPeriodCalibration 0 [1] [1, 2, 3, 4]).wf = false := by decide
theorem test_wf_codeDensityTable : (Instr.codeDensityTable 0 [7]).wf = false := by decide
theorem test_wf_amcApply : (Instr.amcApply 0 [⟨0, true, 16, 0, 2⟩, ⟨0, true, 16, 0, 2⟩]).wf = false := by decide
theorem test_wf_dimmTempCheck : (Instr.dimmTempCheck [(0, 1), (0, 2)]).wf = false := by decide
theorem test_wf_bar5Access : (Instr.bar5Access 0 3 (some [1])).wf = false := by decide
theorem test_wf_bar2Write : (Instr.bar2Write .peer 0x3FFFFFF#26 [1, 2]).wf = false := by decide

/-! ### Words, written out bit by bit from the tables of R93, R98, R105, R110, R115 and R119 -/

/-- The surroundings of a store, for the decoder. -/
def env : WriteEnv := ⟨[], false, .done, true⟩

theorem test_word_add_s : decodeCore 3 (0b00#2 ++ 1#1 ++ 0b000001#6 ++ 1#4 ++ 2#4 ++ 3#4 ++ 0#11) 0 env =
    some (.add 3 true 1 2 3) := by decide
theorem test_word_addi : decodeCore 3 (0b00#2 ++ 0#1 ++ 0b010000#6 ++ 15#4 ++ 2#4 ++ 0x7FFF#15) 0 env =
    some (.addi 3 false 15 2 0x7FFF#15) := by decide
theorem test_word_beq : decodeCore 16 (0b00#2 ++ 0#1 ++ 0b100000#6 ++ 4#4 ++ 5#4 ++ 0x7FFE#15) 0 env =
    some (.beq 16 4 5 0x7FFE#15) := by decide
theorem test_word_loopi : decodeCore 0 (0b00#2 ++ 0#1 ++ 0b101011#6 ++ 8191#13 ++ 3#10) 0 env = some (.loopi 0 8191#13 3#10) := by
  decide
theorem test_word_movs : decodeCore 0 (0b00#2 ++ 0#1 ++ 0b101100#6 ++ 16#6 ++ 48#6 ++ 0#11) 0 env = some (.movs 0 16#6 48#6) := by
  decide
theorem test_word_amod : decodeCore 0 (0b00#2 ++ 0#1 ++ 0b110011#6 ++ 7#3 ++ 0#5 ++ 0x7FE0#15) 0 env =
    some (.amod 0 7 0x7FE0#15) := by decide
theorem test_word_waitq : decodeCore 0 (0b00#2 ++ 0#1 ++ 0b110100#6 ++ 2#2 ++ 0#2 ++ 9#4 ++ 0#15) 0 env = some (.waitq 0 2 9) := by
  decide
theorem test_word_vadd : decodeCore 0 (0b01#2 ++ 1#1 ++ 0b000001#6 ++ 31#5 ++ 1#5 ++ 2#5 ++ 0b010#3 ++ 0#5) 0 env =
    some (.vadd 0 true 2#3 31 1 2) := by decide
theorem test_word_vcmac : decodeCore 0 (0b01#2 ++ 1#1 ++ 0b011100#6 ++ 0#5 ++ 4#5 ++ 5#5 ++ 0b010#3 ++ 2#2 ++ 1#1 ++ 0#1 ++ 0#1) 0
    env = some (.vcmac 0 true 2#3 2 true false 4 5) := by decide
theorem test_word_valn : decodeCore 0 (0b01#2 ++ 0#1 ++ 0b010011#6 ++ 1#5 ++ 2#5 ++ 3#5 ++ 0b000#3 ++ 0#1 ++ 8#4) 0 env =
    some (.valn 0 0#3 1 2 3 8#4) := by decide
theorem test_word_ld : decodeCore 0 (0b10#2 ++ 0#1 ++ 0b000000#6 ++ 0#1 ++ 9#4 ++ 6#3 ++ 0b010#3 ++ 0xFFF#12) 0 env =
    some (.ld 0 9 6 2#3 0xFFF#12) := by decide
theorem test_word_vldst : decodeCore 0 (0b10#2 ++ 0#1 ++ 0b010001#6 ++ 1#5 ++ 2#3 ++ 1#1 ++ 3#5 ++ 4#3 ++ 0#1 ++ 0#5) 0 env =
    some (.vldst 0 1 2 true 3 4 false) := by decide
theorem test_word_tlSet : decodeCore 16 (0b11#2 ++ 1#1 ++ 0b00010#5 ++ 6#4 ++ 0x10#20) 7 env = some (.tlSet 16 6#4 0x10#20 7 true) := by
  decide
theorem test_word_tlAt : decodeCore 16 (0b11#2 ++ 0#1 ++ 0b00000#5 ++ 4#4 ++ 5#4 ++ 0#16) 0 env = some (.tlAt 16 4 5) := by decide
theorem test_word_li : decodeCore 16 (0b11#2 ++ 0#1 ++ 0b10000#5 ++ 7#4 ++ 0#20) 0x12345678 env = some (.li 16 7 0x12345678) := by
  decide
/-- R94: fields marked zero, lane formats 101b to 111b, an opcode that is not listed. -/
theorem test_word_refused : decodeCore 0 (0b00#2 ++ 0#1 ++ 0b000001#6 ++ 1#4 ++ 2#4 ++ 3#4 ++ 1#11) 0 env = none ∧
    decodeCore 0 (0b01#2 ++ 0#1 ++ 0b011000#6 ++ 1#5 ++ 4#5 ++ 5#5 ++ 0b000#3 ++ 0#5) 0 env = none ∧
    decodeCore 0 0x0D000000#32 0 env = none ∧
    decodeCore 16 (0b11#2 ++ 0#1 ++ 0b00101#5 ++ 0#24) 0 env = none := by decide

/-! ### Values of the spec's worked examples and tables -/

/-- The delay line of chapter 3: steps 1, 4 and 5. -/
theorem test_ringStep : ringStep 0x13E0 0x20 0x1000 0x400 = 0x1000 ∧ ringStep 0x1380 0x20 0x1000 0x300 = 0x10A0 ∧
    ringStep 0x0FC0 0x20 0x1000 0x300 = 0x10E0 := by decide
/-- The machine RF of chapter 8. -/
theorem test_scCheck : scCheck 0 412360000 ⟨2, 78, 2, 105, true, 64⟩ true = 0 := by decide
/-- Chapter 16: 64 GT/s on 16 lanes admits 10,000 units. -/
theorem test_linkLimit : linkLimit .g64 .x16 = 10000 := by decide
/-- R69 and R99: 7FFF_FFFFh + 1 wraps with S = 0 and clamps with S = 1; a write to g0 is discarded (R58). -/
theorem test_add : (∀ sat : Bool, did (exec (.add 0 sat 3 1 2) big) fun t =>
    (t.cores[(0 : Fin 17)]).g[3] = (if sat then 0x7FFFFFFF else 0x80000000) && (t.cores[(0 : Fin 17)]).cst = (if sat then 2 else 1) &&
    t.pcOf 0 = 4) ∧ (did (exec (.add 0 false 0 1 2) big) fun t => t.g 0 0 = 0 && (t.cores[(0 : Fin 17)]).g[0] = 0) := by
  decide +kernel
/-- R455 and following: CRC-32C of the nine digits is E306_9283h. -/
theorem test_crc32c : crc32c [0x31, 0x32, 0x33, 0x34, 0x35, 0x36, 0x37, 0x38, 0x39] = 0xE3069283 := by decide +kernel
/-- R436: the warning shows while the pin is low. -/
theorem test_pwrWarn : did (exec .pwrWarnFall up) fun t => t.on F.PWR_STATUS_WARN && t.on (evtPend 15) := by decide
/-- On an empty queue the block idles (log entry 1). -/
theorem test_step_empty : step State.reset = .next State.reset.idle := by rfl

/-! ### States -/

theorem test_takes : takesB (withEntry run 2 (entry 2 5) []) 2 (fun x => x = 2) 0 (entry 2 5) [] = true := by decide
theorem test_run : run.coreRuns 0 = true ∧ run.coreRuns keeperNo = true := by decide

/-! ### Witnesses: states and operands that meet the hypotheses of the statements -/

/-- Register field `x` set to `v` in `run`. -/
def runF (x : Fld) (v : Nat) : State := run.setF x v

theorem witness_TimelineCommandsAct :
    (let s := (runF F.SEC_RANGE_CTRL_ARM 1)
     (s.advanceTo 5).on F.SEC_RANGE_CTRL_ARM = true ∧ (s.advanceTo 5).on F.CLK_STATUS_SC_LOCKED = true) ∧
    (let s := (up.setF F.SEC_RANGE_CTRL_ARM 1)
     (s.advanceTo 5).on F.SEC_RANGE_CTRL_ARM = true ∧ (s.advanceTo 5).on F.CLK_STATUS_SC_LOCKED = false) ∧
    (let s : State := { run with time := { run.time with waiting := [⟨true, 0, 128, none⟩] } }
     firstSync s.time.samples (2 ^ 64) (s.time.waiting.filter fun x => x.at_ % 64 = 0) = some 128) ∧
    Quiet run ∧ run.anchorErr = 0 := by
  refine ⟨by decide, by decide, by decide, ⟨by decide, by decide⟩, by decide⟩

theorem witness_ReferencesAndSynthesisersAct : run.on F.CLK_STATUS_REF_PRESENT = true ∧
    (runF F.CLK_SC_STATUS_STATE 3).f F.CLK_SC_STATUS_STATE = 3 ∧ (runF F.CLK_SC_STATUS_STATE 3).on F.CLK_STATUS_REF_PRESENT = true ∧
    (let s := (runF F.CLK_STATUS_TOWER_LOCKED 0).setB F.CLK_SYS_CTRL_START true
     s.on F.CLK_SYS_CTRL_START = true ∧ s.on F.CLK_STATUS_REF_PRESENT = true ∧ s.on F.CLK_STATUS_TOWER_LOCKED = false ∧
     s.on ⟨A.PWR_FOG_CAUSE, 0, 1⟩ = false ∧ s.good.tclk = true ∧ s.good.kclk = true ∧ s.pwrState ≠ 2 ∧ s.pwrState ≠ 3) ∧
    run.domainLocked .tclk = true ∧ run.domainLocked .pclk = false := by decide

theorem witness_SampleClockCommandsAct :
    (let s := runF ⟨A.CLK_REF_NOM, 0, 32⟩ 100000000
     scCheck (s.f F.CLK_STATUS_MODE) (s.reg A.CLK_REF_NOM).toNat s.scSettings false = 0 ∧ s.f F.CLK_STATUS_MODE ≠ 2 ∧
     s.on F.CLK_STATUS_REF_PRESENT = true) ∧
    scCheck (run.f F.CLK_STATUS_MODE) (run.reg A.CLK_REF_NOM).toNat run.scSettings false ≠ 0 ∧
    ({ run with clk := { run.clk with sent := some (run.clk.set_, 7) } } : State).clk.sent = some (run.clk.set_, 7) ∧
    (runF F.CLK_SC_STATUS_STATE 4).scMayLock = decide (run.clk.acquire ≠ .start) ∧
    ({ runF F.CLK_SC_STATUS_STATE 1 with clk := { run.clk with reload := some 7 } } : State).scMayLock = true ∧
    run.f F.CLK_SC_STATUS_STATE ≠ 0 ∧ run.good.tclk = true ∧
    (runF F.CLK_STATUS_MODE 2).f F.CLK_STATUS_MODE = 2 ∧ (runF F.CLK_STATUS_MODE 2).f F.CLK_SC_STATUS_STATE ≠ 0 ∧
    run.on F.CLK_STATUS_TOWER_LOCKED = true := by decide +kernel

theorem witness_BlockResetMachineRuns : run.pwrState ≤ 1 ∧ (runF F.PWR_STATUS_STATE 1).pwrState ≤ 1 := by decide

/-- `State.reset` with release steps `l` made and its pins high. -/
def stepped (l : List Nat) : State :=
  { State.reset with pins := up.pins, rst := { State.reset.rst with steps := l } }

/-- `run` in a transition. -/
def moving (x : Trans) (paused : Option Nat) : State := { run with rst := { run.rst with trans := some x, paused := paused } }

theorem witness_PowerStatesChange :
    (State.reset.pins.por = true ∧ State.reset.did 1 = false) ∧
    ((stepped [1]).did 1 = true ∧ (stepped [1]).pins.resetN = true ∧ (stepped [1]).did 2 = false) ∧
    ((stepped [2]).did 2 = true ∧ (stepped [2]).did 3 = false ∧ (stepped [2]).pins.perstN = true ∧
      (stepped [2]).on F.BST_STATUS_WHOLE = false ∧ (stepped [2]).did 4 = false) ∧
    (let s := ((stepped [2]).setB F.CLK_STATUS_REF_PRESENT true).setB F.CLK_STATUS_ON_BACKUP true
     s.did 2 = true ∧ s.on F.CLK_STATUS_REF_PRESENT = true ∧ s.lcs.otp.pend = 0 ∧ s.on F.BST_STATUS_WHOLE = false ∧
     s.domainLocked .tclk = true ∧ s.did 5 = false) ∧
    ((stepped [4, 5]).did 4 = true ∧ (stepped [4, 5]).did 5 = true ∧ (stepped [4, 5]).pwrState ≠ 4 ∧ (stepped [4, 5]).did 6 = false) ∧
    (let s := (stepped [6]).setB F.CLK_STATUS_TOWER_LOCKED true
     s.did 6 = true ∧ s.on F.CLK_STATUS_TOWER_LOCKED = true ∧ s.did 7 = false) ∧
    bitsOf (0x2#32).toNat 0 3 ≤ 3 ∧
    ((moving ⟨2, 0, none⟩ (some 64)).rst.paused.isSome = decide (2 ≤ 2) ∧ (moving ⟨1, 0, none⟩ none).rst.paused.isSome = decide (2 ≤ 1)) ∧
    (moving ⟨2, 0, none⟩ (some 64)).drained = true ∧ (moving ⟨2, 0, none⟩ none).rst.paused = none ∧ (moving ⟨0, 2, none⟩ (some 64)).rst.paused.isSome = true ∧
    (let s := (runF F.PWR_STATUS_STATE 3).setB ⟨A.PWR_WAKE_CFG, 5, 1⟩ true
     s.pwrState = 3 ∧ s.on F.PWR_STATUS_BUSY = false ∧ s.on ⟨A.PWR_WAKE_CFG, 5, 1⟩ = true) ∧
    (let s := runF F.PWR_STATUS_STATE 3
     let s : State := { s with gge := { s.gge with wake := true } }
     s.pwrState = 3 ∧ s.on F.PWR_STATUS_BUSY = false ∧ s.on ⟨A.PWR_WAKE_CFG, 16, 1⟩ = true ∧ s.wakeCause .gauge = true) ∧
    run.rst.d3hot = false ∧ ({ run with rst := { run.rst with d3hot := true } } : State).rst.d3hot = true ∧
    run.pins.pwrWarnN = true := by decide +kernel

theorem witness_ResetScopesAct : run.pins.por = false ∧ run.pins.resetN = true ∧ State.reset.pins.resetN = false ∧
    run.evtReset = false ∧ run.on F.PWR_THERM_HOT = false := by decide

theorem witness_EventCommandsAct : run.evtReset = false ∧ evtDefined 0 = true ∧ evtDefined 313 = true ∧ evtDefined 6 = false := by
  decide

/-- Statements that say what an instruction does on a core that executes: a Beacon core and the Keeper do. -/
theorem witness_cores : run.coreRuns 0 = true ∧ run.coreRuns keeperNo = true ∧ isKeeper 0 = false ∧ isKeeper keeperNo = true ∧
    fetchOk 0 (run.pcOf 0 + 4) = true ∧ fetchOk keeperNo (run.pcOf keeperNo + 8) = true ∧ Mem.wf run.sram = true := by decide

theorem witness_ControlTransfers :
    (let s := run.modCore 15 fun k => { k with pc := 0x1FFFFC }
     let s := s.setF (bcnState 15) 1
     isKeeper 15 = false ∧ s.coreRuns 15 = true ∧ s.atLoopEnd 15 = false ∧ fetchOk 15 (s.pcOf 15 + 4) = false) ∧
    (let s := run.modCore keeperNo fun k => { k with pc := 0x7FFFC }
     s.coreRuns keeperNo = true ∧ s.atLoopEnd keeperNo = false ∧ fetchOk keeperNo (s.pcOf keeperNo + 4) = false) := by decide

theorem witness_LoopsAndMoves :
    (big.coreRuns 0 = true ∧ (big.cores[(0 : Fin 17)]).loops = [] ∧ big.g 0 1 ≠ 0 ∧ big.g 0 3 = 0 ∧
      fetchOk 0 (big.loopLast 0 3 + BitVec.ofNat 32 (big.instrBytes 0 (big.loopLast 0 3))) = true) ∧
    (let s := big.modCore 0 fun k => { k with loops := [⟨4, 8, 2, false⟩], pc := 12 }
     s.coreRuns 0 = true ∧ s.pcOf 0 = (8 : Word) + BitVec.ofNat 32 (s.instrBytes 0 8) ∧ fetchOk 0 4 = true) ∧
    srnOk 0 16 = true ∧ srnOk 0 48 = true ∧ srnOk 0 50 = false := by decide

theorem witness_SystemInstructions :
    (let s := run.modCore 0 fun k => { k with stall := some (.waitq 1 7) }
     (s.cores[(0 : Fin 17)]).stall = some (.waitq 1 7) ∧ s.f (F.BCN_n_Qq_STATUS_WR 0 1) ≠ (7 : BitVec 16).toNat) ∧
    decodeCore 0 0x0D000000 0 ⟨[], false, .done, true⟩ = none := by decide

theorem witness_RegisterAccesses :
    badRequest 2 4 = true ∧ badRequest 4 8 = true ∧ badRequest 0 12 = true ∧ run.barUp = true ∧
    (let s : State := { run with good := { run.good with tclk := false } }
     (A.FLT_n_STATUS 0) % 4 = 0 ∧ s.answers (A.FLT_n_STATUS 0) = false) ∧
    (run.pins.perstN = true ∧ run.pins.por = false ∧ (run.time.latch.find? fun x => x.1 = A.DEV_SCRATCH) = none) ∧
    (run.answers (A.TTH_CTRL) = true ∧ pairLow A.TTH_CTRL = false ∧ pairLow (A.TTH_CTRL - 4) = false ∧
      isMirror A.TTH_CTRL = false ∧ A.TTH_CTRL / 0x100000 ∈ [5, 6, 9, 10] ∧ (findReg A.TTH_CTRL).isSome = true) ∧
    (isMirror 0x640004 = true ∧ run.answers 0x640008 = true ∧ pairLow 0x640008 = false ∧ pairLow (0x640008 - 4) = false ∧
      isMirror 0x640008 = true) ∧ Mem.wf run.sram = true := by decide

/-- A binding of queue 1 of core 0 to source 3. -/
def bound : Binding := ⟨3, false, 0, [], [0], 1, 3, 0, 0, [], 0, 0, 0⟩

theorem witness_BeaconQueuesAct :
    (let d : DispItem := ⟨3, none, 5, 0, 0, 0, 0, 0, [1, 2]⟩
     let s : State := { run with disp := ⟨[bound], [d]⟩ }
     s.pipeRuns = true ∧ s.disp.waiting = [d] ∧ s.disp.bindings = [bound] ∧ bound.takes d = true ∧ bound.set_ = [(0 : Fin 16).val] ∧
       bound.q = (1 : Fin 4).val) ∧
    run.disp.waiting = [] ∧
    (let s := run.modCore 0 fun k => { k with posts := [⟨0, 0⟩] }
     (s.cores[bcn 0]).posts = [⟨0, 0⟩] ∧ (s.cores[bcn 0]).stall = none) ∧
    (takesB (withEntry run 13 (entry 1 0) []) 13 (fun x => decide (x < 0x40)) 0 (entry 1 0) [] = true ∧
      (after (withEntry run 13 (entry 1 0) []) 13 (entry 1 0)).bindReason 0 1 0 = 0) ∧
    (let s := withEntry ((run.setF (F.BCN_n_Qq_CFG_SLOT 0 1) 2).setF (F.BCN_n_Qq_SLOTS_COUNT 0 1) 2) 13 (entry 1 3) []
     takesB s 13 (fun x => decide (x < 0x40)) 0 (entry 1 3) [] = true ∧ (after s 13 (entry 1 3)).bindReason 0 1 3 = 0) ∧
    (let s := withEntry { run with disp := ⟨[bound], []⟩ } 13 (entry 0x41 63) []
     takesB s 13 (fun x => decide (0x40 ≤ x)) 0 (entry 0x41 63) [] = true ∧ (after s 13 (entry 0x41 63)).bindingOf 0 1 ≠ none) := by
  decide

theorem witness_BeaconCoresRun :
    (run.f (bcnState 0) = 1 ∧ (run.cores[bcn 0]).stall = none ∧ run.f (bcnState 3) = 0) ∧
    (let s := (runF (F.BCN_n_WDOG_CYCLES 0) 1)
     let s : State := { s with time := { s.time with samples := 1000000, tRun := 1000000000 } }
     let u := s.settleCore (bcn 0)
     u.coreState (bcn 0) = 1 ∧ u.f (F.BCN_n_WDOG_CYCLES 0) ≠ 0 ∧
       u.f (F.BCN_n_WDOG_CYCLES 0) * 256 ≤ (u.time.tRun - (u.cores[bcn 0]).hangFrom) / u.ticksPerUs) ∧
    (let s := runF (bcnState 0) 3
     s.f (bcnState 0) = 3 ∧ (s.cores[bcn 0]).startAt ≤ s.time.samples ∧ fetchOk (bcn 0) (s.cores[bcn 0]).restartPc = true) ∧
    (let s := (runF (bcnState 0) 2).setF (F.BCN_n_FAULT_CODE 0) 1
     s.f (bcnState 0) = 2 ∧ s.f (F.BCN_n_FAULT_CODE 0) ≠ 6 ∧ (s.reg A.BCN_AUTORESTART).getLsbD 0 = true) := by decide +kernel

theorem witness_KeeperRuns :
    (run.f F.KPR_STATUS_STATE = 1 ∧ (run.cores[keeperNo]).trapOn = false) ∧
    (runF F.KPR_WDT_CTRL_EN 1).on F.KPR_WDT_CTRL_EN = true ∧ (runF F.KPR_WDT_CTRL_EN 1).f F.PWR_STATUS_STATE < 3 ∧
    (bitsOf (0x15#32).toNat 1 20 = 10 ∧ bitsOf (0x1E8480#32).toNat 1 20 = 1000000) ∧ 0x5A5A % 65536 = 0x5A5A ∧
    (runF F.KPR_STATUS_STATE 3).f F.KPR_STATUS_STATE = 3 := by decide

/-- The entry `sel`, `v` of unit `u` in `s` is taken by a command that speaks of `f`, and `good` holds of the state it acts on. -/
def tk (s : State) (u : Fin 15) (f : Nat → Bool) (sel : Nat) (v : Word) (good : State → Bool := fun _ => true)
    (stage : Nat := 0) : Bool :=
  takesB (withEntry s u (entry sel v) []) u f 0 (entry sel v) [] stage && good (after (withEntry s u (entry sel v) []) u (entry sel v))

/-- The same for a table load of `tab`. -/
def tkTab (s : State) (u : Fin 15) (f : Nat → Bool) (sel : Nat) (tab : List Byte) (good : State → Bool := fun _ => true)
    (stage : Nat := 0) : Bool :=
  takesB (withEntry s u (entry sel 0 true) tab) u f 0 (entry sel 0 true) tab stage &&
    good (after (withEntry s u (entry sel 0 true) tab) u (entry sel 0 true))

/-- What `tk` computes gives the premise of an entry statement. -/
theorem taken_of_tk (s : State) (u : Fin 15) (f : Nat → Bool) (sel : Nat) (v : Word) (good : State → Bool) (stage : Nat)
    (h : tk s u f sel v good stage = true) :
    Taken (withEntry s u (entry sel v) []) u f stage (fun e tab s2 => e.sel = sel ∧ e.opnd = v ∧ tab = [] ∧ good s2 = true) := by
  simp only [tk, Bool.and_eq_true] at h
  exact ⟨_, _, _, takes_of _ _ _ _ _ _ _ h.1, rfl, rfl, rfl, h.2⟩

/-- The same for a table load. -/
theorem taken_of_tkTab (s : State) (u : Fin 15) (f : Nat → Bool) (sel : Nat) (tab : List Byte) (good : State → Bool) (stage : Nat)
    (h : tkTab s u f sel tab good stage = true) :
    Taken (withEntry s u (entry sel 0 true) tab) u f stage (fun e t s2 => e.sel = sel ∧ t = tab ∧ good s2 = true) := by
  simp only [tkTab, Bool.and_eq_true] at h
  exact ⟨_, _, _, takes_of _ _ _ _ _ _ _ h.1, rfl, rfl, h.2⟩

theorem witness_Waits : run.time.waiting = [] ∧ run.nextEntry 3 0 = none := by decide

/-- Each entry is taken with an operand in range and with one out of range. -/
theorem witness_LampEntriesAct : ∀ n : Fin 2, let u := lampUnit n
    tk run u (fun x => x = 0) 0 30 = true ∧ tk run u (fun x => x = 0) 0 31 = true ∧ tk run u (fun x => x = 0) 0 32 = true ∧
    tk run u (fun x => x = 1) 1 1 = true ∧ tk run u (fun x => x = 1) 1 2 = true ∧
    tk run u (fun x => x = 2 || x = 3) 2 1023 = true ∧ tk run u (fun x => x = 2 || x = 3) 3 1024 = true ∧
    tk run u (fun x => x = 4) 4 65535 = true ∧ tk run u (fun x => x = 4) 4 65536 = true := by decide +kernel

theorem witness_FilterEntriesAct : ∀ n : Fin 2, let u : Fin 15 := 2 + n.castLE (by decide)
    tk run u (fun x => x < 2) 0 5 = true ∧ tk run u (fun x => x < 2) 1 65535 = true ∧ tk run u (fun x => x < 2) 1 65536 = true ∧
    tk run u (fun x => x = 2) 2 65535 = true ∧ tk run u (fun x => x = 3) 3 20 (fun s => !(s.flt.get n).grids.isEmpty || true) = true ∧
    tk run u (fun x => x = 3) 3 21 = true ∧ tk run u (fun x => x = 4) 4 1 = true ∧
    tk run u (fun x => x = 5) 5 0x10 = true ∧ tk run u (fun x => x = 5) 5 0x200 = true ∧
    tk run u (fun x => x = 6) 6 9 (fun s => (s.reg (fltMirror n 7)).toNat ≤ 9) = true ∧
    tk run u (fun x => x = 7) 7 9 (fun s => 9 ≤ (s.reg (fltMirror n 6)).toNat) = true ∧
    tk run u (fun x => x = 8) 8 0x7C = true ∧ tk run u (fun x => x = 8) 8 0x7D = true := by decide +kernel

theorem witness_LensEntriesAct : ∀ n : Fin 2, let u : Fin 15 := 4 + n.castLE (by decide)
    tk run u (fun x => x = 0) 0 1 = true ∧
    tk run u (fun x => x = 1) 1 10 (fun s2 => decide (512 ≤ 2 ^ (10 - (s2.lns.get n).newest.div) * 2 ^ s2.fltK n ∧
      -(2 ^ 9 : Nat) ≤ (s2.lns.get n).newest.first ∧ (s2.lns.get n).newest.last < (2 ^ 9 : Nat) ∧
      (s2.lns.get n).newest.first ≤ (s2.lns.get n).newest.last ∧ (s2.lns.get n).newest.win ≠ 5)) = true ∧
    tk run u (fun x => x = 2) 2 4 = true ∧ tk run u (fun x => x = 2) 2 6 = true ∧ tk run u (fun x => x = 3) 3 10240 = true ∧
    tk run u (fun x => x = 4) 4 1 (fun s2 => decide (1 ≤ maxDiv (s2.fltK n) ∧
      512 ≤ 2 ^ ((s2.lns.get n).newest.log2n - 1) * 2 ^ s2.fltK n)) = true ∧
    tk run u (fun x => x = 5) 5 4 = true ∧ tk run u (fun x => x = 6) 6 65536 = true ∧
    tk run u (fun x => x = 7) 7 0 (fun s2 => decide (-(2 ^ ((s2.lns.get n).newest.log2n - 1) : Nat) ≤ binOf 0 ∧
      (s2.lns.get n).newest.last < (2 ^ ((s2.lns.get n).newest.log2n - 1) : Nat) ∧ binOf 0 ≤ (s2.lns.get n).newest.last)) = true ∧
    tk run u (fun x => x = 8) 8 0 (fun s2 => decide (-(2 ^ ((s2.lns.get n).newest.log2n - 1) : Nat) ≤ (s2.lns.get n).newest.first ∧
      binOf 0 < (2 ^ ((s2.lns.get n).newest.log2n - 1) : Nat) ∧ (s2.lns.get n).newest.first ≤ binOf 0)) = true ∧
    tk run u (fun x => x = 9) 9 1 = true ∧
    tkTab run u (fun x => x = 0x10000) 0x10000 [1, 0, 2, 0] (fun s2 => (s2.lns.get n).newest.win ≠ 5) = true := by decide +kernel

theorem witness_SectorEntriesAct : (∀ k ∈ [0, 15], tk run 6 (fun x => x < 16) k (0x10000#32) = true) ∧
    tkTab run 6 (fun x => 0x10000 ≤ x && x < 0x10010) 0x1000F [1, 2, 3, 4] (fun s2 =>
      !((s2.sec.masks[(15 : Fin 16)]).cfgs.headD (0, 0, [])).2.1.getLsbD 27) = true ∧
    (run.pipeRuns && run.secReached (run.sampleOf 0)) = true ∧
    (∀ k ∈ [0x10, 0x13], tk run 6 (fun x => 0x10 ≤ x && x < 0x14) k 1 = true) ∧
    tkTab run 6 (fun x => 0x10010 ≤ x && x < 0x10014) 0x10011 [] = true ∧
    (ProgCfg.zero true).faults.any (·.1) = false ∧
    tk run 6 (fun x => x = 32 || x = 33) 32 0x1000 (fun _ => true) 0x20 = true ∧
    tk (run.setReg (secMirror 32) 0) 6 (fun x => x = 32 || x = 33) 33 1
      (fun s2 => decide (4096 ≤ s2.stagedLo 6 32 + 1 * 2 ^ 32)) 0x20 = true ∧
    tk run 6 (fun x => x = 34 || x = 35) 35 0xFFFF (fun s2 => decide (s2.stagedLo 6 34 + 0xFFFF * 2 ^ 32 ≤ 2 ^ 48 - 1)) 0x20 = true ∧
    tk run 6 (fun x => x = 36 || x = 37) 37 0xFF (fun s2 => !s2.on F.SEC_STATUS_ARMED &&
      decide (s2.stagedLo 6 36 + 0xFF * 2 ^ 32 ≤ 2 ^ 40)) 0x20 = true ∧
    tk run 6 (fun x => x = 38 || x = 39) 39 1 (fun s2 => !s2.on F.SEC_STATUS_ARMED && decide (1 ≤ s2.stagedLo 6 38 + 2 ^ 32)) 0x20 = true ∧
    tk run 6 (fun x => x = 0x28) 0x28 7 (fun s2 => !s2.on F.SEC_STATUS_ARMED) 0x20 = true ∧
    tk run 6 (fun x => x = 0x30) 0x30 1 (fun s2 => !s2.on F.SEC_STATUS_ARMED && !s2.segNamed) 0x20 = true ∧
    tk (runF F.SEC_STATUS_ARMED 1) 6 (fun x => x = 0x31) 0x31 0 (fun s2 => s2.on F.SEC_STATUS_ARMED) 0x20 = true := by
  decide +kernel

theorem witness_PinAndSyncEntriesAct :
    (∀ p : Fin 2, tk run 14 (fun x => x = 4 + p.val) (4 + p.val) 0x101 (fun _ => decide (pinWhat 0x101 ≠ 3 ∧
      bitsOf 0x101 3 5 = 0 ∧ pinWidth 0x101 ≠ 0)) = true) ∧
    tk run 14 (fun x => x = 6) 6 0x103 = true ∧ tk run 14 (fun x => x < 2) 0 5 = true ∧ tk run 14 (fun x => x < 2) 1 5 = true ∧
    tk run 14 (fun x => x = 2) 2 0 (fun s2 => s2.time.metAt ≠ some s2.time.samples && !s2.blockSynced s2.time.samples &&
      s2.time.waiting.isEmpty && s2.resyncsHere.isEmpty) = true ∧
    tk { run with time := { run.time with syncs := [⟨0, 0, 0⟩] } } 14 (fun x => x = 2) 2 0 (fun s2 => s2.time.metAt ≠ some s2.time.samples &&
      s2.blockSynced s2.time.samples) = true ∧
    tk (runF F.SEC_RANGE_CTRL_OUT_EN 1) 14 (fun x => x = 3) 3 0 (fun s2 => s2.on F.SEC_RANGE_CTRL_OUT_EN &&
      s2.on F.CLK_STATUS_REF_PRESENT) = true := by decide +kernel

theorem witness_GlowEntriesAct :
    (∀ n : Fin 2, tk run 7 (fun x => x = n.val) n.val 0x20210 (fun _ => decide (4 ≤ bitsOf 0x20210 0 6 ∧ bitsOf 0x20210 0 6 ≤ 32 ∧
      4 ≤ bitsOf 0x20210 6 5 ∧ bitsOf 0x20210 6 5 ≤ 16 ∧ geomStep 0x20210 ≠ 0)) = true) ∧
    tk run 7 (fun x => x = 2) 2 0xFFFFFF = true ∧ tk run 7 (fun x => x = 3) 3 0x1FFFF = true ∧
    tk run 7 (fun x => x = 4) 4 0x3FFF = true ∧ tk run 7 (fun x => x = 4) 4 0x4000 = true ∧
    tkTab run 7 (fun x => x = 0x10000) 0x10000 (List.replicate 16 0) (fun _ => !lutBad (List.replicate 16 0)) = true := by
  decide +kernel

/-- `run` with the Sector unit changed. -/
def sec (g : Sec → Sec) : State := { run with sec := g run.sec }

theorem witness_SectorRuns :
    (run.sec.examined ≤ run.sampleOf 0 ∧ run.secReached (run.sampleOf 0) = true) ∧
    (let s := sec fun x => { x with waiting := [⟨3, none, 0, 0, 0, none, 0, none, 0⟩] }
     s.secReached 64 = false) ∧
    (let s := sec fun x => { x with progs := x.progs.map fun p => { p with cfgs := p.cfgs.map fun c => { c with en := false } } }
     let s := (s.setF F.SEC_STATUS_ARMED 1).setPair (secMirror 34) 100
     s.autoPoint = some 100 ∧ s.examines 100 = true ∧ (∀ p : Fin 4, (((s.sec.progs[p]).turn 100).at_ 100).en = false) ∧
       s.inHoldoff 100 = false) ∧
    (let s := sec fun x => { x with segs := [⟨0, 0, 0, 64, 0, 0, false, false, true, false⟩] }
     (firstOpen s.sec.segs).isSome = true) ∧
    (let s : State := { run with tower := ⟨⟨[.pulse 0 32], none, false, []⟩, ⟨[.rise 9], none, false, []⟩⟩ }
     did (exec (.trigoutPulseStart 0 5) s) (fun t => t.tower.a.until_ = some 37) ∧
     did (exec (.trigoutPulseStart 1 5) s) fun t => t.tower.b.reqs = [.rise 9]) ∧
    did (exec (.xtrigPulseStart 5) (sec fun x => { x with xreqs := [(3, 32)] })) (fun t => t.pins.xtrigLow && t.sec.xuntil = some 37) ∧
    did (exec .xtrigPulseEnd (sec fun x => { x with xuntil := some 37 })) (fun t => t.sec.xignore = 293) ∧
    did (exec (.xtrigEdge 7) (sec fun x => { x with xops := [(320, 1)] })) (fun t => t.sec.waiting.map (·.n) = [327]) ∧
    did (exec .sectorEvent (sec fun x => { x with waiting := [⟨3, none, 0, 0, 0, none, 0, none, 0⟩] })) (fun t => t.sec.waiting = []) := by
  decide +kernel

/-- A spectrum of two bins. -/
def spec2 : Spectrum := ⟨0, 0, 0, 0, 8, 0, [1, 1], 1, 0, 0⟩

theorem witness_GlowRuns :
    did (exec (.glowUpdate 0) { run with specs := ⟨[spec2], []⟩ }) (fun t => t.specs.a = []) ∧
    (let g : Glw := { run.glw.a with running := true, geom := 0x20A10 }
     tooManyCells (g.geomFor 0 spec2.num.length true) spec2.num.length = false ∧ run.blockRuns 7 = true) ∧
    (let f : Forming := ⟨0, 0, 9, 1, [], 0, 0, 0, 0, true, false, false, false, 0, false, []⟩
     let s : State := { runF F.AMC_STATUS_STATE 2 with glw := ⟨{ run.glw.a with forming := [f] }, run.glw.b⟩ }
     let s := s.setB F.CLK_STATUS_MEM_LOCKED true
     s.glwBlocked = false ∧
     did (exec (.snapshotComplete 0) s) fun t => t.on (F.GLW_n_STATUS_VALID 0) && t.pair (A.GLW_n_LAST_SNAP_LO 0) = 9) ∧
    (let f : Forming := ⟨0, 0, 9, 1, [], 0, 0, 0, 0, true, false, false, false, 0, false, []⟩
     let s : State := { run with glw := ⟨{ run.glw.a with forming := [f] }, run.glw.b⟩ }
     s.glwBlocked = true ∧ did (exec (.snapshotComplete 0) s) fun t => t.on (F.GLW_n_STATUS_LOST_SEEN 0)) := by
  decide +kernel

theorem witness_FilterAndLensOutputsGoOn :
    (let s : State := { run with flt := ⟨{ run.flt.a with grids := [⟨0, none, 0, true, [(0, 0, 0)], [(0, 0)], [], 0, 0, []⟩] }, run.flt.b⟩ }
     s.pipeRuns = true ∧ ((s.fltReady 0).flt.get 0).grids.map (·.k) = [0] ∧ 0 < supportLen 0) ∧
    supportLen 0 ≠ 0 := by decide +kernel

theorem witness_IntervalUnitActs :
    ((run.advanceTo 0).ivuFlush 0).ivu.meas = none ∧ run.advanceTo 0 = run ∧ run.sampleOf 0 = 0 ∧ run.ivuFlush 0 = run ∧
    tk run 8 (fun x => x = 0) 0 8 (fun s2 => !(s2.afterGroup 0 0 8).getLsbD 3 ||
      bitsOf (s2.afterGroup 1 0 (s2.reg A.IVU_STOP_MASK)).toNat 0 5 != 0) 0 = true ∧
    tk run 8 (fun x => x = 1) 1 0x10001 (fun s2 => !(s2.afterGroup 0 0 (s2.reg A.IVU_START_SRC)).getLsbD 3) 1 = true ∧
    tk run 8 (fun x => x = 2) 2 7 (fun _ => true) 2 = true ∧ tk run 8 (fun x => x = 2) 2 8 (fun _ => true) 2 = true ∧
    tk run 8 (fun x => x = 3) 3 0x1000000 (fun _ => true) 3 = true ∧ tk run 8 (fun x => x = 3) 3 0 (fun _ => true) 3 = true ∧
    tk run 8 (fun x => x = 4) 4 1 (fun _ => true) 4 = true ∧
    (runF F.IVU_STATUS_READY 1).ivuRuns = true ∧ (runF F.IVU_STATUS_READY 1).on F.IVU_STATUS_READY = true ∧
    did (exec (.gateOpen 4) run) (fun t => (t.ivu.gateAt 16).2) ∧
    ((List.replicate 512 2048).foldl (· + ·) 0 = 2 ^ 20) ∧
    (let s : State := { run with ivu := { run.ivu with chans := run.ivu.chans.set 1 { run.ivu.chans[(1 : Fin 3)] with relief := { (run.ivu.chans[(1 : Fin 3)]).relief with fresh := true } } } }
     did (exec (.roleChange 1) s) fun t => !((t.ivu.chans[(1 : Fin 3)]).service).fresh) := by decide +kernel

/-- `run` measuring from source 0 to one stop of source 1, with the measurement `m` open. -/
def measuring (m : Option IvMeas) : State :=
  let s := (run.setReg A.IVU_START_SRC 8).setReg A.IVU_STOP_MASK 0x10002
  { s with ivu := { s.ivu with meas := m } }

/-- The measurement that starts at sample 64. -/
def meas64 : IvMeas := ⟨64, 0, 65536, 64, [], 0, []⟩

/-- Each clause about an edge, the gate, the deviation: a start opens, a close start is skipped, a stop ends. -/
theorem witness_IntervalEdges :
    (let s := measuring none
     s.ivuEn = true ∧ s.startSrc = 0 ∧ s.inGate 65536 = true ∧ s.gateEn = false ∧
     (s.ivuEdge 0 0 64 65536 false).on F.IVU_STATUS_OPEN = true ∧
     (let t : State := { s with ivu := { s.ivu with lastStart := some 0 } }
      (t.ivuEdge 0 0 511 65536 false).f F.IVU_SKIPPED_COUNT = 1 ∧ (t.ivuEdge 0 0 512 65536 false).f F.IVU_SKIPPED_COUNT = 0)) ∧
    (let s := measuring (some meas64)
     s.nstop = 1 ∧ s.stopMask.testBit 1 = true ∧ (s.ivuEdge 1 1 64 65537 false).f F.IVU_MEAS_COUNT_COUNT = 1 ∧
     (s.ivuEdge 1 1 64 65536 false).f F.IVU_MEAS_COUNT_COUNT = 0) ∧
    (let s := (measuring (some meas64)).setReg A.IVU_GATE_CTRL 1
     s.gateEn = true ∧ (s.ivu.gateAt 80).2 = false ∧ meas64.stamp < 1024 * 80 ∧ (s.ivuGateEnd 80).ivu.meas = none) ∧
    ivSigma 2 3 5 = 724 := by decide +kernel

/-- A block of raw samples on its way. -/
def unit0 : CapUnit := ⟨0, false, 0, []⟩

theorem witness_CaptureActs :
    (let s := (((runF F.AMC_STATUS_STATE 2).setPair A.AMC_SIZE_LO (2 ^ 36)).setF F.AMC_ADMIT_WR_LIMIT 12000)
     (∀ n : Fin 2, tk s 9 (fun x => x = n.val) n.val 1 (fun s2 => !s2.armedAt n (s2.sampleOf 0) && s2.f F.AMC_STATUS_STATE = 2 &&
        s2.capMode (1 - n) = 0 && decide (s2.f F.AMC_ADMIT_WR_USED - capRate (s2.capOp n) + capRate 1 ≤ s2.f F.AMC_ADMIT_WR_LIMIT)) = true) ∧
     (∀ n : Fin 2, tk s 9 (fun x => x = 2 + n.val) (2 + n.val) 0 (fun s2 => decide (ringBase 0 + ringRegion 0 ≤ s2.pair A.AMC_SIZE_LO - 2 ^ 26) &&
        !s2.armedAt n (s2.sampleOf 0) && s2.f F.AMC_STATUS_STATE = 2 && s2.capMode 0 = 0) = true)) ∧
    did (exec .captureFifoIntake { run with amc := { run.amc with incoming := [unit0] } }) (fun t => t.amc.fifo = [unit0]) ∧
    (runF F.AMC_FIFO_DROPPING 1).on F.AMC_FIFO_DROPPING = true ∧ (run.capOver 0 = false ∧ run.capOver 1 = false) := by decide +kernel

/-- Four DIMMs of 16 GiB; `spd`: all of them answer. -/
def dimms (spd : Bool) : List Dimm := [⟨0, true, 16, 0, 2⟩, ⟨2, true, 16, 0, 2⟩, ⟨4, true, 16, 0, 2⟩, ⟨6, spd, 16, 0, 2⟩]

theorem witness_MemoryTrains :
    (popFault 2 (dimms true) = none ∧ popFault 2 (dimms false) = some 4 ∧ run.amcState = 0) ∧
    did (exec (.amcApply 0x6 (dimms true)) run) (fun t => t.amcState = 1 && t.pair A.AMC_SIZE_LO = 64 * 2 ^ 30) ∧
    did (exec .initialTrainingDone { (runF F.AMC_STATUS_STATE 1).setB F.CLK_STATUS_MEM_LOCKED true with amc := { run.amc with run := .initial } })
      (fun t => t.amcState = 2) ∧
    did (exec .tempRetrain { runF F.AMC_STATUS_STATE 2 with amc := { run.amc with wantFrom := some 0 } }) (fun t => t.amcState = 1) ∧
    did (exec .selfRefreshExit ((runF F.AMC_STATUS_STATE 3).setB F.CLK_STATUS_MEM_LOCKED true)) (fun t => t.amcState = 1) ∧
    did (exec .memClkLoss (runF F.CLK_STATUS_MEM_LOCKED 1)) (fun t => t.on F.AMC_STATUS_ON_BACKUP) ∧
    did (exec .memClkRelock ((runF F.AMC_STATUS_STATE 3).setB F.CLK_SYS_CTRL_START true)) (fun t => t.amcState = 1) ∧
    (runF F.AMC_STATUS_CH_MASK 1).f F.AMC_STATUS_CH_MASK = 1 := by decide +kernel

theorem witness_MemoryErrorsAndBar5 :
    did (exec (.alertN 0) (runF F.AMC_STATUS_CH_MASK 1)) (fun t => t.f (F.AMC_c_REPLAYS_COUNT 0) = 1) ∧
    (let s := (runF F.AMC_STATUS_STATE 2).setPair A.AMC_SIZE_LO (2 ^ 34)
     did (exec (.bar5Access 16 2 (some [1, 2])) s) (fun t => Mem.readN t.amem 16 2 = [1, 2]) ∧
     did (exec (.bar5Access 16 2 none) s) fun t => t.out.head? = some (.bytes [0, 0])) ∧
    did (exec (.bar5Access 0 2 none) run) (fun t => t.out.head? = some (.bytes [0xFF, 0xFF])) ∧
    dramPlace 4 1536 = dramPlace 4 1536 ∧ (dramPlace 4 1536).1 = 6 ∧ (dramPlace 8 1536).1 = 3 := by decide +kernel

theorem witness_StreamEntriesAct :
    tk (runF (F.STR_s_STATUS_STATE 5) 1) 10 (fun x => x = (5 : Fin 64).val) 5 3 (fun s2 => s2.strState 5 ≠ 0) = true ∧
    tk run 10 (fun x => x = (5 : Fin 64).val) 5 3 (fun s2 => s2.strState 5 = 0) = true ∧
    tk run 10 (fun x => x = 0x100) 0x100 7 = true := by decide +kernel

theorem witness_StreamsRun :
    (runF (F.STR_s_STATUS_STATE 5) 1).strState 5 = 1 ∧ (runF (F.STR_s_STATUS_STATE 5) 2).strState 5 = 2 ∧
    (runF F.HST_STATUS_LINK_UP 1).linkUp = true ∧ run.linkUp = false ∧
    (let r := mkRecord 9 0 0 0 0 [1, 2] 0
     let s : State := { runF F.HST_STATUS_LINK_UP 1 with streams := run.streams.set 5 { Stream.zero with formed := [r] } }
     s.linkUp = true ∧ r.due ≤ s.time.samples ∧ s.strState 5 ≠ 3 ∧ s.overwritten r = false ∧ s.on (F.STR_s_CFG_DEST 5) = false) ∧
    (let r := mkRecord 9 0 0 0 0 [1, 2] 0
     splitStaged [r] = some ([], r, [])) ∧
    did (exec (.linkUp .g64 .x16) run) (fun t => t.f F.HST_LINK_LIMIT_LIMIT = 10000 && !t.on F.HST_STATUS_DEGRADED) := by decide +kernel

/-- A descriptor from acquisition memory to acquisition memory. -/
def desc : Desc := ⟨0, 64, 4, 2, 2, 0, false⟩

theorem witness_DmaChannelsAct :
    did (exec (.dmaStart 3 0) run) (fun t => (t.dma[(3 : Fin 32)]).active.isSome) ∧
    did (exec (.dmaStart 3 0) { run with dma := run.dma.set 3 { Dma.zero with active := some desc, queue := List.replicate 64 desc } })
      (fun t => t.on (F.DMA_n_STATUS_QFULL 3)) ∧
    (let s : State := { runF F.AMC_STATUS_STATE 2 with dma := run.dma.set 3 { Dma.zero with active := some desc }, amem := [(0, 7)] }
     did (exec (.descriptorFinish 3 6 0 []) s) (fun t => t.f (F.DMA_n_LAST_CODE 3) = 6)) ∧
    (let s : State := { run with dma := run.dma.set 3 { Dma.zero with active := some desc, stopAsked := true } }
     did (exec (.dmaStopForced 3 1 []) s) fun t => t.on (F.DMA_n_LAST_PWR_FORCED 3)) := by decide +kernel

theorem witness_NvmePairsAct : run.pairUsed 3 = false ∧
    did (exec (.nvqCfgWrite 3 .cfg 0x01FF0005) run) (fun t => t.f (F.NVQ_q_CFG_QSIZE_M1 3) = 511 && t.on (F.NVQ_q_CFG_EN 3)) ∧
    (let s := runF (F.NVQ_q_CFG_EN 3) 1
     let s : State := { s with nvq := s.nvq.set 3 { Nvq.zero with cmds := [⟨5, 1, 0, [], 0, 0⟩] } }
     s.on (F.NVQ_q_CFG_EN 3) = true ∧ (s.nvq[(3 : Fin 16)]).cmds ≠ [] ∧ s.f (F.NVQ_q_TIMEOUT_TIMEOUT_MS 3) ≠ 0) := by decide +kernel

theorem witness_CalibrationEntriesAct : tk run 11 (fun x => x = 0) 0 1 = true ∧ tk run 11 (fun x => x = 1) 1 1 = true ∧
    tk run 11 (fun x => x = 2) 2 0x303D09 = true := by decide +kernel

theorem witness_CalibrationRuns :
    did (exec (.referenceWindowEnd 0) run) (fun t => t.f (F.CAL_n_STATUS_WINDOW 0) = 1) ∧
    did (exec (.checkWindowStart 0) (runF (F.CAL_n_STATUS_WINDOW 0) 1)) (fun t => t.f (F.CAL_n_STATUS_WINDOW 0) = 2) ∧
    ((runF (F.CAL_n_STATUS_WINDOW 0) 2).f (F.CAL_n_STATUS_WINDOW 0) = 2 ∧ (run.cal.get 0).outcome = 0) ∧
    (runF F.CAL_STATUS_TRIM_STATE 1).f F.CAL_STATUS_TRIM_STATE = 1 ∧ run.trims.factory = none ∧ run.trims.user = none ∧
    did (exec (.userTrimReadDone none) { runF F.CAL_STATUS_TRIM_STATE 1 with trims := { run.trims with factory := some (0, []) } })
      (fun t => t.trims.user = some none) := by decide +kernel

theorem witness_TetherActs :
    did (exec (.forwardFrame ⟨[], []⟩ []) run) (fun t => t.pair A.TTH_FRAMES_LO = 1) ∧
    did (exec (.laneSwitch true) { run with tth := { run.tth with retSwitch := some 0 } }) (fun t => t.tth.retSwitch = none) ∧
    did (exec .clockLaneFail run) (fun t => t.f F.TTH_STATUS_CLK_LANE = 1) ∧
    did (exec .returnResend { run with tth := { run.tth with unacked := [⟨0, .register 0, some 0, 0, false⟩], retFrames := 4 } })
      (fun t => t.f F.TTH_RET_ERRS_RESENT = 1) ∧
    did (exec .retrain run) (fun t => t.tth.phase = 1 && t.on F.TTH_STATUS_TRAINING) ∧
    did (exec (.trainingPhaseDone 0 []) { run with tth := { run.tth with phase := 1, attempt := 1 } }) (fun t => t.tth.phase = 2) ∧
    (List.replicate 64 (0 : BitVec 12)).length = 64 ∧ [true].length = [false].length ∧
    (32 ≤ ((List.range 34).filter fun i => !(2 ^ 5 + 2 ^ 33).testBit i).length ∧ physLane 34 (2 ^ 5 + 2 ^ 33) 31 = 32 ∧
      (2 ^ 5 + 2 ^ 33).testBit 33 = true) := by
  decide +kernel

theorem witness_GaugeActs : tk run 12 (fun x => x = 0) 0 0xF = true ∧ tk run 12 (fun x => x = 1) 1 31 = true ∧
    tk run 12 (fun x => x = 1) 1 32 = true ∧
    did (exec (.snapClear 3) { run with gge := { run.gge with acc := run.gge.acc.set 3 ⟨1612800000, 1000000, 0, 4095, false⟩ } })
      (fun t => t.pair A.GGE_SNAP_SUM_LO = 1612800000 && t.reg A.GGE_SNAP_COUNT = 1000000) ∧
    did (exec (.urgentRequest 7) run) (fun t => t.gge.cur.map (·.input) = some 7) ∧
    run.on F.CLK_STATUS_ACLK_OK = true ∧ run.blockRuns 12 = true ∧
    did (exec (.conversionDone 9) { run with gge := { run.gge with cur := some ⟨4, false, false, false, false⟩ } })
      (fun t => (t.gge.acc[(4 : Fin 32)]).sum = 9) := by decide +kernel

theorem witness_PanelLinkActs : did (exec (.panelEnable 0) run) (fun t => t.pnlLink = 1) ∧
    did (exec .panelLinkUp ((runF F.PNL_STATUS_LINK 1).setB F.CLK_SYS_CTRL_START true)) (fun t => t.pnlLink = 2) ∧
    did (exec (.panelCfgWrite .link 0x250) run) (fun t => t.f F.PNL_LINK_RATE = 80) ∧
    did (exec (.panelCfgWrite .link 0x24F) run) (fun t => t.f F.PNL_LINK_RATE = 250) ∧
    did (exec (.dcsSend 1) ((runF F.PNL_STATUS_LINK 2).setReg (A.PNL_DCS_DATAi 0) 0x29)) (fun t => t.out.length = 1) := by
  decide +kernel

theorem witness_PanelFramesAct :
    did (exec (.teEdge 5) (runF F.PNL_STATUS_LINK 2)) (fun t => t.on F.PNL_STATUS_TE_OK) ∧
    did (exec .commitHost run) (fun t => t.pnl.pend = some true) ∧ run.on F.PNL_CTRL_TE_EN = true ∧
    did (exec (.hostRowRead none) { run with pnl := { run.pnl with hostRect := some (0, 0, 1, 1, 0, 64) } })
      (fun t => t.on F.PNL_STATUS_HOST_ERR) ∧
    did (exec .pushDone { runF F.PNL_STATUS_PUSHING 1 with pnl := { run.pnl with push := true } }) (fun t => !t.pnl.push) := by
  decide +kernel

/-- `run` with the Logbook up. -/
def logUp : State := runF F.LOG_STATUS_STATE 1

theorem witness_LogbookActs : Mem.wf logUp.log.live = true ∧
    did (exec .operatingSecond logUp) (fun t => t.reg A.LOG_OPSEC = 1) ∧
    did (exec .logCommit logUp) (fun t => t.reg A.LOG_SEQ = 1 && t.on F.LOG_STATUS_WRITING) ∧
    did (exec (.slotWriteDone true) (logUp.setB F.LOG_STATUS_WRITING true)) (fun t => t.f F.LOG_NEXT_SLOT = 1) ∧
    did (exec .eraseSectorDone { logUp with log := { logUp.log with erase := [128] } }) (fun t => t.log.erase = []) ∧
    did (exec (.logbookLoadDone true) { run with log := { run.log with loading := true } }) (fun t => t.f F.LOG_STATUS_STATE = 1) ∧
    did (exec .windowCopyDone { logUp with log := { logUp.log with winSeq := some 1 } }) (fun t => t.on F.LOG_STATUS_WIN_READY) := by
  decide +kernel

theorem witness_SmbusAnswers :
    did (exec .identityRead run) (fun t => t.out.head? = some (.bytes [0x9D, 0x1F, 0x02, 0x32, 0x11, 0x02, 0, 0, 0, 0, 0, 0, 0, 0, 0, 0])) ∧
    did (exec .temperatureRead run) (fun t => t.out.head? = some (.readData 0x8000)) := by decide +kernel

/-- `run` with a `PROGRAM_SLOT` command for slot 0 in the buffer: no signers, argument 5 (R449, R450). -/
def slotCmd : State :=
  run.modLcs fun l => { l with cmdBuf := Mem.writeN [] 0 ([0x44, 0x4D, 0x43, 0x4C, 2, 255, 255] ++ List.replicate 41 0 ++ [5]) }

theorem witness_LifeCycleCommandsAct : cmdByte slotCmd.lcsCmd 4 = 2 ∧ slotCmd.lcsCheck slotCmd.lcsCmd = 1 ∧
    did (exec (.programSlot true) slotCmd) (fun t => t.lcs.otp.owner.a = 5) ∧
    did (exec (.raiseSvn true) slotCmd) (fun t => t = slotCmd) ∧
    slotCmd.lcsCheck (slotCmd.lcsCmd.set 0 0) = 2 := by decide +kernel

theorem witness_LifeCycleRuns :
    (let s := { run with rst := { run.rst with steps := [1, 2] } }.modLcs fun l => { l with otp := { l.otp with pend := 5 } }
     did (exec .transitionResume s) fun t => t.lcs.otp.bits = 9 && t.lcs.otp.seed = BitVec.allOnes 256) ∧
    (let s := run.modLcs fun l => { l with otp := { l.otp with seed := 7 } }
     did (exec .idReady s) fun t => t.on F.LCS_STATUS_ID_READY) ∧
    did (exec .attest run) (fun t => t.f F.LCS_ATT_STATUS_RESULT = 2) ∧
    did (exec .attest (runF F.LCS_STATUS_ID_READY 1)) (fun t => t.lcs.att.isSome) := by decide +kernel

/-- The part with `RESET_N` low and soft repairs of both kinds. -/
def repairable : State :=
  { run with pins := { run.pins with resetN := false }, bst := { run.bst with softTether := 2 ^ 40 + 3 } }.setF
    F.BST_SRAM_REPAIRS_SOFT 2

theorem witness_TapAndRepairAct : run.tapOk .extest = false ∧ repairable.tapOk .extest = true ∧ repairable.tapOk .repair = true ∧
    repairable.lcs.otp.grants [0, 1, 3] = true ∧
    did (exec .repair repairable) (fun t => t.bst.burn = some .both) ∧
    did (exec (.fuseSram 0) repairable) (fun t => t.bst.burn = some .sram) ∧
    did (exec (.fuseSram 2) repairable) (fun t => t.bst.burn = some .both) ∧
    did (exec (.repairBurnDone true) { repairable with bst := { repairable.bst with burn := some .both } })
      (fun t => t.f F.TTH_RET_BAD_FUSE = 1 && t.f F.BST_SRAM_REPAIRS_SOFT = 0) := by decide +kernel

theorem witness_SelfTestActs : run.bstRefused 1 = false ∧ (runF F.BST_STATUS_BUSY 1).bstRefused 1 = true ∧ run.patrolOk = true ∧
    did (exec (.bstGo 0x100) run) (fun t => t.bst.todo = []) := by decide +kernel

/-- The Keeper with a held target far enough ahead. -/
def held : State := { run with tl := { run.tl with held := some 1000000 } }

theorem witness_TimelineInstructions : held.coreRuns keeperNo = true ∧ scalarSel 2 2 = true ∧ tableSize 7 0x10000 ≠ 0 ∧
    held.tickNow.toNat + 64000 ≤ (1000000 : Long).toNat ∧ held.pair (A.KPR_TLQ_u_LAST_LO 2) ≤ 1000000 ∧
    did (exec (.tlSet 16 2 2 9 false) held) (fun t => (t.tl.queues[(2 : Fin 15)]).length = 1) ∧
    did (exec (.tlSet 16 2 2 9 false) run) (fun t => t.f F.KPR_TRAP_CODE = 8 && t.f F.KPR_TL_STATUS_ERR = 1) ∧
    did (exec (.tlSet 16 15 2 9 true) run) (fun t => t.f F.KPR_TL_STATUS_ERR = 2) ∧
    did (exec (.tlSet 0 2 2 9 true) run) (fun t => t.f (bcnState 0) = 2) := by decide +kernel

theorem witness_TimelineQueuesAct :
    (let s := run.modCore keeperNo fun k => { k with stall := some (.timeline 2 2 9 false true) }
     did (exec .tlStallEnd s) fun t => (t.tl.queues[(2 : Fin 15)]).length = 1) ∧
    (nextCopy [] [⟨0, 7, 0x10000, 0, 16, false, []⟩]).isSome = true ∧
    did (exec (.tlFlush 4) (withEntry run 2 (entry 2 5) [])) (fun t => t.tl.queues[(2 : Fin 15)] = []) := by decide +kernel

theorem witness_ImageLoads : did (exec (.loadGo 1) run) (fun t => t.on F.LCS_LOAD_STATUS_BUSY && t.lcs.load.isSome) ∧
    did (exec (.loadGo 1) (runF F.LCS_LOAD_STATUS_BUSY 1)) (fun t => t.on F.LCS_LOAD_STATUS_LOAD_DROP) := by decide +kernel

theorem witness_CanonicalFormsKept : Canonical State.reset ∧ Canonical run := by
  constructor <;> refine ⟨?_, ?_, ?_, ?_, ?_, ?_, ?_, ?_, ?_, ?_, ?_⟩ <;> decide

theorem witness_UnitsActAlone : resetting .anchorCommit = false ∧ gaugeCommand .anchorCommit = false ∧ resetting .bypass = false ∧
    storesAcquired .bypass = false ∧ Quiet run ∧ intervalCommand .bypass = false ∧ filterCommand .bypass = false ∧
    sectorCommand .bypass = false ∧ tetherCommand .bypass = false ∧ dispatchCommand .bypass = false := by
  refine ⟨rfl, rfl, rfl, rfl, ⟨?_, ?_⟩, rfl, rfl, rfl, rfl, rfl⟩ <;> decide

theorem witness_DecodeOfEncode : encodeCore (.st 0 1 2 3#3 4#12 env) = encodeCore (.st 0 1 2 3#3 4#12 ⟨[], true, .done, true⟩) ∧
    (encodeCore (.nop 16)).isSome = true ∧ encodeCore .bypass = none := by decide

theorem witness_ClassesOfTheCores : (isKeeper keeperNo = true ∧ fieldAt 0x40000000 30 2 = 1) ∧
    (fieldAt 0x84000000 30 2 = 2 ∧ 8 ≤ (fieldAt 0x84000000 23 6).toNat) ∧ (isKeeper 0 = false ∧ fieldAt 0xC0000000 30 2 = 3) ∧
    did (exec (.vmov 16 0 0 0) run) (fun t => t.f F.KPR_TRAP_CODE = 1) := by decide +kernel

theorem witness_PowerWarningCommits : logUp.pins.pwrWarnN = true ∧ logUp.f F.LOG_STATUS_STATE ≠ 0 ∧
    logUp.on F.LOG_STATUS_WRITING = false ∧ (logUp.setB F.LOG_STATUS_WRITING true).on F.LOG_STATUS_WRITING = true ∧
    logUp.evtReset = false ∧ did (exec .pwrWarnFall logUp) (fun t => t.reg A.LOG_SEQ = 1) := by decide +kernel

end Sys2Proof.Tests
end

section
/-! PROOFS. Accesses through BAR0 and BAR2 (R5 to R7, R21, R24, R124, R353): one rule for each operation an access is made of,
then the obligation on them. -/

namespace Sys2Proof.Machine
open Sys2Proof

/-! ### Requests (R353) and accesses that nothing serves (R21) -/

/-- An address outside the span of a row is none of its addresses. -/
theorem inRow_outside {a base n step : Nat} (h : a < base ∨ base + n * step ≤ a) : inRow a (base, n, step) = false := by
  have hspan : ¬(base ≤ a ∧ a < base + n * step) := by omega
  simp [inRow, ← Bool.decide_and, hspan]

/-- An aligned request of one word is well formed. -/
theorem badRequest_word {a : Nat} (h : a % 4 = 0) : badRequest a 4 = false := by
  have h8 : a % 8 + 4 ≤ 8 := by omega
  simp [badRequest, h, h8]

theorem State.noClock_on (s : State) (h : s.barUp = true) : s.noClock.on F.HST_STATUS_ACC_NOCLK = true := by
  rw [State.noClock, if_pos h]
  exact s.setBRaise_on _ _ rfl (by decide) rfl

/-- `ACC_NOCLK` and its event leave the registers below the MSI-X table, `HST_STATUS` apart. -/
theorem State.noClock_reg (s : State) {a : Nat} (ha : a < 0xD0E000) (hs : a ≠ A.HST_STATUS) : s.noClock.reg a = s.reg a := by
  have hown : evtOwned a = false := by
    simp only [evtOwned, Bool.or_eq_false_iff, decide_eq_false_iff_not]
    omega
  unfold State.noClock
  split
  · exact s.setBRaise_reg _ _ _ hown hs
  · rfl

/-- A request that is refused sets `ACC_UR` where the link is up. -/
theorem State.refusedRequest_on (s : State) (h : s.barUp = true) :
    (if s.barUp then s.setBRaise F.HST_STATUS_ACC_UR 247 else s).on F.HST_STATUS_ACC_UR = true := by
  rw [if_pos h]
  exact s.setBRaise_on _ _ rfl (by decide) rfl

/-! ### Reading -/

theorem execRegisterRead_bad (s : State) (a : BitVec 26) (n : Nat) (h : badRequest a.toNat n = true) :
    execRegisterRead a n s =
      .next ((if s.barUp then s.setBRaise F.HST_STATUS_ACC_UR 247 else s).emit .unsupported) := by
  simp only [execRegisterRead, h, if_true]

theorem execRegisterRead_word (s : State) (a : BitVec 26) (h : a.toNat % 4 = 0) :
    execRegisterRead a 4 s =
      .next ((s.regRead false a.toNat).2.emit (.readData (s.regRead false a.toNat).1.toNat)) := by
  simp [execRegisterRead, badRequest_word h]

theorem State.regRead_unanswered (s : State) (keeper : Bool) (a : Nat) (h : s.answers a = false) :
    s.regRead keeper a = (0xFFFFFFFF, s.noClock) := by
  simp [State.regRead, h]

/-- A register that nothing brings up to date, that is no register of a lamp and no low word of a pair, reads its value and
leaves the state, with no high word latched for it. -/
theorem State.regRead_still (s : State) (keeper : Bool) (a : Nat) (h : s.answers a = true)
    (hl : (s.time.latch.find? fun x => x.1 = latchKey keeper a) = none) (hr : s.refresh a = s)
    (hp : s.lampPacket a = s) (hlow : pairLow a = false) : s.regRead keeper a = (s.regValue a, s) := by
  simp [State.regRead, State.regRead.lookupReg, h, hl, hr, hp, hlow]

theorem State.answers_scratch (s : State) (h : s.barUp = true) : s.answers A.DEV_SCRATCH = true := by
  have hm : alwaysAnswers (A.DEV_SCRATCH / 0x100000) = true := by decide
  simp [State.answers, h, hm]

theorem State.refresh_scratch (s : State) : s.refresh A.DEV_SCRATCH = s := rfl

theorem State.lampPacket_scratch (s : State) : s.lampPacket A.DEV_SCRATCH = s := rfl

/-- Below the buffers of LOG and LCS a register of the map reads its stored bits, without those of type WO (R5). -/
theorem State.regValue_row (s : State) {a : Nat} {r : RegRow} (ha : a < 0x1001000) (hr : findReg a = some r) :
    s.regValue a = s.reg a &&& ~~~r.wo := by
  have hexpected : inRow a (A.BST_t_EXPECTED 0, 5, A.BST_t_EXPECTED 1 - A.BST_t_EXPECTED 0) = false :=
    inRow_outside (by simp only [A.BST_t_EXPECTED]; omega)
  have hlog : ¬0x1001000 ≤ a := by omega
  have hcmd : ¬0x1002000 ≤ a := by omega
  have hreport : ¬0x1101000 ≤ a := by omega
  have hlcs : ¬0x1102000 ≤ a := by omega
  simp [State.regValue, hexpected, hlog, hcmd, hreport, hlcs, hr]

theorem State.regValue_scratch (s : State) : s.regValue A.DEV_SCRATCH = s.reg A.DEV_SCRATCH := by
  have hrow : (findReg A.DEV_SCRATCH).map (·.wo) = some 0 := by decide
  obtain ⟨r, hr, hwo⟩ := Option.map_eq_some_iff.mp hrow
  rw [s.regValue_row (by decide) hr, hwo]
  exact BitVec.and_allOnes

/-! ### Writing -/

theorem ofBytes_bytesOf (n v : Nat) : ofBytes (bytesOf n v) = v % 256 ^ n := by
  induction n generalizing v with
  | zero => simp [bytesOf, ofBytes, Nat.mod_one]
  | succ n ih =>
    rw [bytesOf, ofBytes, ih, BitVec.toNat_ofNat, Nat.pow_succ' (n := n)]
    exact Nat.mod_mul.symm

/-- A request of one word writes one register. -/
theorem State.regWrites_word (s : State) (keeper : Bool) (env : WriteEnv) (a : Nat) (v : Word) :
    s.regWrites keeper env a (bytesOf 4 v.toNat) = s.regWrite keeper env a v := by
  have hv : BitVec.ofNat 32 (ofBytes (bytesOf 4 v.toNat)) = v := by
    rw [ofBytes_bytesOf, Nat.mod_eq_of_lt (show v.toNat < 256 ^ 4 from v.isLt), BitVec.ofNat_toNat, BitVec.setWidth_eq]
  exact congrArg (s.regWrite keeper env a) hv

theorem execRegisterWrite_bad (s : State) (a : BitVec 26) (data : List Byte) (env : WriteEnv)
    (h : badRequest a.toNat data.length = true) :
    execRegisterWrite a data env s = .next (if s.barUp then s.setBRaise F.HST_STATUS_ACC_UR 247 else s) := by
  simp only [execRegisterWrite, h, if_true]

theorem execRegisterWrite_word (s : State) (a : BitVec 26) (v : Word) (env : WriteEnv) (h : a.toNat % 4 = 0) :
    execRegisterWrite a (bytesOf 4 v.toNat) env s = .next (s.regWrite false env a.toNat v) := by
  have hok : badRequest a.toNat (bytesOf 4 v.toNat).length = false := badRequest_word h
  simp only [execRegisterWrite, hok, Bool.false_eq_true, if_false, State.regWrites_word]

theorem State.regWrite_unanswered (s : State) (keeper : Bool) (env : WriteEnv) (a : Nat) (v : Word)
    (h : s.answers a = false) : s.regWrite keeper env a v = s.noClock := by
  simp [State.regWrite, h]

/-- A write to a mirror, which is half of no pair, only marks that it was tried (R124). -/
theorem State.regWrite_mirror (s : State) (keeper : Bool) (env : WriteEnv) (a : Nat) (v : Word) (h : s.answers a = true)
    (hlow : pairLow a = false) (hhigh : pairLow (a - 4) = false) (hm : isMirror a = true) :
    s.regWrite keeper env a v = s.direct := by
  simp [State.regWrite, State.write32, h, hlow, hhigh, hm]

/-- The registers of TTH, CAL, FLT and IVU are not those of LMP, LNS and SEC whose writes are commands. -/
theorem State.writePipe_plain (s : State) (a : Nat) (v : Word) (hb : a / 0x100000 ∈ [5, 6, 9, 10]) (ha : a ≠ A.TTH_CTRL) :
    s.writePipe a v = s.writePlain a v := by
  have hblock : 0x500000 ≤ a ∧ (a < 0x700000 ∨ 0x900000 ≤ a) := by
    simp only [List.mem_cons, List.not_mem_nil, or_false] at hb
    omega
  have hpeak : inRow a (A.LMP_n_PEAK 0, 2, 0x100) = false := inRow_outside (by simp only [A.LMP_n_PEAK]; omega)
  have hexp : inRow a (A.LNS_n_MAX_EXP 0, 2, 0x100) = false := inRow_outside (by simp only [A.LNS_n_MAX_EXP]; omega)
  have hrange : a ≠ A.SEC_RANGE_CTRL := by
    simp only [A.SEC_RANGE_CTRL]
    omega
  simp [State.writePipe, hpeak, hexp, hrange, ha]

/-- A write to a register of TTH, CAL, FLT or IVU that is no mirror, half of no pair and not `TTH_CTRL` acts on each bit by
its access type alone (R5). -/
theorem State.regWrite_plain (s : State) (keeper : Bool) (env : WriteEnv) (a : Nat) (v : Word) (h : s.answers a = true)
    (hlow : pairLow a = false) (hhigh : pairLow (a - 4) = false) (hm : isMirror a = false)
    (hb : a / 0x100000 ∈ [5, 6, 9, 10]) (ha : a ≠ A.TTH_CTRL) : s.regWrite keeper env a v = s.writePlain a v := by
  have hpipe := s.writePipe_plain a v hb ha
  simp only [List.mem_cons, List.not_mem_nil, or_false] at hb
  rcases hb with hb | hb | hb | hb <;>
    simp [State.regWrite, State.write32, State.lampPacket, h, hlow, hhigh, hm, hb, hpipe]

/-! ### What a write changes -/

theorem State.direct_on (s : State) : s.direct.on F.KPR_TL_STATUS_DIRECT = true :=
  s.on_setB_self _ _ (by decide) rfl

theorem State.direct_onlyReg (s : State) : OnlyReg s s.direct A.KPR_TL_STATUS := fun _ hb => s.reg_setB_ne _ _ _ hb

theorem State.writePlain_onlyReg (s : State) (a : Nat) (v : Word) : OnlyReg s (s.writePlain a v) a := by
  intro b hb
  unfold State.writePlain
  split
  · rfl
  · exact s.reg_setReg_ne _ _ _ hb

/-- One bit under the three masks of `State.writePlain`, as a choice by access type. -/
theorem accessBit_eq (old data rw w1c w1s : Bool) :
    (((old && !rw) || (data && rw)) && !(data && w1c) || data && w1s) =
      (if data = true ∧ w1s = true then true else if data = true ∧ w1c = true then false
       else if rw = true then data else old) := by
  decide +revert

/-- What a write makes of each bit of a register: W1S before W1C before RW (R5). -/
theorem State.writePlain_bit (s : State) (a : Nat) (v : Word) {r : RegRow} (hr : findReg a = some r) {i : Nat} (hi : i < 32) :
    ((s.writePlain a v).reg a).getLsbD i =
      (if v.getLsbD i = true ∧ r.w1s.getLsbD i = true then true
       else if v.getLsbD i = true ∧ r.w1c.getLsbD i = true then false
       else if r.rw.getLsbD i = true then v.getLsbD i
       else (s.reg a).getLsbD i) := by
  simp only [State.writePlain, hr, State.reg_setReg_self, BitVec.getLsbD_or, BitVec.getLsbD_and, BitVec.getLsbD_not, hi,
    decide_true, Bool.true_and]
  exact accessBit_eq _ _ _ _ _

theorem execMirrorWrite_eq (s : State) (a : BitVec 26) (v : Word) :
    execMirrorWrite a v s = .next (if isMirror a.toNat then s.direct else s) := rfl

/-! ### BAR2 (R24) -/

/-- One byte written through BAR2. -/
def State.bar2Put (s : State) (w : Bar2Writer) (a : Nat) (b : Byte) : State :=
  if s.bar2May w a then { s with sram := Mem.write s.sram a b } else s

theorem State.bar2Write_cons (s : State) (w : Bar2Writer) (a : Nat) (b : Byte) (bs : List Byte) :
    s.bar2Write w a (b :: bs) = (s.bar2Put w a b).bar2Write w (a + 1) bs := rfl

@[simp] theorem State.bar2Put_regs (s : State) (w : Bar2Writer) (a : Nat) (b : Byte) : (s.bar2Put w a b).regs = s.regs := by
  unfold State.bar2Put; split <;> rfl

@[simp] theorem State.bar2Put_cores (s : State) (w : Bar2Writer) (a : Nat) (b : Byte) : (s.bar2Put w a b).cores = s.cores := by
  unfold State.bar2Put; split <;> rfl

/-- Storing a byte changes nobody's right to write: that rests on the run states of the cores. -/
@[simp] theorem State.bar2Put_may (s : State) (w : Bar2Writer) (a : Nat) (b : Byte) : (s.bar2Put w a b).bar2May = s.bar2May := by
  unfold State.bar2Put; split <;> rfl

theorem State.bar2Put_wf (s : State) (w : Bar2Writer) (a : Nat) (b : Byte) (h : Mem.wf s.sram = true) :
    Mem.wf (s.bar2Put w a b).sram = true := by
  unfold State.bar2Put
  split
  · exact Mem.wf_write _ _ _ h
  · exact h

theorem State.bar2Put_read_self (s : State) (w : Bar2Writer) (a : Nat) (b : Byte) (h : Mem.wf s.sram = true) :
    Mem.read (s.bar2Put w a b).sram a = if s.bar2May w a then b else Mem.read s.sram a := by
  unfold State.bar2Put
  split
  · exact Mem.read_write_self _ _ _ h
  · rfl

theorem State.bar2Put_read_ne (s : State) (w : Bar2Writer) {a c : Nat} (b : Byte) (hc : c ≠ a) :
    Mem.read (s.bar2Put w a b).sram c = Mem.read s.sram c := by
  unfold State.bar2Put
  split
  · exact Mem.read_write_ne _ _ _ _ hc
  · rfl

theorem State.bar2Write_regs (s : State) (w : Bar2Writer) (a : Nat) (data : List Byte) :
    (s.bar2Write w a data).regs = s.regs := by
  induction data generalizing s a with
  | nil => rfl
  | cons b bs ih => rw [State.bar2Write_cons, ih, State.bar2Put_regs]

theorem State.bar2Write_cores (s : State) (w : Bar2Writer) (a : Nat) (data : List Byte) :
    (s.bar2Write w a data).cores = s.cores := by
  induction data generalizing s a with
  | nil => rfl
  | cons b bs ih => rw [State.bar2Write_cons, ih, State.bar2Put_cores]

/-- After a BAR2 write, the bytes it names that its writer may write read as written, every other byte as before. -/
theorem State.bar2Write_read (s : State) (w : Bar2Writer) (a : Nat) (data : List Byte) (c : Nat) (h : Mem.wf s.sram = true) :
    Mem.read (s.bar2Write w a data).sram c =
      if a ≤ c ∧ c < a + data.length ∧ s.bar2May w c = true then data.getD (c - a) 0 else Mem.read s.sram c := by
  induction data generalizing s a with
  | nil =>
    rw [if_neg (by simp only [List.length_nil]; omega)]
    rfl
  | cons b bs ih =>
    rw [State.bar2Write_cons, ih _ _ (s.bar2Put_wf w a b h), State.bar2Put_may, List.length_cons]
    by_cases hc : c = a
    · subst hc
      rw [if_neg (by omega), State.bar2Put_read_self _ _ _ _ h]
      simp
    · rw [State.bar2Put_read_ne _ _ _ hc]
      by_cases hin : a + 1 ≤ c ∧ c < a + 1 + bs.length ∧ s.bar2May w c = true
      · have hidx : c - a = c - (a + 1) + 1 := by omega
        rw [if_pos hin, if_pos ⟨by omega, by omega, hin.2.2⟩, hidx, List.getD_cons_succ]
      · rw [if_neg hin, if_neg fun ⟨hle, hlt, hmay⟩ => hin ⟨by omega, by omega, hmay⟩]

/-- The host writes X/Y memory of a core that does not run; a peer also writes the completion queues (R24, R378). -/
theorem State.bar2May_iff (s : State) (w : Bar2Writer) (a : Nat) : s.bar2May w a = true ↔
    (0x1A00000 ≤ a ∧ a < 0x1E00000 ∧ s.coreState (xyCore a) ≠ 1) ∨ (w = .peer ∧ 0x2D90000 ≤ a ∧ a < 0x2DD0000) := by
  simp [State.bar2May, State.hostMayWrite, and_assoc]

/-! ### The obligation -/

/-- `DEV_SCRATCH` answers whenever the link is up, and reads its value (R476, R477). -/
theorem registerRead_scratch (s : State) (hperst : s.pins.perstN = true) (hpor : s.pins.por = false)
    (hlatch : (s.time.latch.find? fun x => x.1 = A.DEV_SCRATCH) = none) :
    ∃ t, exec (.registerRead (BitVec.ofNat 26 A.DEV_SCRATCH) 4) s = .next t ∧
      t.out = .readData (s.reg A.DEV_SCRATCH).toNat :: s.out := by
  have hup : s.barUp = true := by simp [State.barUp, hperst, hpor]
  have hread : s.regRead false A.DEV_SCRATCH = (s.reg A.DEV_SCRATCH, s) := by
    rw [s.regRead_still false _ (s.answers_scratch hup) hlatch s.refresh_scratch s.lampPacket_scratch (by decide),
      s.regValue_scratch]
  have hexec := execRegisterRead_word s (BitVec.ofNat 26 A.DEV_SCRATCH) (by decide)
  have haddr : (BitVec.ofNat 26 A.DEV_SCRATCH).toNat = A.DEV_SCRATCH := by decide
  rw [haddr, hread] at hexec
  exact ⟨_, hexec, rfl⟩

/-- Settles O16: each clause is a rule of the operation that the access comes to; the BAR2 clause is an induction on the bytes
written. -/
theorem registerAccesses : Obligations.RegisterAccesses := by
  refine ⟨?badRead, ?deadRead, registerRead_scratch, ?badWrite, ?write, ?mirror, ?bar2⟩
  case badRead =>
    intro s a n hbad
    exact ⟨_, execRegisterRead_bad s a n hbad, rfl, s.refusedRequest_on⟩
  case deadRead =>
    intro s a h4 hdead
    refine ⟨_, execRegisterRead_word s a h4, ?_⟩
    rw [s.regRead_unanswered false _ hdead]
    exact ⟨rfl, s.noClock_on⟩
  case badWrite =>
    intro s a data env hbad hup
    exact ⟨_, execRegisterWrite_bad s a data env hbad, s.refusedRequest_on hup⟩
  case write =>
    intro s a v env h4
    refine ⟨_, execRegisterWrite_word s a v env h4, fun hdead => ?_,
      fun hlive hlow hhigh => ⟨fun hm => ?_, fun hm hb ha => ?_⟩⟩
    · rw [s.regWrite_unanswered false env _ v hdead]
      exact ⟨s.noClock_on, s.noClock_reg⟩
    · rw [s.regWrite_mirror false env _ v hlive hlow hhigh hm]
      exact ⟨s.direct_on, s.direct_onlyReg⟩
    · rw [s.regWrite_plain false env _ v hlive hlow hhigh hm hb ha]
      exact ⟨s.writePlain_onlyReg _ v, fun _ hr _ hi => s.writePlain_bit _ v hr hi⟩
  case mirror =>
    intro s a v
    refine ⟨_, execMirrorWrite_eq s a v, ?_⟩
    split
    · exact ⟨s.direct_on, s.direct_onlyReg⟩
    · rfl
  case bar2 =>
    intro s w o data hwf
    refine ⟨s.bar2Write w o.toNat data, rfl, s.bar2Write_regs w _ data, s.bar2Write_cores w _ data, fun b => ?_⟩
    rw [s.bar2Write_read w _ data b hwf]
    simp only [State.bar2May_iff]

end Sys2Proof.Machine
end

section
/-! PROOFS. The sample timeline (R44 to R56): what reaches the RUNNING streams, what moving time on keeps, then the obligation on
the timeline's commands. -/

namespace Sys2Proof.Machine
open Sys2Proof

/-! ### A record in every RUNNING stream (R363, R367, R371) -/

@[simp] theorem State.raiseLimited_held (s : State) (i us : Nat) : (s.raiseLimited i us).held = s.held := by
  have h := congrArg State.held (s.raiseLimited_apart i us)
  exact h

/-- `SEQ` of stream `k` counts one record (R371). -/
def State.countSeq (s : State) (k : Fin 64) : State :=
  s.setPair (A.STR_s_SEQ_LO k) ((s.pair (A.STR_s_SEQ_LO k) + 1) % 2 ^ 48)

/-- What a stream does with a record it selects: a stopped one drops it, another keeps it (R366, R371). -/
theorem State.take_cases (s : State) (r : Record) (k : Fin 64) :
    ((s.countSeq k).strState k = 3 ∧ s.take r k = (s.countSeq k).countDrop k) ∨
    ((s.countSeq k).strState k ≠ 3 ∧ ∃ g, s.take r k = (s.countSeq k).modStream k g) := by
  by_cases h : (s.countSeq k).strState k = 3
  · exact Or.inl ⟨h, if_pos h⟩
  · exact Or.inr ⟨h, _, if_neg h⟩

theorem State.countSeq_time_held (s : State) (k : Fin 64) : (s.countSeq k).time = s.time ∧ (s.countSeq k).held = s.held :=
  ⟨s.setPair_time _ _, s.setPair_held _ _⟩

theorem State.countDrop_time_held (s : State) (k : Fin 64) (n : Nat) :
    (s.countDrop k n).time = s.time ∧ (s.countDrop k n).held = s.held := by
  unfold State.countDrop
  extract_lets t
  rw [State.raiseLimited_time, State.raiseLimited_held, State.modStream_time, State.modStream_held]
  exact ⟨s.setPair_time _ _, s.setPair_held _ _⟩

@[simp] theorem State.take_time_held (s : State) (r : Record) (k : Fin 64) :
    (s.take r k).time = s.time ∧ (s.take r k).held = s.held := by
  obtain ⟨-, h⟩ | ⟨-, g, h⟩ := s.take_cases r k
  · rw [h, (State.countDrop_time_held _ _ _).1, (State.countDrop_time_held _ _ _).2]
    exact s.countSeq_time_held k
  · rw [h, State.modStream_time, State.modStream_held]
    exact s.countSeq_time_held k

@[simp] theorem State.toEnabled_time_held (s : State) (r : Record) (ks : List (Fin 64)) :
    (s.toEnabled r ks).time = s.time ∧ (s.toEnabled r ks).held = s.held := by
  induction ks generalizing s with
  | nil => exact ⟨rfl, rfl⟩
  | cons k ks ih =>
    rw [State.toEnabled, (ih _).1, (ih _).2]
    split
    · exact s.take_time_held r k
    · exact ⟨rfl, rfl⟩

/-- Is `a` a word of the `SEQ` pair of stream `k`? -/
def seqWord (k : Fin 64) (a : Nat) : Prop := a = A.STR_s_SEQ_LO k ∨ a = A.STR_s_SEQ_LO k + 4

/-- No register above the streams' own is a word of a `SEQ` pair. -/
theorem not_seqWord_above {a : Nat} (h : 0xD04000 ≤ a) (k : Fin 64) : ¬ seqWord k a := by
  simp only [seqWord, A.STR_s_SEQ_LO]
  omega

theorem not_seqWord_status (j k : Fin 64) : ¬ seqWord j (F.STR_s_STATUS_STATE k).addr := by
  simp only [seqWord, A.STR_s_SEQ_LO, F.STR_s_STATUS_STATE]
  omega

/-- The `SEQ` pairs of two streams share no word. -/
theorem not_seqWord_other {j k : Fin 64} (h : j ≠ k) :
    ¬ seqWord j (A.STR_s_SEQ_LO k) ∧ ¬ seqWord j (A.STR_s_SEQ_LO k + 4) := by
  have hval : j.val ≠ k.val := fun e => h (Fin.ext e)
  simp only [seqWord, A.STR_s_SEQ_LO]
  omega

theorem State.countSeq_reg (s : State) (k : Fin 64) {a : Nat} (ha : ¬ seqWord k a) : (s.countSeq k).reg a = s.reg a := by
  rw [seqWord, not_or] at ha
  exact s.reg_setPair_ne _ _ _ ha.1 ha.2

theorem State.countSeq_seq (s : State) (k : Fin 64) :
    (s.countSeq k).pair (A.STR_s_SEQ_LO k) = (s.pair (A.STR_s_SEQ_LO k) + 1) % 2 ^ 48 :=
  (s.pair_setPair_self _ _).trans
    (Nat.mod_eq_of_lt (Nat.lt_trans (Nat.mod_lt _ (Nat.two_pow_pos 48)) (Nat.pow_lt_pow_right (by decide) (by decide))))

theorem State.countSeq_strState (s : State) (j k : Fin 64) : (s.countSeq j).strState k = s.strState k := by
  unfold State.strState State.f
  rw [s.countSeq_reg j (not_seqWord_status j k)]

/-- A RUNNING stream takes a record: its `SEQ` counts it, and no other register changes. -/
theorem State.take_running_reg (s : State) (r : Record) (k : Fin 64) (h : s.strState k = 2) (a : Nat) :
    (s.take r k).reg a = (s.countSeq k).reg a := by
  obtain ⟨h3, -⟩ | ⟨-, g, hg⟩ := s.take_cases r k
  · rw [s.countSeq_strState, h] at h3
    exact absurd h3 (by decide)
  · rw [hg, State.modStream_reg]

/-- A record put into the RUNNING streams of a list leaves every register but their `SEQ` pairs. -/
theorem State.toEnabled_reg (s : State) (r : Record) (ks : List (Fin 64)) {a : Nat} (ha : ∀ k ∈ ks, ¬ seqWord k a) :
    (s.toEnabled r ks).reg a = s.reg a := by
  induction ks generalizing s with
  | nil => rfl
  | cons k ks ih =>
    rw [State.toEnabled, ih _ fun j hj => ha j (List.mem_cons_of_mem k hj)]
    split
    · rw [s.take_running_reg r k ‹_›, s.countSeq_reg k (ha k List.mem_cons_self)]
    · rfl

/-- Each RUNNING stream of a list without repetition counts one record. -/
theorem State.toEnabled_seq (s : State) (r : Record) {ks : List (Fin 64)} (hnd : ks.Nodup) {k : Fin 64} (hk : k ∈ ks)
    (h : s.strState k = 2) :
    (s.toEnabled r ks).pair (A.STR_s_SEQ_LO k) = (s.pair (A.STR_s_SEQ_LO k) + 1) % 2 ^ 48 := by
  induction ks generalizing s with
  | nil => exact absurd hk List.not_mem_nil
  | cons j ks ih =>
    obtain ⟨hj, hnd⟩ := List.nodup_cons.mp hnd
    rw [State.toEnabled]
    by_cases hjk : j = k
    · subst hjk
      have hrest (i : Fin 64) (hi : i ∈ ks) := not_seqWord_other (j := i) (k := j) fun e => hj (e ▸ hi)
      rw [if_pos h, State.pair, State.toEnabled_reg _ _ _ fun i hi => (hrest i hi).1,
        State.toEnabled_reg _ _ _ fun i hi => (hrest i hi).2, s.take_running_reg r j h, s.take_running_reg r j h]
      exact s.countSeq_seq j
    · have hkks : k ∈ ks := (List.mem_cons.mp hk).resolve_left (Ne.symm hjk)
      split
      case isTrue hrun =>
        have hstate : (s.take r j).strState k = 2 := by
          unfold State.strState State.f
          rw [s.take_running_reg r j hrun]
          exact (s.countSeq_strState j k).trans h
        obtain ⟨hlo, hhi⟩ := not_seqWord_other hjk
        rw [ih _ hnd hkks hstate, State.pair, s.take_running_reg r j hrun, s.take_running_reg r j hrun,
          s.countSeq_reg j hlo, s.countSeq_reg j hhi]
        rfl
      case isFalse => exact ih s hnd hkks h

@[simp] theorem State.marker_time_held (s : State) (source : Nat) (tick : Long) (param : Nat) (flags : BitVec 24) :
    (s.marker source tick param flags).time = s.time ∧ (s.marker source tick param flags).held = s.held :=
  s.toEnabled_time_held _ _

/-- A status marker is one record in each RUNNING stream. -/
theorem State.marker_seq (s : State) (source : Nat) (tick : Long) (param : Nat) (flags : BitVec 24) (k : Fin 64)
    (h : s.strState k = 2) :
    (s.marker source tick param flags).pair (A.STR_s_SEQ_LO k) = (s.pair (A.STR_s_SEQ_LO k) + 1) % 2 ^ 48 :=
  s.toEnabled_seq _ (List.nodup_finRange 64) (List.mem_finRange k) h

/-! ### Counting samples (R34, R35, R56) -/

@[simp] theorem State.count_time_held (s : State) (n : Nat) :
    (s.count n).time = s.time.pass s.kclkMHz s.tclkMHz n ∧ (s.count n).held = s.held := by
  unfold State.count
  extract_lets t
  split
  · exact ⟨rfl, rfl⟩
  · exact t.marker_time_held _ _ _ _

/-- The count that wraps the tick counter puts one marker into each RUNNING stream. -/
theorem State.count_wrap_seq (s : State) (n : Nat) (hn : 2 ^ 64 ≤ s.time.tick.toNat + n) (k : Fin 64) (h : s.strState k = 2) :
    (s.count n).pair (A.STR_s_SEQ_LO k) = (s.pair (A.STR_s_SEQ_LO k) + 1) % 2 ^ 48 := by
  unfold State.count
  extract_lets t
  rw [if_neg (by omega)]
  exact t.marker_seq _ _ _ _ k h

/-- With nothing held and no reset waiting, time moves on to the wrap by counting (R56). -/
theorem execTickWrap_quiet (s : State) (h : Quiet s) : exec .tickWrap s = .next (s.count (2 ^ 64 - s.time.tick.toNat)) := by
  obtain ⟨hheld, hwait⟩ := h
  have hlt : s.time.tick.toNat < 2 ^ 64 := s.time.tick.isLt
  show Host.Outcome.next (s.advanceToBy (2 ^ 64) (2 * s.time.waiting.length)) = _
  rw [hwait, List.length_nil, Nat.mul_zero, State.advanceToBy, if_pos hlt, s.run_eq_count _ hheld]

/-! ### Synchronising resets move no sample and hold no output (R50) -/

@[simp] theorem State.raise_held (s : State) (i : Nat) : (s.raise i).held = s.held := by
  have h := congrArg State.held (s.raise_apart i)
  exact h

@[simp] theorem State.rangeBit_time_held (s : State) (b : Nat) :
    (s.rangeBit b).time = s.time ∧ (s.rangeBit b).held = s.held := by
  have h := congrArg State.held (s.setBRaise_apart ⟨A.SEC_RANGE_STATUS, b, 1⟩ 139)
  exact ⟨s.setBRaise_time _ _, h⟩

@[simp] theorem State.secEvent_time_held (s : State) (src n frac : Nat) (flags : BitVec 24) (prog : Option Nat)
    (bin : Option (Int × Int)) (last : Nat) (ch : Option (Fin 2)) (from_ : Nat) :
    (s.secEvent src n frac flags prog bin last ch from_).time = s.time ∧
      (s.secEvent src n frac flags prog bin last ch from_).held = s.held := by
  unfold State.secEvent
  split <;> exact ⟨rfl, rfl⟩

@[simp] theorem State.pulseEvents_time_held (s : State) (n : Nat) (w : List PendingSync) :
    (s.pulseEvents n w).time = s.time ∧ (s.pulseEvents n w).held = s.held := by
  induction w generalizing s with
  | nil => exact ⟨rfl, rfl⟩
  | cons x xs ih =>
    rw [State.pulseEvents, (ih _).1, (ih _).2]
    split
    · exact s.secEvent_time_held ..
    · exact ⟨rfl, rfl⟩

@[simp] theorem State.syncPhase_time_held (s : State) (w : List PendingSync) :
    (s.syncPhase w).time = s.time ∧ (s.syncPhase w).held = s.held := by
  unfold State.syncPhase
  cases w.find? (·.pulse) with
  | none => exact ⟨rfl, rfl⟩
  | some x =>
    extract_lets t
    have ht : t.time = s.time ∧ t.held = s.held := by
      unfold t
      split
      · exact ⟨rfl, rfl⟩
      · exact ⟨s.setB_time _ _, s.setB_held _ _⟩
    clear_value t
    dsimp only
    cases x.edge.bind t.refPhase with
    | none =>
      rw [State.setB_time, State.setB_held]
      exact ht
    | some p =>
      rw [State.setB_time, State.setB_held, State.setF_time, State.setF_held]
      exact ht

@[simp] theorem State.fltLog_time_held (s : State) (ch : Fin 2) (n : Nat) :
    (s.fltLog ch n).time = s.time ∧ (s.fltLog ch n).held = s.held := by
  unfold State.fltLog
  extract_lets v l same
  split <;> simp

@[simp] theorem State.fltRestart_time_held (s : State) (ch : Fin 2) (r : Nat) :
    (s.fltRestart ch r).time = s.time ∧ (s.fltRestart ch r).held = s.held := by
  unfold State.fltRestart State.fltSettling
  extract_lets new again t u v
  have hv : v.time = s.time ∧ v.held = s.held := by simp [v, u, t]
  split
  · exact hv
  · simpa using hv

@[simp] theorem State.fltSync_time_held (s : State) (ch : Fin 2) (r : Nat) :
    (s.fltSync ch r).time = s.time ∧ (s.fltSync ch r).held = s.held := by
  unfold State.fltSync
  split
  · exact ⟨rfl, rfl⟩
  · exact s.fltRestart_time_held ch r

/-- `t` stands at the sample of `s`, with the same outputs held. -/
def SameSample (s t : State) : Prop := t.time.samples = s.time.samples ∧ t.held = s.held

theorem SameSample.refl (s : State) : SameSample s s := ⟨rfl, rfl⟩

theorem SameSample.trans {s t u : State} (h : SameSample s t) (g : SameSample t u) : SameSample s u :=
  ⟨g.1.trans h.1, g.2.trans h.2⟩

theorem SameSample.of_time {s t : State} (h : t.time = s.time ∧ t.held = s.held) : SameSample s t :=
  ⟨congrArg Time.samples h.1, h.2⟩

theorem SameSample.setPair (s : State) (a v : Nat) : SameSample s (s.setPair a v) := ⟨rfl, rfl⟩

theorem SameSample.setB (s : State) (x : Fld) (b : Bool) : SameSample s (s.setB x b) := ⟨rfl, rfl⟩

theorem SameSample.incSat (s : State) (x : Fld) : SameSample s (s.incSat x) := ⟨rfl, rfl⟩

theorem SameSample.rangeBit (s : State) (b : Nat) : SameSample s (s.rangeBit b) := .of_time (s.rangeBit_time_held b)

theorem SameSample.pulseEvents (s : State) (n : Nat) (w : List PendingSync) : SameSample s (s.pulseEvents n w) :=
  .of_time (s.pulseEvents_time_held n w)

theorem SameSample.fltSync (s : State) (ch : Fin 2) (r : Nat) : SameSample s (s.fltSync ch r) :=
  .of_time (s.fltSync_time_held ch r)

theorem SameSample.ite {s t u : State} {c : Prop} [Decidable c] (ht : SameSample s t) (hu : SameSample s u) :
    SameSample s (if c then t else u) := by
  split
  · exact ht
  · exact hu

/-- A synchronising reset moves no sample (R50): it relabels, refused or made. -/
theorem SameSample.syncNow (s : State) (w : List PendingSync) : SameSample s (s.syncNow w) := by
  unfold State.syncNow
  extract_lets v nat time0 met told time1 labelled shown tth1 jumped counted trusted restarted
  have hmet : SameSample s met := ⟨rfl, rfl⟩
  have htold : SameSample s told := hmet.trans (.ite (.rangeBit met 3) (.refl met))
  refine .ite ?refused ?made
  case refused =>
    exact htold.trans (.trans (.trans (.rangeBit told 1) (.of_time ⟨State.raise_time _ _, State.raise_held _ _⟩))
      (.pulseEvents _ _ w))
  case made =>
    have hlabelled : SameSample told labelled := ⟨rfl, rfl⟩
    have hshown : SameSample labelled shown :=
      .trans (.trans (.of_time (labelled.syncPhase_time_held w)) (.pulseEvents _ _ w)) (.setPair _ _ _)
    have hjumped : SameSample shown jumped := ⟨rfl, rfl⟩
    have hcounted : SameSample jumped counted := .trans (.incSat jumped _) (.rangeBit _ 0)
    have htrusted : SameSample counted trusted := .ite (.setB _ _ _) (.refl counted)
    have hrestarted : SameSample trusted restarted := .trans (.fltSync _ _ _) (.fltSync _ _ _)
    exact htold.trans (hlabelled.trans (hshown.trans (hjumped.trans (hcounted.trans (htrusted.trans
      (hrestarted.trans (.of_time (restarted.marker_time_held _ _ _ _))))))))

theorem SameSample.syncDue (s : State) : SameSample s s.syncDue := by
  unfold State.syncDue
  extract_lets n due rest late time
  refine .ite (.refl s) (.ite ?deferred ?made)
  case deferred =>
    have hwait : SameSample s { s with time := { time with waiting := rest ++ late } } := ⟨rfl, rfl⟩
    exact hwait.trans (.rangeBit _ 5)
  case made =>
    have hrest : SameSample s { s with time := { time with waiting := rest } } := ⟨rfl, rfl⟩
    exact hrest.trans (.syncNow _ _)

/-! ### Moving the converter on -/

/-- The earliest reset of a list lies within the samples asked for. -/
theorem firstSync_bounds {from_ n m : Nat} {w : List PendingSync} (h : firstSync from_ n w = some m) :
    from_ < m ∧ m ≤ from_ + n := by
  induction w generalizing m with
  | nil => exact absurd h nofun
  | cons x xs ih =>
    rw [firstSync] at h
    cases hxs : firstSync from_ n xs with
    | none =>
      simp only [hxs, Option.ite_none_right_eq_some, Option.some.injEq, Bool.and_eq_true, decide_eq_true_eq] at h
      omega
    | some k =>
      have hk := ih hxs
      simp only [hxs] at h
      split at h
      case isTrue hx =>
        simp only [Bool.and_eq_true, decide_eq_true_eq, Option.some.injEq] at hx h
        omega
      case isFalse => exact Option.some.inj h ▸ hk

/-- With no output held, moving on by `n` samples moves on by `n`, whatever resets are made on the way (R50). -/
theorem State.advanceBy_samples (s : State) (n fuel : Nat) (h : s.held = []) :
    (s.advanceBy n fuel).time.samples = s.time.samples + n := by
  induction fuel generalizing s n with
  | zero => simp [State.advanceBy, s.run_eq_count n h]
  | succ fuel ih =>
    rw [State.advanceBy]
    cases hfirst : firstSync s.time.samples n s.time.waiting with
    | none => simp [s.run_eq_count n h]
    | some m =>
      have hm := firstSync_bounds hfirst
      dsimp only
      rw [s.run_eq_count _ h]
      have hsync := SameSample.syncDue (s.count (m - s.time.samples))
      rw [ih _ _ (hsync.2.trans ((s.count_time_held _).2.trans h)), hsync.1, (s.count_time_held _).1, Time.pass_samples]
      omega

/-- With no output held, the converter comes to the sample asked for. -/
theorem State.advanceSamples_samples (s : State) {m : Nat} (h : s.held = []) (hm : s.time.samples ≤ m) :
    (s.advanceSamples m).time.samples = m := by
  unfold State.advanceSamples
  split
  · rw [State.advance, s.advanceBy_samples _ _ h]
    omega
  · omega

theorem execSyncDeferred_some (s : State) {m : Nat}
    (h : firstSync s.time.samples (2 ^ 64) (s.time.waiting.filter fun x => x.at_ % 64 = 0) = some m) :
    exec .syncDeferred s = .next (s.advanceSamples m) := by
  show execSyncDeferred s = _
  rw [execSyncDeferred, h]

/-! ### Anchors (R44 to R49) -/

theorem State.anchorErr_le (s : State) : s.anchorErr ≤ 3 := by
  unfold State.anchorErr
  dsimp only
  (repeat' split) <;> decide

/-- The anchor that the registers give, with the programmed rate (R44, R45). -/
def State.anchorWritten (s : State) : Anchor :=
  { tai := s.pair A.STR_ANCHOR_TAI_LO, tick := s.pair A.STR_ANCHOR_TICK_LO, frac := s.f F.STR_ANCHOR_FRAC_FRAC, rate := s.clk.rate }

/-- The index after `old` (R46): 65535 is followed by 1. -/
def anchorNext (old : Nat) : Nat := if old = 65535 then 1 else old + 1

/-- `SUSPECT` clears on an accepted commit when the sample clock is locked (R48). -/
def State.anchorTrusted (s : State) : State :=
  if s.on F.CLK_STATUS_SC_LOCKED then s.setB F.STR_ANCHOR_STATUS_SUSPECT false else s

/-- `s` with `a` kept as the last accepted anchor. -/
def State.withAnchor (s : State) (a : Anchor) : State := { s with time := { s.time with anchorPrev := some a } }

theorem State.withAnchor_f (s : State) (a : Anchor) (x : Fld) : (s.withAnchor a).f x = s.f x := rfl

/-- `s` with the written anchor accepted, its records apart. -/
def State.anchorAccepted (s : State) : State :=
  ((s.setF F.STR_ANCHOR_STATUS_INDEX (anchorNext (s.f F.STR_ANCHOR_STATUS_INDEX))).setB
    F.STR_ANCHOR_STATUS_BUSY true).anchorTrusted.withAnchor s.anchorWritten

/-- `s` with the code of its commit shown (R44). -/
def State.anchorAnswered (s : State) : State := s.setF F.STR_ANCHOR_STATUS_ERR s.anchorErr

/-- A refused commit shows its code alone (R44). -/
theorem State.anchorCommit_refused (s : State) (h : s.anchorErr ≠ 0) : s.anchorCommit = s.anchorAnswered :=
  if_pos (bne_iff_ne.mpr h)

/-- An accepted commit puts one anchor record into each RUNNING stream (R45). -/
theorem State.anchorCommit_accepted (s : State) (h : s.anchorErr = 0) :
    ∃ r, s.anchorCommit = s.anchorAnswered.anchorAccepted.toEnabled r (List.finRange 64) :=
  ⟨_, if_neg (by simp [h])⟩

theorem State.anchorAnswered_f (s : State) (x : Fld) (h : F.STR_ANCHOR_STATUS_ERR.apart x = true) :
    s.anchorAnswered.f x = s.f x := s.f_setF_apart _ _ _ (by decide) h

theorem State.anchorAnswered_err (s : State) : s.anchorAnswered.f F.STR_ANCHOR_STATUS_ERR = s.anchorErr :=
  (s.f_setF_self _ _ (by decide)).trans (Nat.mod_eq_of_lt (show s.anchorErr < 2 ^ 3 from Nat.lt_of_le_of_lt s.anchorErr_le (by decide)))

theorem State.anchorAnswered_written (s : State) : s.anchorAnswered.anchorWritten = s.anchorWritten := by
  have hpair (a : Nat) (ha : a + 4 < F.STR_ANCHOR_STATUS_ERR.addr) : s.anchorAnswered.pair a = s.pair a := by
    unfold State.pair State.anchorAnswered
    rw [s.reg_setF_ne _ _ _ (by omega), s.reg_setF_ne _ _ _ (by omega)]
  unfold State.anchorWritten
  rw [hpair _ (by decide), hpair _ (by decide), s.anchorAnswered_f _ (by decide), State.anchorAnswered, State.setF_clk]

theorem State.anchorTrusted_f (s : State) (x : Fld) (h : F.STR_ANCHOR_STATUS_SUSPECT.apart x = true) :
    s.anchorTrusted.f x = s.f x := by
  unfold State.anchorTrusted
  split
  · exact s.f_setF_apart _ _ _ (by decide) h
  · rfl

theorem State.anchorAccepted_f (s : State) (x : Fld) (h : F.STR_ANCHOR_STATUS_SUSPECT.apart x = true) :
    s.anchorAccepted.f x = ((s.setF F.STR_ANCHOR_STATUS_INDEX (anchorNext (s.f F.STR_ANCHOR_STATUS_INDEX))).setB
      F.STR_ANCHOR_STATUS_BUSY true).f x := by
  rw [State.anchorAccepted, State.withAnchor_f, State.anchorTrusted_f _ x h]

theorem State.anchorAccepted_err (s : State) : s.anchorAccepted.f F.STR_ANCHOR_STATUS_ERR = s.f F.STR_ANCHOR_STATUS_ERR := by
  rw [s.anchorAccepted_f _ (by decide), State.setB, State.f_setF_apart _ _ _ _ (by decide) (by decide),
    State.f_setF_apart _ _ _ _ (by decide) (by decide)]

theorem State.anchorAccepted_index (s : State) :
    s.anchorAccepted.f F.STR_ANCHOR_STATUS_INDEX = anchorNext (s.f F.STR_ANCHOR_STATUS_INDEX) := by
  have hold : s.f F.STR_ANCHOR_STATUS_INDEX < 2 ^ 16 := s.f_lt _
  have hnew : anchorNext (s.f F.STR_ANCHOR_STATUS_INDEX) < 2 ^ 16 := by
    unfold anchorNext
    split <;> omega
  rw [s.anchorAccepted_f _ (by decide), State.setB, State.f_setF_apart _ _ _ _ (by decide) (by decide),
    State.f_setF_self _ _ _ (by decide)]
  exact Nat.mod_eq_of_lt hnew

theorem State.anchorAccepted_busy (s : State) : s.anchorAccepted.on F.STR_ANCHOR_STATUS_BUSY = true := by
  rw [State.on, s.anchorAccepted_f _ (by decide)]
  exact State.on_setB_self _ _ _ (by decide) rfl

/-- The records of an anchor leave its status register. -/
theorem State.anchorRecords_f (s : State) (r : Record) {x : Fld} (hx : 0xD04000 ≤ x.addr) :
    (s.toEnabled r (List.finRange 64)).f x = s.f x := by
  unfold State.f
  rw [s.toEnabled_reg _ _ fun k _ => not_seqWord_above hx k]

/-! ### Range (R53 to R55) -/

theorem State.rangeBit_on (s : State) (b : Nat) (h : b < 32) : (s.rangeBit b).on ⟨A.SEC_RANGE_STATUS, b, 1⟩ = true :=
  s.setBRaise_on _ _ (show evtOwned A.SEC_RANGE_STATUS = false by decide) h rfl

/-- A status bit of Range leaves the load value. -/
theorem State.rangeBit_load (s : State) (b : Nat) : (s.rangeBit b).pair A.SEC_RANGE_LOAD_LO = s.pair A.SEC_RANGE_LOAD_LO := by
  have hreg (a : Nat) (ha : a < A.SEC_RANGE_STATUS) : (s.rangeBit b).reg a = s.reg a := by
    refine s.setBRaise_reg _ _ _ ?_ (Nat.ne_of_lt ha)
    have hlow : a < 0x80F020 := ha
    simp only [evtOwned, Bool.or_eq_false_iff, decide_eq_false_iff_not]
    omega
  unfold State.pair
  rw [hreg _ (by decide), hreg _ (by decide)]

theorem State.setSyncOut_pin (s : State) (b : Bool) : (s.setSyncOut b).pins.syncOut = b := by
  unfold State.setSyncOut
  split
  · assumption
  · rfl

theorem State.rangeTakes_eq (s : State) : s.rangeTakes =
    (s.on F.SEC_RANGE_CTRL_ARM && (s.on F.SEC_RANGE_CTRL_MODE || s.time.waiting.all fun x => !x.pulse)) := by
  rw [State.rangeTakes, List.not_any_eq_all_not]

/-- What a qualifying edge does at its tick (R53, R54): `NOLOCK`, its event alone, or a reset scheduled. -/
def State.rangeEdge (s : State) (n : Nat) (w : PendingSync) : State :=
  if !s.on F.CLK_STATUS_SC_LOCKED then s.rangeBit 2
  else if !s.rangeTakes then s.pulseEvents n [w]
  else { s with time := { s.time with waiting := s.time.waiting ++ [w] } }

theorem State.rangeEdge_waiting (s : State) (n : Nat) (w : PendingSync) :
    (s.rangeEdge n w).time.waiting =
      s.time.waiting ++ if s.on F.CLK_STATUS_SC_LOCKED && s.rangeTakes then [w] else [] := by
  unfold State.rangeEdge
  cases s.on F.CLK_STATUS_SC_LOCKED <;> cases s.rangeTakes <;> simp

theorem State.rangeEdge_nolock (s : State) (n : Nat) (w : PendingSync) (h : s.on F.CLK_STATUS_SC_LOCKED = false) :
    (s.rangeEdge n w).on F.SEC_RANGE_STATUS_NOLOCK = true := by
  rw [State.rangeEdge, h]
  exact s.rangeBit_on 2 (by decide)

/-! ### The obligation -/

/-- Settles O1: each clause is a rule of the operation that the command comes to; the wrap's records are an induction on the
streams, and the deferred reset's sample is one on the resets made on the way. -/
theorem timelineCommandsAct : Obligations.TimelineCommandsAct := by
  refine ⟨?wrap, ?commit, ?emitted, ?arm, ?disarm, ?load, ?pulseEnd, ?edge, ?deferred⟩
  case wrap =>
    intro s hq
    have hlt := s.time.tick.isLt
    refine ⟨_, execTickWrap_quiet s hq, ?_, by simp, fun k => s.count_wrap_seq _ (by omega) k⟩
    rw [(s.count_time_held _).1, Time.pass_tick]
    bv_omega
  case commit =>
    intro s
    refine ⟨s.anchorCommit, rfl, ?_⟩
    by_cases herr : s.anchorErr = 0
    · obtain ⟨r, hr⟩ := s.anchorCommit_accepted herr
      rw [hr, State.on, State.anchorRecords_f _ _ (by decide), State.anchorRecords_f _ _ (by decide),
        State.anchorRecords_f _ _ (by decide), State.anchorAccepted_err, s.anchorAnswered_err, State.anchorAccepted_index,
        s.anchorAnswered_f _ (by decide), if_neg (not_not_intro herr), (State.toEnabled_time_held _ _ _).1]
      exact ⟨rfl, rfl, fun _ => ⟨State.anchorAccepted_busy _, congrArg some s.anchorAnswered_written⟩⟩
    · rw [s.anchorCommit_refused herr, s.anchorAnswered_err, s.anchorAnswered_f _ (by decide), if_pos herr]
      exact ⟨rfl, rfl, fun h => absurd h herr⟩
  case emitted => exact fun s => ⟨_, rfl, s.on_setB_self _ _ (by decide) rfl⟩
  case arm => exact fun s => ⟨_, rfl, s.on_setB_self _ _ (by decide) rfl, fun a ha => s.reg_setB_ne _ _ a ha⟩
  case disarm => exact fun s => ⟨_, rfl, s.on_setB_self _ _ (by decide) rfl, fun a ha => s.reg_setB_ne _ _ a ha⟩
  case load =>
    intro s v
    refine ⟨s.rangeLoad v.toNat, rfl, ?_⟩
    unfold State.rangeLoad
    split
    · exact ⟨s.rangeBit_load 4, fun _ => s.rangeBit_on 4 (by decide)⟩
    case isFalse hdis =>
      exact ⟨(s.pair_setPair_self _ _).trans (Nat.mod_eq_of_lt v.isLt), fun h => absurd h hdis⟩
  case pulseEnd => exact fun s => ⟨_, rfl, s.setSyncOut_pin false⟩
  case edge =>
    intro s edge frac
    refine ⟨(s.advanceTo edge).rangeEdge _ _, rfl, ?_, State.rangeEdge_nolock _ _ _⟩
    rw [State.rangeEdge_waiting, State.rangeTakes_eq, Bool.and_assoc]
  case deferred =>
    intro s m hheld hfirst
    have hlt := (firstSync_bounds hfirst).1
    exact ⟨_, execSyncDeferred_some s hfirst, s.advanceSamples_samples hheld (Nat.le_of_lt hlt)⟩

end Sys2Proof.Machine
end

section
/-! PROOFS. What time moving on, an event, a marker and the marks of an entry leave of the lamp die: its two channels, their
registers (R163, R164), and the sample at which the converter stands. -/

namespace Sys2Proof.Machine
open Sys2Proof

/-! ### The frame -/

theorem State.on_congr {s t : State} {x : Fld} (h : t.reg x.addr = s.reg x.addr) : t.on x = s.on x := by
  rw [State.on, State.f, h, State.on, State.f]

/-- Is `a` no register of a lamp channel: neither status nor mirror (R163, R164)? -/
def offLamp (a : Nat) : Bool := decide (a < 0x300100) || decide (0x400000 ≤ a)

theorem offLamp_of_le {a : Nat} (h : 0x400000 ≤ a) : offLamp a = true := by simp [offLamp, h]

/-- Register blocks above the lamp's hold none of its registers. -/
theorem offLamp_add {b k : Nat} (h : 0x400000 ≤ b := by decide) : offLamp (b + k) = true :=
  offLamp_of_le (Nat.le_add_right_of_le h)

/-- The pairs of a stream lie above the lamp's registers. -/
theorem strPairs_above (k : Fin 64) : 0x400000 ≤ A.STR_s_SEQ_LO k ∧ 0x400000 ≤ A.STR_s_DROPS_LO k := by
  simp only [A.STR_s_SEQ_LO, A.STR_s_DROPS_LO]
  omega

/-- The registers of the lamp channels are none of EVT's. -/
theorem evtOwned_of_lamp {a : Nat} (ha : offLamp a = false) : evtOwned a = false := by
  simp only [offLamp, evtOwned, Bool.or_eq_false_iff, decide_eq_false_iff_not] at *
  omega

/-- From `s` to `t` the lamp channels and their registers stay, and the converter takes `n` samples. -/
structure LampPassed (n : Nat) (s t : State) : Prop where
  lamp : t.lamp = s.lamp
  reg : ∀ a, offLamp a = false → t.reg a = s.reg a
  samples : t.time.samples = s.time.samples + n

namespace LampPassed

variable {n : Nat} {s t : State}

theorem refl (s : State) : LampPassed 0 s s := ⟨rfl, fun _ _ => rfl, rfl⟩

/-- A change that leaves registers, lamp and samples. -/
theorem same {u : State} (h : LampPassed n s t) (hlamp : u.lamp = t.lamp) (hregs : u.regs = t.regs)
    (htime : u.time.samples = t.time.samples) : LampPassed n s u :=
  ⟨hlamp.trans h.lamp, fun a ha => (State.reg_of_regs u t hregs a).trans (h.reg a ha), htime.trans h.samples⟩

theorem withTl (h : LampPassed n s t) (x : Timeline) : LampPassed n s { t with tl := x } := h.same rfl rfl rfl

theorem withHeld (h : LampPassed n s t) (x : List Held) : LampPassed n s { t with held := x } := h.same rfl rfl rfl

theorem withDisp (h : LampPassed n s t) (x : Disp) : LampPassed n s { t with disp := x } := h.same rfl rfl rfl

theorem withIvu (h : LampPassed n s t) (x : Ivu) : LampPassed n s { t with ivu := x } := h.same rfl rfl rfl

theorem modFlt (h : LampPassed n s t) (c : Fin 2) (g : Flt → Flt) : LampPassed n s (t.modFlt c g) := h.same rfl rfl rfl

theorem modStream (h : LampPassed n s t) (k : Fin 64) (g : Stream → Stream) : LampPassed n s (t.modStream k g) :=
  h.same rfl rfl rfl

theorem on (h : LampPassed n s t) {x : Fld} (hx : offLamp x.addr = false) : t.on x = s.on x := State.on_congr (h.reg _ hx)

theorem ite {c : Prop} [Decidable c] {u : State} (ht : LampPassed n s t) (hu : LampPassed n s u) :
    LampPassed n s (if c then t else u) := by
  split
  · exact ht
  · exact hu

theorem foldl {α : Type} (h : LampPassed n s t) (g : State → α → State)
    (hg : ∀ u x, LampPassed n s u → LampPassed n s (g u x)) (l : List α) : LampPassed n s (l.foldl g t) := by
  induction l generalizing t with
  | nil => exact h
  | cons x xs ih => exact ih (hg t x h)

/-! ### Registers and events -/

theorem setReg (h : LampPassed n s t) (a : Nat) (v : Word) (ha : offLamp a = true := by rfl) : LampPassed n s (t.setReg a v) := by
  refine ⟨h.lamp, fun b hb => ?_, h.samples⟩
  have hne : b ≠ a := fun e => Bool.false_ne_true (hb.symm.trans (e ▸ ha))
  rw [t.reg_setReg_ne _ _ _ hne, h.reg b hb]

theorem setF (h : LampPassed n s t) (x : Fld) (v : Nat) (hx : offLamp x.addr = true := by rfl) : LampPassed n s (t.setF x v) :=
  h.setReg _ _ hx

theorem setB (h : LampPassed n s t) (x : Fld) (b : Bool) (hx : offLamp x.addr = true := by rfl) : LampPassed n s (t.setB x b) :=
  h.setReg _ _ hx

theorem incSat (h : LampPassed n s t) (x : Fld) (k : Nat := 1) (hx : offLamp x.addr = true := by rfl) :
    LampPassed n s (t.incSat x k) := h.setReg _ _ hx

theorem incWrap (h : LampPassed n s t) (x : Fld) (k : Nat := 1) (hx : offLamp x.addr = true := by rfl) :
    LampPassed n s (t.incWrap x k) := h.setReg _ _ hx

theorem setPair (h : LampPassed n s t) (a v : Nat) (ha : 0x400000 ≤ a := by decide) : LampPassed n s (t.setPair a v) :=
  (h.setReg _ _ (offLamp_of_le ha)).setReg _ _ (offLamp_of_le (Nat.le_add_right_of_le ha))

theorem raise (h : LampPassed n s t) (i : Nat) : LampPassed n s (t.raise i) :=
  ⟨(t.raise_lamp i).trans h.lamp, fun a ha => (t.raise_reg i a (evtOwned_of_lamp ha)).trans (h.reg a ha),
    (congrArg Time.samples (t.raise_time i)).trans h.samples⟩

theorem raiseLimited (h : LampPassed n s t) (i us : Nat) : LampPassed n s (t.raiseLimited i us) :=
  ⟨(t.raiseLimited_lamp i us).trans h.lamp, fun a ha => (t.raiseLimited_reg i us a (evtOwned_of_lamp ha)).trans (h.reg a ha),
    (congrArg Time.samples (t.raiseLimited_time i us)).trans h.samples⟩

theorem setBRaise (h : LampPassed n s t) (x : Fld) (i : Nat) (hx : offLamp x.addr = true := by rfl) :
    LampPassed n s (t.setBRaise x i) := .ite h ((h.setB x true hx).raise i)

/-! ### Records and markers -/

theorem countDrop (h : LampPassed n s t) (k : Fin 64) (m : Nat := 1) : LampPassed n s (t.countDrop k m) := by
  unfold State.countDrop
  exact ((h.setPair (A.STR_s_DROPS_LO k) _ (strPairs_above k).2).modStream k _).raiseLimited 243 1000

theorem countSeq (h : LampPassed n s t) (k : Fin 64) : LampPassed n s (t.countSeq k) := h.setPair _ _ (strPairs_above k).1

theorem take (h : LampPassed n s t) (r : Record) (k : Fin 64) : LampPassed n s (t.take r k) := by
  obtain ⟨-, he⟩ | ⟨-, g, he⟩ := t.take_cases r k
  · rw [he]
    exact (h.countSeq k).countDrop k
  · rw [he]
    exact (h.countSeq k).modStream k g

theorem offerTo (h : LampPassed n s t) (b : Nat) (r : Record) (ks : List (Fin 64)) : LampPassed n s (t.offerTo b r ks) := by
  induction ks generalizing t with
  | nil => exact h
  | cons k ks ih => exact ih (.ite (h.take r k) h)

theorem toEnabled (h : LampPassed n s t) (r : Record) (ks : List (Fin 64)) : LampPassed n s (t.toEnabled r ks) := by
  induction ks generalizing t with
  | nil => exact h
  | cons k ks ih => exact ih (.ite (h.take r k) h)

theorem marker (h : LampPassed n s t) (source : Nat) (tick : Long) (param : Nat) (flags : BitVec 24 := 0) :
    LampPassed n s (t.marker source tick param flags) := h.toEnabled _ _

theorem secEvent (h : LampPassed n s t) (src m frac : Nat) (flags : BitVec 24) (prog : Option Nat := none)
    (bin : Option (Int × Int) := none) (last : Nat := m) (ch : Option (Fin 2) := none) (from_ : Nat := m) :
    LampPassed n s (t.secEvent src m frac flags prog bin last ch from_) := .ite h (h.same rfl rfl rfl)

/-! ### Timeline queues and the marks of entries (R129 to R136) -/

theorem setQueue (h : LampPassed n s t) (u : Fin 15) (q : List Entry) : LampPassed n s (t.setQueue u q) :=
  (((h.withTl _).setF (F.KPR_TLQ_u_LEVEL_LEVEL u) _ offLamp_add).setF F.LMP_PENDING_PEND_A _).setF F.LMP_PENDING_PEND_B _

theorem openWindow (h : LampPassed n s t) (u sel : Nat) (at_ : Long) : LampPassed n s (t.openWindow u sel at_) :=
  (h.withTl _).setB (affectBit u) _

theorem closeWindow (h : LampPassed n s t) (u sel : Nat) (at_ : Long) : LampPassed n s (t.closeWindow u sel at_) :=
  (h.withTl _).setB (affectBit u) _

theorem tlMarker (h : LampPassed n s t) (u sel code : Nat) (at_ : Long) : LampPassed n s (t.tlMarker u sel code at_) :=
  h.marker _ _ _

theorem markLate (h : LampPassed n s t) (u sel : Nat) (at_ : Long) : LampPassed n s (t.markLate u sel at_) :=
  ((((h.incSat _ 1 offLamp_add).setF _ _ offLamp_add).raise 183).openWindow u sel at_).tlMarker u sel 1 at_

theorem markApplied (h : LampPassed n s t) (u : Nat) (e : Entry) (at_ : Long) : LampPassed n s (t.markApplied u e at_) := by
  unfold State.markApplied
  extract_lets t1 t2
  have h2 : LampPassed n s t2 := ((h.setF _ _).setF _ _).setPair _ _
  exact .ite (.ite h2 ((h2.openWindow u e.sel at_).tlMarker u e.sel 2 at_)) (.ite h (h.closeWindow u e.sel at_))

theorem markRefused (h : LampPassed n s t) (u : Nat) (e : Entry) (at_ : Long) : LampPassed n s (t.markRefused u e at_) :=
  (h.incSat _ 1 offLamp_add).tlMarker u e.sel 3 _

theorem finishEntry (h : LampPassed n s t) (u : Fin 15) (a : List Entry) (e : Entry) (b : List Entry) :
    LampPassed n s (t.finishEntry u a e b) :=
  .ite (h.setQueue u _) ((h.setQueue u _).incWrap _ 1 offLamp_add)

theorem dropLoad (h : LampPassed n s t) (e : Entry) : LampPassed n s (t.dropLoad e) := by
  unfold State.dropLoad
  split
  · exact h
  · exact h.withTl _

end LampPassed

end Sys2Proof.Machine
end

section
/-! PROOFS. Time moving on leaves the channels of the lamp die: no held output and no synchronising reset that comes due on the
way reaches them, and the converter takes the samples asked for (R35, R40, R50). -/

namespace Sys2Proof.Machine
open Sys2Proof

namespace LampPassed

variable {n : Nat} {s t : State}

/-! ### Filter outputs at their release (R228 to R230) -/

theorem offer (h : LampPassed n s t) (b : Nat) (r : Record) : LampPassed n s (t.offer b r) := h.offerTo b r _

theorem thrClose (h : LampPassed n s t) (ch : Fin 2) (k : Nat) : LampPassed n s (t.thrClose ch k) := by
  unfold State.thrClose
  extract_lets f
  split
  · exact h
  · exact ((h.modFlt ch _).withDisp _).offer _ _

theorem thrList (h : LampPassed n s t) (ch : Fin 2) (k : Nat) (c : Crossing) : LampPassed n s (t.thrList ch k c) := by
  unfold State.thrList
  extract_lets f t1 t2 t3 t4 t5
  have h2 : LampPassed n s t2 := (h.modFlt ch _).incSat (F.FLT_n_THR_LISTED_COUNT ch) 1 offLamp_add
  have h3 : LampPassed n s t3 := .ite (h2.raiseLimited _ _) h2
  have h5 : LampPassed n s t5 :=
    ((h.modFlt ch _).incSat (F.FLT_n_THR_EXCESS_COUNT ch) 1 offLamp_add).setB (F.FLT_n_STATUS_EXCESS_SEEN ch) _ offLamp_add
  exact .ite (.ite (h3.thrClose ch k) h3) (.ite h5 (h5.raise _))

theorem examine (h : LampPassed n s t) (ch : Fin 2) (k m last x : Nat) (flags : BitVec 24) (rankFrom : Nat) :
    LampPassed n s (t.examine ch k m last x flags rankFrom) := by
  unfold State.examine
  extract_lets t1 t2 t3 f ctl t4
  have h2 : LampPassed n s t2 := (h.modFlt ch _).modFlt ch _
  have h3 : LampPassed n s t3 := by
    unfold t3
    split
    · exact .ite (h2.thrClose ch k) h2
    · exact h2
  have h4 : LampPassed n s t4 := h3.setF (F.FLT_n_TRACE_VALUE ch) _ offLamp_add
  split
  · exact h4.setB (F.FLT_n_STATUS_THR_STATE ch) _ offLamp_add
  next rise _ =>
    have h5 := ((h4.modFlt ch fun f => { f with high := rise }).setB (F.FLT_n_STATUS_THR_STATE ch) rise offLamp_add).secEvent
      (24 + 2 * ch.val + bit (!rise)) m 0 flags none none last (some ch)
    exact .ite (h5.thrList ch k _) h5

theorem thrTurn (h : LampPassed n s t) (ch : Fin 2) (k : Nat) : LampPassed n s (t.thrTurn ch k) :=
  ((h.thrClose ch k).modFlt ch _).setB (F.FLT_n_STATUS_THR_STATE ch) _ offLamp_add

/-! ### The interval unit at a release (R295 to R301) -/

theorem ivuPresent (h : LampPassed n s t) (item : DispItem) (r : Record) (edges : List Nat) :
    LampPassed n s (t.ivuPresent item r edges) := (h.withDisp _).offer _ _

theorem modIvu (h : LampPassed n s t) (g : Ivu → Ivu) : LampPassed n s (t.modIvu g) := h.withIvu _

theorem ivuRecord (h : LampPassed n s t) (stat : Bool) (tick : Long) (frac last count found status : Nat) (edges : List Nat)
    (body : List Byte) : LampPassed n s (t.ivuRecord stat tick frac last count found status edges body) :=
  h.same rfl rfl rfl

theorem ivuSetEnd (h : LampPassed n s t) (b : Bool) : LampPassed n s (t.ivuSetEnd b) := by
  unfold State.ivuSetEnd
  split
  · exact h
  · extract_lets t1 st t2
    have h2 : LampPassed n s t2 := ((h.modIvu _).setF F.IVU_SET_COUNT_COUNT 0).ivuRecord ..
    exact .ite (h2.raiseLimited 162 1) h2

theorem gateSet (h : LampPassed n s t) (m : Nat) (b : Bool) : LampPassed n s (t.gateSet m b) := by
  unfold State.gateSet
  extract_lets e old was t1
  have h1 : LampPassed n s t1 := h.modIvu _
  exact .ite h1 (h1.withHeld _)

theorem ivuRefuse (h : LampPassed n s t) (e : Entry) (c : Nat) : LampPassed n s (Machine.ivuRefuse e c t) :=
  (((h.setF F.IVU_LAST_REFUSE_SEL _).setF F.IVU_LAST_REFUSE_REASON _).setB F.IVU_STATUS_REFUSED true).raise 156

/-- A checked effect that is not refused is the effect. -/
theorem checked_ok {l : List (Bool × Nat)} {t u : State} (h : checked l t = .ok u) : u = t := by
  unfold checked at h
  split at h
  · exact (Except.ok.inj h).symm
  · exact absurd h nofun

theorem ivuEff (h : LampPassed n s t) {at_ : Long} {e : Entry} {tab : List Byte} {u : State}
    (hu : Machine.ivuEff at_ e tab t = .ok u) : LampPassed n s u := by
  have hset {v : State} (hv : LampPassed n s v) : LampPassed n s (v.setReg (A.IVU_START_SRC + 4 * e.sel) e.opnd) :=
    hv.setReg _ _ offLamp_add
  rw [checked_ok hu]
  have hstored := LampPassed.ite (c := (e.sel = 0 || e.sel = 1 || e.sel = 3) = true) (hset (h.ivuSetEnd true)) (hset h)
  exact .ite (hstored.gateSet _ _) hstored

/-- What the effect of its entry and the record of a refusal leave, an entry that a unit takes leaves. -/
theorem applyHere (h : LampPassed n s t) {eff : Entry → List Byte → State → Except Nat State}
    {refuse : Entry → Nat → State → State}
    (heff : ∀ {v w : State} {e tab}, LampPassed n s v → eff e tab v = .ok w → LampPassed n s w)
    (hrefuse : ∀ {v : State} (e c), LampPassed n s v → LampPassed n s (refuse e c v))
    (u : Fin 15) (a : List Entry) (e : Entry) (b : List Entry) (mark : Long) :
    LampPassed n s (t.applyHere u a e b mark eff refuse) := by
  unfold State.applyHere
  extract_lets t1 tab t2 r
  have h2 : LampPassed n s t2 := (h.finishEntry u a e b).dropLoad e
  refine .ite (h2.markLate u e.sel e.target) ?_
  cases hr : r with
  | error c => exact (hrefuse e c h2).markRefused u e mark
  | ok v =>
    have hok : eff e tab t2 = .ok v := by
      unfold r at hr
      split at hr
      · exact absurd hr nofun
      · exact hr
    exact (heff h2 hok).markApplied u e mark

theorem ivuApply (h : LampPassed n s t) (sel : Nat) (at_ : Long) (late : Option Long) :
    LampPassed n s (t.ivuApply sel at_ late) := by
  unfold State.ivuApply
  split
  · exact h
  · exact .ite (h.applyHere (fun hv hok => hv.ivuEff hok) (fun e c hv => hv.ivuRefuse e c) 8 _ _ _ _) h

theorem ivuEnd (h : LampPassed n s t) (st last : Nat) : LampPassed n s (t.ivuEnd st last) := by
  unfold State.ivuEnd
  split
  · exact h
  · extract_lets status waits t1 t2 each t3 set0 set1 t4 t5
    have h2 : LampPassed n s t2 := ((h.modIvu _).setB F.IVU_STATUS_OPEN false).incWrap F.IVU_MEAS_COUNT_COUNT
    have h3 : LampPassed n s t3 := .ite (h2.ivuRecord ..) h2
    have h4 : LampPassed n s t4 := (h3.modIvu _).setF F.IVU_SET_COUNT_COUNT _
    have h5 : LampPassed n s t5 := .ite h3 (.ite (h4.ivuSetEnd false) h4)
    exact h5.foldl _ (fun v w hv => hv.ivuApply w.1 w.2 _) waits

theorem ivuStop (h : LampPassed n s t) (c : Fin 3) (src stamp : Nat) (cd : Bool) (m : IvMeas) :
    LampPassed n s (t.ivuStop c src stamp cd m) := by
  unfold State.ivuStop
  extract_lets m1 t1
  have h1 : LampPassed n s t1 := (h.modIvu _).modIvu _
  exact .ite (h1.ivuEnd 0 _) h1

theorem ivuStart (h : LampPassed n s t) (c : Fin 3) (stop stamp : Nat) (cd : Bool) :
    LampPassed n s (t.ivuStart c stop stamp cd) := by
  unfold State.ivuStart
  extract_lets near opening one m t1
  exact .ite ((h.incSat F.IVU_SKIPPED_COUNT).raiseLimited 164 1000)
    (.ite h (((h.modIvu _).modIvu _).setB F.IVU_STATUS_OPEN true))

theorem ivuEdge (h : LampPassed n s t) (c : Fin 3) (src stop stamp : Nat) (cd : Bool) :
    LampPassed n s (t.ivuEdge c src stop stamp cd) := by
  unfold State.ivuEdge
  split
  · exact .ite (h.ivuStop c src stamp cd _) h
  · exact .ite (h.ivuStart c stop stamp cd) h

theorem ivuGateEnd (h : LampPassed n s t) (e : Nat) : LampPassed n s (t.ivuGateEnd e) := by
  unfold State.ivuGateEnd
  split
  · exact .ite (h.ivuEnd 2 e) h
  · exact h

theorem ivuTake (h : LampPassed n s t) (o : HeldOut) : LampPassed n s (t.ivuTake o) := by
  cases o with
  | edge c src stop stamp cd => exact h.ivuEdge c src stop stamp cd
  | edgeLost c stamp => exact .ite (h.modIvu _) h
  | gateEnd e => exact h.ivuGateEnd e
  | trace | turn | interval => exact h

/-- A held output that comes due leaves the lamp channels (R40). -/
theorem present (h : LampPassed n s t) (o : HeldOut) : LampPassed n s (t.present o) := by
  cases o with
  | trace ch k m last x flags rankFrom => exact h.examine ch k m last x flags rankFrom
  | turn ch k => exact h.thrTurn ch k
  | interval item r edges => exact h.ivuPresent item r edges
  | edge c src stop stamp cd => exact h.ivuTake (.edge c src stop stamp cd)
  | edgeLost c stamp => exact h.ivuTake (.edgeLost c stamp)
  | gateEnd e => exact h.ivuTake (.gateEnd e)

/-! ### Synchronising resets (R50, R53) -/

theorem rangeBit (h : LampPassed n s t) (b : Nat) : LampPassed n s (t.rangeBit b) := h.setBRaise ⟨A.SEC_RANGE_STATUS, b, 1⟩ 139

theorem pulseEvents (h : LampPassed n s t) (m : Nat) (w : List PendingSync) : LampPassed n s (t.pulseEvents m w) := by
  induction w generalizing t with
  | nil => exact h
  | cons x xs ih => exact ih (.ite (h.secEvent 35 m _ 0) h)

theorem syncPhase (h : LampPassed n s t) (w : List PendingSync) : LampPassed n s (t.syncPhase w) := by
  unfold State.syncPhase
  split
  · exact h
  · extract_lets t1
    have h1 : LampPassed n s t1 := .ite h (h.setB F.SEC_RANGE_CTRL_ARM false)
    split
    · exact (h1.setF F.SEC_RANGE_PHASE_PHASE _).setB F.SEC_RANGE_PHASE_VALID true
    · exact h1.setB F.SEC_RANGE_PHASE_VALID false

theorem fltLog (h : LampPassed n s t) (ch : Fin 2) (m : Nat) : LampPassed n s (t.fltLog ch m) :=
  .ite h (h.modFlt ch _)

theorem fltRestart (h : LampPassed n s t) (ch : Fin 2) (r : Nat) : LampPassed n s (t.fltRestart ch r) := by
  unfold State.fltRestart State.fltSettling
  extract_lets new again t1 t2 t3
  have h1 : LampPassed n s t1 := (h.modFlt ch _).fltLog ch r
  have h2 : LampPassed n s t2 :=
    (h1.setF (F.FLT_n_STATUS_K_EFF ch) _ offLamp_add).setB (F.FLT_n_STATUS_FULL ch) _ offLamp_add
  have h3 : LampPassed n s t3 := (h2.setB (F.FLT_n_STATUS_SETTLING ch) _ offLamp_add).setPair (A.FLT_n_RESTART_LO ch) _
    (Nat.le_add_right_of_le (by decide))
  exact .ite h3 ((h3.incSat (F.FLT_n_RESTARTS_COUNT ch) 1 offLamp_add).raise _)

theorem fltSync (h : LampPassed n s t) (ch : Fin 2) (r : Nat) : LampPassed n s (t.fltSync ch r) := .ite h (h.fltRestart ch r)

theorem syncNow (h : LampPassed n s t) (w : List PendingSync) : LampPassed n s (t.syncNow w) := by
  unfold State.syncNow
  extract_lets v nat time0 met told time1 labelled shown tth1 jumped counted trusted restarted
  have hmet : LampPassed n s met := h.same rfl rfl rfl
  have htold : LampPassed n s told := .ite (hmet.rangeBit 3) hmet
  have hlabelled : LampPassed n s labelled := htold.same rfl rfl rfl
  have hshown : LampPassed n s shown := ((hlabelled.syncPhase w).pulseEvents _ w).setPair A.SEC_RANGE_NAT_LO _
  have hjumped : LampPassed n s jumped := hshown.same rfl rfl rfl
  have hcounted : LampPassed n s counted := (hjumped.incSat F.SEC_RANGE_STATUS_SYNCS).rangeBit 0
  have htrusted : LampPassed n s trusted := .ite (hcounted.setB F.STR_ANCHOR_STATUS_SUSPECT false) hcounted
  exact .ite (((htold.rangeBit 1).raise 140).pulseEvents _ w) (((htrusted.fltSync 0 _).fltSync 1 _).marker 0x91 v _)

theorem syncDue (h : LampPassed n s t) : LampPassed n s t.syncDue := by
  unfold State.syncDue
  extract_lets m due rest late time1
  have hwait (w : List PendingSync) : LampPassed n s { t with time := { t.time with waiting := w } } := h.same rfl rfl rfl
  exact .ite h (.ite ((hwait (rest ++ late)).rangeBit 5) ((hwait rest).syncNow _))

/-! ### Moving the converter on -/

theorem count (h : LampPassed n s t) (m : Nat) : LampPassed (n + m) s (t.count m) := by
  unfold State.count
  extract_lets u
  have hu : LampPassed (n + m) s u := by
    refine ⟨h.lamp, h.reg, ?_⟩
    rw [show u.time.samples = t.time.samples + m from rfl, h.samples, Nat.add_assoc]
  exact .ite hu (hu.marker 0x93 0 0 Flag.wrap)

/-- The samples before a stop on the way and those after it are those asked for. -/
theorem split_at {d m : Nat} (h : LampPassed (n + d + (m - d)) s t) (hd : d ≤ m) : LampPassed (n + m) s t := by
  rwa [Nat.add_assoc, Nat.add_sub_cancel' hd] at h

theorem runBy (h : LampPassed n s t) (m fuel : Nat) : LampPassed (n + m) s (t.runBy m fuel) := by
  induction fuel generalizing n t m with
  | zero => exact h.count m
  | succ fuel ih =>
    rw [State.runBy]
    split
    · exact h.count m
    next x xs _ =>
      split
      next hdue =>
        have hle : x.due - t.time.samples ≤ m := by
          simp only [Bool.and_eq_true, decide_eq_true_eq] at hdue
          omega
        exact split_at (ih (((h.count _).withHeld xs).present x.what) _) hle
      · exact h.count m

theorem advanceBy (h : LampPassed n s t) (m fuel : Nat) : LampPassed (n + m) s (t.advanceBy m fuel) := by
  induction fuel generalizing n t m with
  | zero => exact h.runBy m _
  | succ fuel ih =>
    rw [State.advanceBy]
    split
    · exact h.runBy m _
    next k hfirst =>
      have hk := firstSync_bounds hfirst
      exact split_at (ih (h.runBy _ _).syncDue _) (by omega)

end LampPassed

/-- The converter comes to the sample asked for, unless it is past it, and the lamp channels stay. -/
theorem State.advanceSamples_lamp (s : State) (m : Nat) : LampPassed (m - s.time.samples) s (s.advanceSamples m) := by
  unfold State.advanceSamples
  split
  · have h := (LampPassed.refl s).advanceBy (m - s.time.samples) (2 * s.time.waiting.length)
    rwa [Nat.zero_add] at h
  · rw [Nat.sub_eq_zero_of_le (by omega)]
    exact .refl s

end Sys2Proof.Machine
end

section
/-! PROOFS. The comparators of the lamp die (R155 to R160): what a change of a contribution, a hold and the pins leave as they were,
and what they make. -/

namespace Sys2Proof.Machine
open Sys2Proof

/-! ### The registers of a channel -/

theorem riseCount_addr (n c : Fin 2) : (riseCount n c).addr = A.LMP_n_CMP_EDGES n := by decide +revert

theorem status_ne_edges (n : Fin 2) : A.LMP_n_STATUS n ≠ A.LMP_n_CMP_EDGES n := by decide +revert

theorem evtOwned_status (n : Fin 2) : evtOwned (A.LMP_n_STATUS n) = false := by decide +revert

theorem cmpBit_fits (n c : Fin 2) : (cmpBit n c).lo + (cmpBit n c).width ≤ 32 := by decide +revert

theorem ftHold_fits (n c : Fin 2) : (ftHold n c).lo + (ftHold n c).width ≤ 32 := by decide +revert

theorem offLamp_ftHold (n c : Fin 2) : offLamp (ftHold n c).addr = false := by decide +revert

theorem cmpBit_apart_ftHold (n c d : Fin 2) : (cmpBit n c).apart (ftHold n d) = true := by decide +revert

/-- The mirror of a setting of the channel (R163) is none of its status registers, and no event writes it. -/
theorem lampMirror_free (n : Fin 2) {sel : Nat} (h : sel ≤ 4) : evtOwned (lampMirror n sel) = false ∧
    lampMirror n sel ≠ A.LMP_n_STATUS n ∧ lampMirror n sel ≠ A.LMP_n_CMP_EDGES n ∧ offLamp (lampMirror n sel) = false := by
  decide +revert

/-! ### Channels and comparators -/

@[simp] theorem Two.get_set_self {α : Type} (x : Two α) (n : Fin 2) (v : α) : (x.set n v).get n = v := by
  by_cases hn : n = 0 <;> simp [Two.get, Two.set, hn]

@[simp] theorem Lamp.cmp_setCmp_self (l : Lamp) (c : Fin 2) (x : Cmp) : (l.setCmp c x).cmp c = x := by
  unfold Lamp.cmp Lamp.setCmp
  split <;> rfl

theorem Lamp.cmp_setCmp_ne (l : Lamp) {c d : Fin 2} (x : Cmp) (h : d ≠ c) : (l.setCmp c x).cmp d = l.cmp d := by
  unfold Lamp.cmp Lamp.setCmp
  by_cases hc : c = 0
  · have hd : d ≠ 0 := hc ▸ h
    rw [if_pos hc, if_neg hd, if_neg hd]
  · have hd : d = 0 := by omega
    rw [if_neg hc, if_pos hd, if_pos hd]

@[simp] theorem Lamp.setCmp_stepEnd (l : Lamp) (c : Fin 2) (x : Cmp) : (l.setCmp c x).stepEnd = l.stepEnd := by
  unfold Lamp.setCmp
  split <;> rfl

@[simp] theorem State.modLamp_get_self (s : State) (n : Fin 2) (g : Lamp → Lamp) :
    (s.modLamp n g).lamp.get n = g (s.lamp.get n) := Two.get_set_self _ _ _

@[simp] theorem State.modCmp_self (s : State) (n c : Fin 2) (g : Cmp → Cmp) : (s.modCmp n c g).cmp n c = g (s.cmp n c) := by
  simp [State.cmp, State.modCmp]

theorem State.modCmp_ne (s : State) (n : Fin 2) {c d : Fin 2} (g : Cmp → Cmp) (h : d ≠ c) :
    (s.modCmp n c g).cmp n d = s.cmp n d := by
  simp [State.cmp, State.modCmp, Lamp.cmp_setCmp_ne _ _ h]

/-- The pins are driven from the registers and change none of them, nor the lamp channels (R158). -/
theorem State.updPin_kept (s : State) (p : Fin 2) : (s.updPin p).regs = s.regs ∧ (s.updPin p).lamp = s.lamp := by
  unfold State.updPin
  extract_lets v
  split <;> exact ⟨rfl, rfl⟩

@[simp] theorem State.updPins_regs (s : State) : s.updPins.regs = s.regs :=
  ((s.updPin 0).updPin_kept 1).1.trans (s.updPin_kept 0).1

theorem State.updPins_reg (s : State) (a : Nat) : s.updPins.reg a = s.reg a := State.reg_of_regs _ _ s.updPins_regs a

theorem State.updPins_on (s : State) (x : Fld) : s.updPins.on x = s.on x := State.on_congr (s.updPins_reg _)

@[simp] theorem State.updPins_lamp (s : State) : s.updPins.lamp = s.lamp :=
  ((s.updPin 0).updPin_kept 1).2.trans (s.updPin_kept 0).2

/-! ### What the comparators of a channel leave -/

/-- From `s` to `t`, of the registers that no event writes only the count of rises and the status bits `bits` of channel `n` change,
and its step window stays. -/
structure ChannelKept (n : Fin 2) (bits : List Fld) (s t : State) : Prop where
  reg : ∀ a, evtOwned a = false → a ≠ A.LMP_n_STATUS n → a ≠ A.LMP_n_CMP_EDGES n → t.reg a = s.reg a
  on : ∀ y : Fld, y.addr = A.LMP_n_STATUS n → (∀ x ∈ bits, x.apart y = true) → t.on y = s.on y
  stepEnd : (t.lamp.get n).stepEnd = (s.lamp.get n).stepEnd

namespace ChannelKept

variable {n c : Fin 2} {bits : List Fld} {s t : State}

theorem refl (n : Fin 2) (bits : List Fld) (s : State) : ChannelKept n bits s s := ⟨fun _ _ _ _ => rfl, fun _ _ _ => rfl, rfl⟩

theorem ite {p : Prop} [Decidable p] {u : State} (ht : ChannelKept n bits s t) (hu : ChannelKept n bits s u) :
    ChannelKept n bits s (if p then t else u) := by
  split
  · exact ht
  · exact hu

theorem modCmp (h : ChannelKept n bits s t) (g : Cmp → Cmp) : ChannelKept n bits s (t.modCmp n c g) := by
  refine ⟨h.reg, h.on, ?_⟩
  rw [State.modCmp, State.modLamp_get_self, Lamp.setCmp_stepEnd, h.stepEnd]

theorem updPins (h : ChannelKept n bits s t) : ChannelKept n bits s t.updPins := by
  refine ⟨fun a he hs hc => (t.updPins_reg a).trans (h.reg a he hs hc),
    fun y hy hb => (t.updPins_on y).trans (h.on y hy hb), ?_⟩
  rw [t.updPins_lamp, h.stepEnd]

/-- One of the status bits named is written. -/
theorem setB (h : ChannelKept n bits s t) {x : Fld} (b : Bool) (hx : x ∈ bits) (haddr : x.addr = A.LMP_n_STATUS n)
    (hwidth : x.lo + x.width ≤ 32) : ChannelKept n bits s (t.setB x b) :=
  ⟨fun a he hs hc => (t.reg_setB_ne x b a (haddr ▸ hs)).trans (h.reg a he hs hc),
    fun y hy hb => (t.on_setB_apart x y b hwidth (hb x hx)).trans (h.on y hy hb), h.stepEnd⟩

/-- The counter of rises is written. -/
theorem setRises (h : ChannelKept n bits s t) (c : Fin 2) (v : Nat) : ChannelKept n bits s (t.setF (riseCount n c) v) := by
  refine ⟨fun a he hs hc => (t.reg_setF_ne _ v a (riseCount_addr n c ▸ hc)).trans (h.reg a he hs hc), fun y hy hb => ?_,
    h.stepEnd⟩
  have hne : y.addr ≠ (riseCount n c).addr := by
    rw [hy, riseCount_addr]
    exact status_ne_edges n
  rw [← h.on y hy hb]
  exact State.on_congr (t.reg_setF_ne _ v _ hne)

theorem raiseLimited (h : ChannelKept n bits s t) (i us : Nat) : ChannelKept n bits s (t.raiseLimited i us) := by
  refine ⟨fun a he hs hc => (t.raiseLimited_reg i us a he).trans (h.reg a he hs hc), fun y hy hb => ?_, ?_⟩
  · rw [← h.on y hy hb]
    exact State.on_congr (t.raiseLimited_reg i us _ (hy ▸ evtOwned_status n))
  · rw [t.raiseLimited_lamp, h.stepEnd]

theorem riseAt (h : ChannelKept n bits s t) (c : Fin 2) : ChannelKept n bits s (t.riseAt n c) := by
  have hcount : ChannelKept n bits s (t.incWrap (riseCount n c)) := h.setRises c _
  exact .ite (hcount.raiseLimited _ 1) hcount

theorem setCmpBit (h : ChannelKept n bits s t) (b : Bool) (hc : cmpBit n c ∈ bits) :
    ChannelKept n bits s (t.setB (cmpBit n c) b) :=
  h.setB b hc rfl (cmpBit_fits n c)

/-- A contribution that changes writes its own status bit and no other (R156, R164). -/
theorem contribute (h : ChannelKept n bits s t) (v : Bool) (a : Nat) (hc : cmpBit n c ∈ bits) :
    ChannelKept n bits s (t.contribute n c v a) := by
  unfold State.contribute
  extract_lets t1 t2 t3
  have h1 : ChannelKept n bits s t1 := h.modCmp _
  have h2 : ChannelKept n bits s t2 := .ite (h1.riseAt c) h1
  have h3 : ChannelKept n bits s t3 := .ite h1 (.ite (h2.modCmp _) h2)
  exact .ite h (h3.setCmpBit v hc).updPins

theorem updCmp (h : ChannelKept n bits s t) (a : Nat) (hc : cmpBit n c ∈ bits) : ChannelKept n bits s (t.updCmp n c a) :=
  h.contribute _ a hc

theorem undoChange (h : ChannelKept n bits s t) (a : Nat) (hc : cmpBit n c ∈ bits) :
    ChannelKept n bits s (t.undoChange n c a) := by
  unfold State.undoChange
  extract_lets x t1 t2
  have h2 : ChannelKept n bits s t2 := (h.setRises c _).modCmp _
  exact .ite h (h2.setCmpBit _ hc).updPins

/-- A hold writes the status bits of its comparator (R157). -/
theorem holdCmp (h : ChannelKept n bits s t) (a e : Nat) (hc : cmpBit n c ∈ bits) (hh : ftHold n c ∈ bits) :
    ChannelKept n bits s (t.holdCmp n c a e) := by
  unfold State.holdCmp
  extract_lets held now t1 t2
  have h1 : ChannelKept n bits s t1 := .ite h (h.undoChange a hc)
  have h2 : ChannelKept n bits s t2 := (h1.modCmp _).setB true hh rfl (ftHold_fits n c)
  exact h2.updCmp a hc

theorem endHold (h : ChannelKept n bits s t) (hc : cmpBit n c ∈ bits) (hh : ftHold n c ∈ bits) :
    ChannelKept n bits s (t.endHold n c) := by
  unfold State.endHold
  extract_lets e
  exact .ite (((h.setB false hh rfl (ftHold_fits n c)).modCmp _).updCmp e hc) h

end ChannelKept

/-! ### The contribution of a comparator -/

/-- What the comparators of channel `n` show, and what holds of them keep, is the same in `s` and `t`. -/
def ComparatorsKept (n : Fin 2) (s t : State) : Prop :=
  ∀ d, (t.cmp n d).live = (s.cmp n d).live ∧ (t.cmp n d).kept = (s.cmp n d).kept

namespace ComparatorsKept

variable {n c : Fin 2} {s t : State}

theorem of_lamp {u : State} (h : ComparatorsKept n s t) (hlamp : u.lamp = t.lamp) : ComparatorsKept n s u := by
  unfold ComparatorsKept State.cmp
  rw [hlamp]
  exact h

theorem modCmp (h : ComparatorsKept n s t) {g : Cmp → Cmp} (hg : ∀ x, (g x).live = x.live ∧ (g x).kept = x.kept) :
    ComparatorsKept n s (t.modCmp n c g) := by
  intro d
  by_cases hd : d = c
  · subst hd
    rw [State.modCmp_self, (hg _).1, (hg _).2]
    exact h d
  · rw [State.modCmp_ne _ _ _ hd]
    exact h d

end ComparatorsKept

theorem Cmp.change_kept (x : Cmp) (a : Nat) (v : Bool) : (x.change a v).live = x.live ∧ (x.change a v).kept = x.kept := by
  unfold Cmp.change
  split <;> exact ⟨rfl, rfl⟩

theorem State.riseAt_lamp (s : State) (n c : Fin 2) : (s.riseAt n c).lamp = s.lamp := by
  unfold State.riseAt
  extract_lets t
  split
  · exact t.raiseLimited_lamp _ _
  · rfl

/-- A change of a contribution leaves what the comparators show and what holds of them keep (R157). -/
theorem State.contribute_comparators (s : State) (n c : Fin 2) (v : Bool) (a : Nat) :
    ComparatorsKept n s (s.contribute n c v a) := by
  have hrefl : ComparatorsKept n s s := fun _ => ⟨rfl, rfl⟩
  unfold State.contribute
  extract_lets t1 t2 t3
  have h1 : ComparatorsKept n s t1 := hrefl.modCmp fun x => x.change_kept a v
  have h2 : ComparatorsKept n s t2 := by
    unfold t2
    split
    · exact h1.of_lamp (t1.riseAt_lamp n c)
    · exact h1
  have h3 : ComparatorsKept n s t3 := by
    unfold t3
    (repeat' split)
    · exact h1
    · exact h2.modCmp fun _ => ⟨rfl, rfl⟩
    · exact h2
  split
  · exact hrefl
  · exact h3.of_lamp (State.updPins_lamp _)

/-- The contribution becomes the one asked for. -/
theorem State.contribute_cmpBit (s : State) (n c : Fin 2) (v : Bool) (a : Nat) :
    (s.contribute n c v a).on (cmpBit n c) = v := by
  unfold State.contribute
  extract_lets t1 t2 t3
  split
  · assumption
  · rw [State.updPins_on]
    exact State.on_setB_self _ _ _ (cmpBit_fits n c) rfl

/-- The contribution of a comparator is given by its enable bit, its hold bit, and what it shows or a hold keeps (R156). -/
theorem State.level_congr {s t : State} {n c : Fin 2} (hen : t.on (ftEn n c) = s.on (ftEn n c))
    (hhold : t.on (ftHold n c) = s.on (ftHold n c)) (hlive : (t.cmp n c).live = (s.cmp n c).live)
    (hkept : (t.cmp n c).kept = (s.cmp n c).kept) : t.level n c = s.level n c := by
  rw [State.level, hen, hhold, hlive, hkept, State.level]

/-- A recomputed contribution is the one that the settings and the hold give (R156, R157). -/
theorem State.updCmp_cmpBit (s : State) (n c : Fin 2) (a : Nat) : (s.updCmp n c a).on (cmpBit n c) = s.level n c :=
  s.contribute_cmpBit n c _ a

/-- Recomputing one contribution changes what neither comparator is given. -/
theorem State.updCmp_level (s : State) (n c d : Fin 2) (a : Nat) : (s.updCmp n c a).level n d = s.level n d := by
  have hkept := (ChannelKept.refl n [cmpBit n c] s).updCmp a (List.mem_singleton_self _)
  obtain ⟨hlive, hheld⟩ := s.contribute_comparators n c (s.level n c) a d
  obtain ⟨hevt, hstatus, hedges, -⟩ := lampMirror_free n (sel := 4) (by decide)
  refine State.level_congr ?_ (hkept.on (ftHold n d) rfl fun x hx => ?_) hlive hheld
  · exact State.on_congr (hkept.reg _ hevt hstatus hedges)
  · rw [List.mem_singleton.mp hx]
    exact cmpBit_apart_ftHold n c d

theorem State.on_ftHold_setB (s : State) (n c : Fin 2) (b : Bool) : (s.setB (ftHold n c) b).on (ftHold n c) = b :=
  s.on_setB_self _ b (ftHold_fits n c) rfl

/-- A recomputed contribution leaves the hold bits. -/
theorem State.updCmp_ftHold (s : State) (n c d : Fin 2) (a : Nat) : (s.updCmp n c a).on (ftHold n d) = s.on (ftHold n d) :=
  ((ChannelKept.refl n [cmpBit n c] s).updCmp a (List.mem_singleton_self _)).on _ rfl fun x hx => by
    rw [List.mem_singleton.mp hx]
    exact cmpBit_apart_ftHold n c d

/-- A hold shows in its status bit (R157, R164). -/
theorem State.holdCmp_ftHold (s : State) (n c : Fin 2) (a e : Nat) : (s.holdCmp n c a e).on (ftHold n c) = true := by
  unfold State.holdCmp
  extract_lets held now t1 t2
  rw [State.updCmp_ftHold]
  exact State.on_ftHold_setB _ n c true

/-- A hold that has come to its end is over, and the contribution is the one that the live comparator gives (R157). -/
theorem State.endHold_due (s : State) (n c : Fin 2) (hon : s.on (ftHold n c) = true)
    (hdue : (s.cmp n c).holdEnd ≤ s.time.samples) :
    (s.endHold n c).on (ftHold n c) = false ∧ (s.endHold n c).on (cmpBit n c) = (s.endHold n c).level n c := by
  simp only [State.endHold, hon, hdue, decide_true, Bool.and_self, if_true]
  rw [State.updCmp_ftHold, State.updCmp_level, State.updCmp_cmpBit]
  exact ⟨State.on_ftHold_setB _ n c false, rfl⟩

end Sys2Proof.Machine
end

section
/-! PROOFS. The inputs of the lamp die (R152 to R160): overrange marking and episodes, then the obligation on them. -/

namespace Sys2Proof.Machine
open Sys2Proof

/-! ### The status bits of a channel (R164) -/

/-- A bit reads as it was written. -/
theorem State.on_setB_same (s : State) {x : Fld} (b : Bool) (hx : Nat.ble (x.lo + 1) 32 = true := by rfl)
    (hw : x.width = 1 := by rfl) : (s.setB x b).on x = b := s.on_setB_self x b (Nat.le_of_ble_eq_true hx) hw

/-- A bit written leaves a bit of another place of any register. -/
theorem State.on_setB_other (s : State) {x y : Fld} (b : Bool) (hx : Nat.ble (x.lo + x.width) 32 = true := by rfl)
    (h : (Nat.ble (x.lo + x.width) y.lo || Nat.ble (y.lo + y.width) x.lo) = true := by rfl) : (s.setB x b).on y = s.on y := by
  refine s.on_setB_apart x y b (Nat.le_of_ble_eq_true hx) ?_
  simp only [Bool.or_eq_true, Nat.ble_eq] at h
  simpa [Fld.apart, or_assoc] using Or.inr h

/-- The status bits of both comparators of a channel. -/
def comparatorBits (n : Fin 2) : List Fld := [cmpBit n 0, ftHold n 0, cmpBit n 1, ftHold n 1]

theorem cmpBit_mem (n c : Fin 2) : cmpBit n c ∈ comparatorBits n := by decide +revert

theorem ftHold_mem (n c : Fin 2) : ftHold n c ∈ comparatorBits n := by decide +revert

theorem settling_apart (n : Fin 2) : ∀ x ∈ comparatorBits n, x.apart (F.LMP_n_STATUS_SETTLING n) = true := by decide +revert

/-! ### Marks and episodes (R152, R153) -/

theorem State.addMark_reg (s : State) (n : Fin 2) (a : Nat) (e : Option Nat) (f : BitVec 24) (r : Nat) :
    (s.addMark n a e f).reg r = s.reg r := s.modLamp_reg n _ r

/-- Counting the marked samples writes the pair of their count. -/
theorem State.ovrCount_reg (s : State) (n : Fin 2) {a : Nat} (hlo : a ≠ A.LMP_n_OVR_SAMPLES_LO n)
    (hhi : a ≠ A.LMP_n_OVR_SAMPLES_LO n + 4) : (s.ovrCount n).reg a = s.reg a := by
  rw [State.ovrCount, State.modLamp_reg, State.incPair, s.reg_setPair_ne _ _ a hlo hhi]

/-- A firing shows as marking (R152, R164). -/
theorem State.ovrMark_active (s : State) (n : Fin 2) (a m : Nat) : (s.ovrMark n a m).on (F.LMP_n_STATUS_OVR_ACTIVE n) = true :=
  State.on_setB_same _ true

/-- The marking runs to the end of the firing's own count at least (R152). -/
theorem State.ovrMark_end (s : State) (n : Fin 2) (a m : Nat) : a + m + 1 ≤ ((s.ovrMark n a m).lamp.get n).ovrEnd := by
  unfold State.ovrMark
  extract_lets t u
  rw [State.setB_lamp, State.modLamp_get_self]
  exact Nat.le_max_right _ _

theorem status_ne_samples (n : Fin 2) :
    A.LMP_n_STATUS n ≠ A.LMP_n_OVR_SAMPLES_LO n ∧ A.LMP_n_STATUS n ≠ A.LMP_n_OVR_SAMPLES_LO n + 4 := by decide +revert

/-- Marking opens and ends no episode. -/
theorem State.ovrMark_episode (s : State) (n : Fin 2) (a m : Nat) :
    (s.ovrMark n a m).on (F.LMP_n_STATUS_EPISODE n) = s.on (F.LMP_n_STATUS_EPISODE n) := by
  obtain ⟨hlo, hhi⟩ := status_ne_samples n
  unfold State.ovrMark
  extract_lets t u
  have hu : u.reg (F.LMP_n_STATUS_EPISODE n).addr = s.reg (F.LMP_n_STATUS_EPISODE n).addr := by
    rw [State.modLamp_reg, State.addMark_reg]
    exact s.ovrCount_reg n hlo hhi
  rw [u.on_setB_other (x := F.LMP_n_STATUS_OVR_ACTIVE n) true, State.on_congr hu]

theorem State.fired_regs (s : State) (n : Fin 2) (a : Nat) : (s.fired n a).regs = s.regs := by
  unfold State.fired
  split <;> rfl

theorem State.fired_on (s : State) (n : Fin 2) (a : Nat) (x : Fld) : (s.fired n a).on x = s.on x :=
  State.on_congr (State.reg_of_regs _ _ (s.fired_regs n a) _)

theorem State.fired_ovrEnd (s : State) (n : Fin 2) (a : Nat) : ((s.fired n a).lamp.get n).ovrEnd = (s.lamp.get n).ovrEnd := by
  unfold State.fired
  split
  · rw [State.modLamp_get_self]
  · rfl

/-- A cause of a freeze changes its own bit alone of all registers (R176). -/
theorem State.setFrozen_reg (s : State) (n : Fin 2) (x : Fld) (b : Bool) (a r : Nat) :
    (s.setFrozen n x b a).reg r = (s.setB x b).reg r := by
  refine State.reg_of_regs _ _ ?_ r
  unfold State.setFrozen
  extract_lets was t u
  (repeat' split) <;> rfl

/-- A freeze is a mark on the samples of its channel (R176). -/
theorem State.setFrozen_lamp (s : State) (n : Fin 2) (x : Fld) (b : Bool) (a : Nat) :
    ((s.setFrozen n x b a).lamp.get n).ovrEnd = (s.lamp.get n).ovrEnd ∧
      ((s.setFrozen n x b a).lamp.get n).lastFire = (s.lamp.get n).lastFire := by
  unfold State.setFrozen
  extract_lets was t u
  split
  · exact ⟨rfl, rfl⟩
  · split
    · rw [State.addMark, State.modLamp_get_self]
      exact ⟨rfl, rfl⟩
    · rw [show u.lamp = (t.modLamp n _).lamp from rfl, State.modLamp_get_self]
      exact ⟨rfl, rfl⟩

/-- A count of the live image leaves the lamp, and every register but that of its saturation bit (R410). -/
theorem State.liveInc_kept (s : State) (off m : Nat) : (s.liveInc off m).lamp = s.lamp ∧
    ∀ a, evtOwned a = false → a ≠ A.LOG_STATUS → (s.liveInc off m).reg a = s.reg a := by
  unfold State.liveInc
  extract_lets v
  split
  · exact ⟨rfl, fun _ _ _ => rfl⟩
  · split
    · exact ⟨rfl, fun _ _ _ => rfl⟩
    · refine ⟨(State.raise_lamp _ _).trans (State.setB_lamp _ _ _), fun a hevt ha => ?_⟩
      rw [State.raise_reg _ _ _ hevt, State.reg_setB_ne _ _ _ _ ha]
      rfl

theorem State.logCount_kept (s : State) (i : Nat) : (s.logCount i).lamp = s.lamp ∧
    ∀ a, evtOwned a = false → a ≠ A.LOG_STATUS → (s.logCount i).reg a = s.reg a := by
  unfold State.logCount
  split
  · exact ⟨rfl, fun _ _ _ => rfl⟩
  · exact s.liveInc_kept _ _

/-- A trip firing outside an episode opens one (R153): it is counted, freezes calibration, and raises its event. -/
def State.openEpisode (s : State) (n : Fin 2) (a : Nat) : State :=
  (((((s.setB (F.LMP_n_STATUS_EPISODE n) true).modLamp n fun l => { l with lastFire := a }).incSat
    (F.LMP_n_OVR_EPISODES_COUNT n)).setFrozen n (F.CAL_n_STATUS_FRZ_EP n) true a).logCount n.val).raise (40 + n)

/-- The registers that opening an episode writes do not meet in one word. -/
theorem episode_addrs (n : Fin 2) :
    A.LMP_n_STATUS n ≠ (F.LMP_n_OVR_EPISODES_COUNT n).addr ∧ A.LMP_n_STATUS n ≠ (F.CAL_n_STATUS_FRZ_EP n).addr ∧
    A.LMP_n_STATUS n ≠ A.LOG_STATUS ∧ evtOwned (F.CAL_n_STATUS_FRZ_EP n).addr = false ∧
    (F.CAL_n_STATUS_FRZ_EP n).addr ≠ A.LOG_STATUS := by
  decide +revert

/-- In the status register, opening an episode sets `EPISODE` alone (R164). -/
theorem State.openEpisode_status (s : State) (n : Fin 2) (a : Nat) {x : Fld} (hx : x.addr = A.LMP_n_STATUS n) :
    (s.openEpisode n a).on x = (s.setB (F.LMP_n_STATUS_EPISODE n) true).on x := by
  obtain ⟨hcount, hfrz, hlog, -, -⟩ := episode_addrs n
  have hevt := evtOwned_status n
  refine State.on_congr ?_
  rw [hx, State.openEpisode, State.raise_reg _ _ _ hevt, (State.logCount_kept _ _).2 _ hevt hlog, State.setFrozen_reg,
    State.reg_setB_ne _ _ _ _ hfrz, State.incSat, State.reg_setF_ne _ _ _ _ hcount, State.modLamp_reg]

/-- An episode that opens freezes calibration (R153, R176). -/
theorem State.openEpisode_frozen (s : State) (n : Fin 2) (a : Nat) :
    (s.openEpisode n a).on (F.CAL_n_STATUS_FRZ_EP n) = true := by
  obtain ⟨-, -, -, hevt, hlog⟩ := episode_addrs n
  rw [State.openEpisode, State.raise_on _ _ _ hevt, State.on_congr ((State.logCount_kept _ _).2 _ hevt hlog),
    State.on_congr (State.setFrozen_reg _ _ _ _ _ _)]
  exact State.on_setB_same _ true

/-- The episode opens at its firing, and the marking stays (R153). -/
theorem State.openEpisode_lamp (s : State) (n : Fin 2) (a : Nat) :
    ((s.openEpisode n a).lamp.get n).ovrEnd = (s.lamp.get n).ovrEnd ∧ ((s.openEpisode n a).lamp.get n).lastFire = a := by
  rw [State.openEpisode, State.raise_lamp, (State.logCount_kept _ _).1, (State.setFrozen_lamp _ _ _ _ _).1,
    (State.setFrozen_lamp _ _ _ _ _).2, State.incSat_lamp, State.modLamp_get_self, State.setB_lamp]
  exact ⟨rfl, rfl⟩

/-! ### The commands -/

/-- A step window that ends shows no more; the holds that end with it write no bit but their own (R146). -/
theorem State.stepEnded_settling (s : State) (n : Fin 2) :
    (((s.setB (F.LMP_n_STATUS_SETTLING n) false).endHold n 0).endHold n 1).on (F.LMP_n_STATUS_SETTLING n) = false := by
  have hkept := ((ChannelKept.refl n (comparatorBits n) (s.setB (F.LMP_n_STATUS_SETTLING n) false)).endHold
    (cmpBit_mem n 0) (ftHold_mem n 0)).endHold (cmpBit_mem n 1) (ftHold_mem n 1)
  rw [hkept.on _ rfl (settling_apart n)]
  exact State.on_setB_same _ false

/-- The converter moved on to the end of a hold finds it due (R157). -/
theorem State.holdDue_acts (s : State) (n c : Fin 2) (hon : s.on (ftHold n c) = true) :
    ((s.advanceSamples (s.cmp n c).holdEnd).endHold n c).on (ftHold n c) = false ∧
      ((s.advanceSamples (s.cmp n c).holdEnd).endHold n c).on (cmpBit n c) =
        ((s.advanceSamples (s.cmp n c).holdEnd).endHold n c).level n c := by
  have hmoved := s.advanceSamples_lamp (s.cmp n c).holdEnd
  have hcmp : (s.advanceSamples (s.cmp n c).holdEnd).cmp n c = s.cmp n c := by rw [State.cmp, hmoved.lamp, State.cmp]
  refine State.endHold_due _ n c ((hmoved.on (offLamp_ftHold n c)).trans hon) ?_
  rw [hcmp, hmoved.samples]
  omega

/-- A transition shows at once, and reaches the contribution of a comparator that is enabled and not held (R156, R157). -/
theorem State.transition_acts (s : State) (n c : Fin 2) (v : Bool) (label : Long) :
    let u := s.modCmp n c fun x => { x with live := v }
    let t := if u.on (ftHold n c) then u else u.updCmp n c (u.sampleOf label)
    (t.cmp n c).live = v ∧
      if s.on (ftHold n c) = true then t.on (cmpBit n c) = s.on (cmpBit n c) else t.on (cmpBit n c) = (s.on (ftEn n c) && v) := by
  intro u t
  have hlive : (u.cmp n c).live = v := congrArg Cmp.live (s.modCmp_self n c _)
  have hreg (x : Fld) : u.on x = s.on x := State.on_congr rfl
  unfold t
  rw [hreg]
  cases hhold : s.on (ftHold n c) with
  | true => exact ⟨hlive, hreg _⟩
  | false =>
    refine ⟨(u.contribute_comparators n c _ _ c).1.trans hlive, (u.updCmp_cmpBit n c _).trans ?_⟩
    rw [State.level, hreg, hreg, hhold, hlive]
    rfl

/-- A trip firing marks its samples and leaves an episode open, one that was open or its own (R152, R153). -/
theorem State.tripMark_acts (s : State) (n : Fin 2) (a : Nat) :
    let u := (s.ovrMark n a 383).setB (F.LMP_n_STATUS_TRIP_SEEN n) true
    let t := if u.on (F.LMP_n_STATUS_EPISODE n) then u.fired n a else u.openEpisode n a
    t.on (F.LMP_n_STATUS_TRIP_SEEN n) = true ∧ t.on (F.LMP_n_STATUS_OVR_ACTIVE n) = true ∧
      a + 384 ≤ (t.lamp.get n).ovrEnd ∧ t.on (F.LMP_n_STATUS_EPISODE n) = true ∧
      (s.on (F.LMP_n_STATUS_EPISODE n) = false → t.on (F.CAL_n_STATUS_FRZ_EP n) = true ∧ (t.lamp.get n).lastFire = a) := by
  intro u t
  have hseen : u.on (F.LMP_n_STATUS_TRIP_SEEN n) = true := State.on_setB_same _ true
  have hactive : u.on (F.LMP_n_STATUS_OVR_ACTIVE n) = true :=
    (State.on_setB_other _ true).trans (State.ovrMark_active _ n _ _)
  have hepisode : u.on (F.LMP_n_STATUS_EPISODE n) = s.on (F.LMP_n_STATUS_EPISODE n) :=
    (State.on_setB_other _ true).trans (State.ovrMark_episode _ n _ _)
  have hend : a + 384 ≤ (u.lamp.get n).ovrEnd := by
    unfold u
    rw [State.setB_lamp]
    exact s.ovrMark_end n a 383
  clear_value u
  unfold t
  cases hopen : s.on (F.LMP_n_STATUS_EPISODE n) with
  | true =>
    rw [hepisode, hopen, if_pos rfl, State.fired_on, State.fired_on, State.fired_on, State.fired_ovrEnd]
    exact ⟨hseen, hactive, hend, hepisode.trans hopen, fun h => absurd h nofun⟩
  | false =>
    obtain ⟨hovr, hfire⟩ := u.openEpisode_lamp n a
    rw [hepisode, hopen, if_neg nofun, hovr, u.openEpisode_status n a rfl, u.openEpisode_status n a rfl,
      u.openEpisode_status n a rfl]
    exact ⟨(State.on_setB_other _ true).trans hseen, (State.on_setB_other _ true).trans hactive, hend,
      State.on_setB_same _ true, fun _ => ⟨u.openEpisode_frozen n a, hfire⟩⟩

/-- The end of an episode shows in its status bit (R153, R164). -/
theorem State.episodeEnded_status (s : State) (n : Fin 2) (a : Nat) :
    (((s.setB (F.LMP_n_STATUS_EPISODE n) false).setFrozen n (F.CAL_n_STATUS_FRZ_EP n) false a).raise (42 + n)).on
      (F.LMP_n_STATUS_EPISODE n) = false := by
  rw [State.raise_on _ _ _ (evtOwned_status n), State.on_congr (State.setFrozen_reg _ _ _ _ _ _),
    State.on_congr (State.reg_setB_ne _ _ _ _ (episode_addrs n).2.1)]
  exact State.on_setB_same _ false

/-- The end of an episode ends its freeze of calibration (R153, R176). -/
theorem State.episodeEnded_thaws (s : State) (n : Fin 2) (a : Nat) :
    (((s.setB (F.LMP_n_STATUS_EPISODE n) false).setFrozen n (F.CAL_n_STATUS_FRZ_EP n) false a).raise (42 + n)).on
      (F.CAL_n_STATUS_FRZ_EP n) = false := by
  obtain ⟨-, -, -, hevt, -⟩ := episode_addrs n
  rw [State.raise_on _ _ _ hevt, State.on_congr (State.setFrozen_reg _ _ _ _ _ _)]
  exact State.on_setB_same _ false

/-- Settles O21: each clause is a rule of the operation that the input comes to; the end of a hold rests on time moving on, which
brings the converter to that end and leaves the channels of the lamp die. -/
theorem lampInputsAct : Obligations.LampInputsAct := by
  intro s n c v label
  refine ⟨?stepEnd, ?holdEnd, ?transition, ?ovr, ?trip, ?markEnd, ?episodeEnd, ?peak⟩
  case stepEnd =>
    refine ⟨_, rfl, ?_⟩
    cases hsclk : s.good.sclk with
    | false => simp
    | true =>
      cases hset : s.on (F.LMP_n_STATUS_SETTLING n) with
      | false => simpa using hset
      | true => exact State.stepEnded_settling _ n
  case holdEnd =>
    refine ⟨_, rfl, ?_⟩
    cases hsclk : s.good.sclk with
    | false => simp
    | true =>
      cases hon : s.on (ftHold n c) with
      | false => simpa using hon
      | true =>
        obtain ⟨hoff, hlevel⟩ := s.holdDue_acts n c hon
        exact ⟨hoff, fun _ => hlevel⟩
  case transition =>
    exact ⟨_, rfl, (s.advanceTo label).transition_acts n c v label⟩
  case ovr =>
    refine ⟨_, rfl, (State.fired_on _ n _ _).trans (State.on_setB_same _ true),
      (State.fired_on _ n _ _).trans ((State.on_setB_other _ true).trans (State.ovrMark_active _ n _ _)), ?_⟩
    rw [State.fired_ovrEnd, State.setB_lamp]
    exact State.ovrMark_end _ n _ 127
  case trip => exact ⟨_, rfl, (s.advanceTo label).tripMark_acts n _⟩
  case markEnd =>
    refine ⟨_, rfl, ?_⟩
    cases hon : s.on (F.LMP_n_STATUS_OVR_ACTIVE n) with
    | false => simpa using hon
    | true => exact State.on_setB_same _ false
  case episodeEnd =>
    refine ⟨_, rfl, ?_⟩
    cases hopen : s.on (F.LMP_n_STATUS_EPISODE n) with
    | false => exact ⟨hopen, fun h => absurd h nofun⟩
    | true => exact ⟨State.episodeEnded_status _ n _, fun _ => State.episodeEnded_thaws _ n _⟩
  case peak =>
    exact ⟨_, rfl, (s.f_setF_self _ 0 (Nat.le_of_ble_eq_true rfl)).trans (Nat.zero_mod _), fun b hb => s.reg_setF_ne _ 0 b hb⟩

end Sys2Proof.Machine
end

section
/-! PROOFS. A unit's next entry reaches its element (R129 to R136): the cases of `applyNext`, and what settles a statement about the
entries of a unit. -/

namespace Sys2Proof.Machine
open Sys2Proof

/-! ### Markers leave the registers below the streams' (R363, R371) -/

theorem not_seqWord_below {a : Nat} (h : a < 0xD03000) (k : Fin 64) : ¬ seqWord k a := by
  simp only [seqWord, A.STR_s_SEQ_LO]
  omega

theorem State.tlMarker_f (s : State) (u sel code : Nat) (t : Long) {x : Fld} (hx : x.addr < 0xD03000) :
    (s.tlMarker u sel code t).f x = s.f x := by
  rw [State.f, State.tlMarker, State.marker, State.toEnabled_reg _ _ _ fun k _ => not_seqWord_below hx k, State.f]

@[simp] theorem State.take_tl (s : State) (r : Record) (k : Fin 64) : (s.take r k).tl = s.tl := by
  obtain ⟨-, h⟩ | ⟨-, g, h⟩ := s.take_cases r k
  · rw [h, State.countDrop, State.raiseLimited_tl, State.modStream_tl, State.setPair_tl, State.countSeq, State.setPair_tl]
  · rw [h, State.modStream_tl, State.countSeq, State.setPair_tl]

@[simp] theorem State.toEnabled_tl (s : State) (r : Record) (ks : List (Fin 64)) : (s.toEnabled r ks).tl = s.tl := by
  induction ks generalizing s with
  | nil => rfl
  | cons k ks ih =>
    rw [State.toEnabled, ih]
    split
    · exact s.take_tl r k
    · rfl

/-! ### Refusals (R131, R132) -/

theorem refused_addr (u : Fin 15) : (F.KPR_TLQ_u_ERRS_REFUSED u).addr < 0xD03000 ∧
    evtOwned (F.KPR_TLQ_u_ERRS_REFUSED u).addr = false := by decide +revert

/-- The marks of a refused entry count it. -/
theorem State.markRefused_counts {s t : State} (u : Fin 15) (e : Entry) (mark : Long)
    (h : t.f (F.KPR_TLQ_u_ERRS_REFUSED u) = s.f (F.KPR_TLQ_u_ERRS_REFUSED u)) : CountsRefusal s (t.markRefused u e mark) u := by
  unfold CountsRefusal
  rw [State.markRefused, State.tlMarker_f _ _ _ _ _ (refused_addr u).1, State.incSat,
    State.f_setF_self _ _ _ (Nat.le_of_ble_eq_true rfl), h]
  exact Nat.mod_eq_of_lt (Nat.lt_of_le_of_lt (Nat.min_le_right _ _) (Nat.sub_lt (Nat.two_pow_pos _) Nat.one_pos))

/-! ### The next entry -/

section Entries

variable {s : State} {u : Fin 15} {sel : Nat → Bool} {at_ : Long} {stage : Nat} {e : Entry} {tab : List Byte} {s2 : State}
  {eff : Entry → List Byte → State → Except Nat State} {refuse : Entry → Nat → State → State}

/-- The selector of an entry taken is one that the command speaks of. -/
theorem sel_of_takes (h : Takes s u sel at_ e tab s2 stage) : sel e.sel = true := by
  obtain ⟨a, b, -, htakes, -⟩ := h
  simp only [State.takesEntry, Bool.and_eq_true] at htakes
  exact htakes.1.1

/-- While no entry waits for it, an element changes nothing (log entry 7). -/
theorem State.applyNext_waits (h : Waits s u sel at_ stage) : s.applyNext u sel at_ eff refuse stage = s := by
  unfold State.applyNext
  extract_lets s0
  split
  · rfl
  next a e b hnext => rw [if_neg (by rw [h a e b hnext]; exact Bool.false_ne_true)]

/-- An element that takes an entry applies it. -/
theorem State.applyNext_takes (h : Takes s u sel at_ e tab s2 stage) : ∃ mark,
    (∀ {s3}, eff e tab s2 = .ok s3 → s.applyNext u sel at_ eff refuse stage = s3.markApplied u e mark) ∧
    (∀ {c}, eff e tab s2 = .error c → s.applyNext u sel at_ eff refuse stage = (refuse e c s2).markRefused u e mark) := by
  obtain ⟨a, b, hnext, htakes, hloaded, htab, hlen, -, rfl⟩ := h
  have happly : s.applyNext u sel at_ eff refuse stage =
      (s.advanceTo at_).applyHere u a e b ((s.advanceTo at_).entryAt u at_ e) eff refuse := by
    simp only [State.applyNext, hnext, htakes, if_true]
  have hfits : ¬(e.table.isSome && decide (tableSize u e.sel < tab.length)) = true := by
    simpa using hlen
  rw [happly]
  unfold State.applyHere
  extract_lets s1 shadow v r
  have hshadow : shadow = tab := htab.symm
  have hr : r = eff e tab v := by
    unfold r
    rw [hshadow, if_neg hfits]
  rw [hloaded, if_neg nofun]
  refine ⟨(s.advanceTo at_).entryAt u at_ e, fun {w} heff => ?_, fun {c} heff => ?_⟩
  · rw [hr.trans heff]
  · rw [hr.trans heff]

/-- What settles a statement about entries of unit `u`: the effect of a good entry gives `P` with any marks, and another is refused
by a refusal that keeps the unit's count. -/
theorem entryActs_of_effect {i : Instr} {good : Entry → List Byte → State → Prop}
    {P : Entry → List Byte → State → State → Prop}
    (hexec : exec i s = .next (s.applyNext u sel at_ eff refuse stage))
    (hrefuse : ∀ e c (v : State), (refuse e c v).f (F.KPR_TLQ_u_ERRS_REFUSED u) = v.f (F.KPR_TLQ_u_ERRS_REFUSED u))
    (hgood : ∀ e tab v, sel e.sel = true → good e tab v →
      ∃ w, eff e tab v = .ok w ∧ ∀ mark, P e tab v (w.markApplied u e mark))
    (hbad : ∀ e tab v, sel e.sel = true → ¬ good e tab v → ∃ c, eff e tab v = .error c) :
    EntryActs s u sel at_ i good P stage := by
  refine ⟨_, hexec, State.applyNext_waits, fun e tab s2 htake => ?_⟩
  obtain ⟨mark, hok, herror⟩ := State.applyNext_takes (eff := eff) (refuse := refuse) htake
  refine ⟨fun hg => ?_, fun hb => ?_⟩
  · obtain ⟨w, heff, hP⟩ := hgood e tab s2 (sel_of_takes htake) hg
    rw [hok heff]
    exact hP mark
  · obtain ⟨c, heff⟩ := hbad e tab s2 (sel_of_takes htake) hb
    rw [herror heff]
    exact State.markRefused_counts u e mark (hrefuse e c s2)

end Entries

end Sys2Proof.Machine
end

section
/-! PROOFS. Entries of units 0 and 1 (R145, R146, R155 to R157, R162): their effects and refusals, the arrival of an entry at the
lamp, then the obligation on them. -/

namespace Sys2Proof.Machine
open Sys2Proof

/-! ### Refusals (R145) -/

theorem refused_ne_lamp (n : Fin 2) (u : Fin 15) : (F.KPR_TLQ_u_ERRS_REFUSED u).addr ≠ A.LMP_n_LAST_REFUSE n ∧
    (F.KPR_TLQ_u_ERRS_REFUSED u).addr ≠ A.LMP_n_STATUS n := by decide +revert

/-- A refusal of a lamp unit keeps the counts of the timeline queues. -/
theorem lampRefuse_counts (n : Fin 2) (u : Fin 15) (e : Entry) (c : Nat) (s : State) :
    (lampRefuse n e c s).f (F.KPR_TLQ_u_ERRS_REFUSED u) = s.f (F.KPR_TLQ_u_ERRS_REFUSED u) := by
  obtain ⟨hlast, hstatus⟩ := refused_ne_lamp n u
  unfold lampRefuse
  dsimp only
  rw [State.raise_f _ _ _ (refused_addr u).2, State.setB, State.f_setF_addr _ _ _ _ hstatus, State.f_setF_addr _ _ _ _ hlast,
    State.f_setF_addr _ _ _ _ hlast]

/-! ### Effects -/

/-- The marks of an applied entry leave the lamp channels. -/
theorem State.markApplied_lamp (s : State) (u : Nat) (e : Entry) (mark : Long) : LampPassed 0 s (s.markApplied u e mark) :=
  (LampPassed.refl s).markApplied u e mark

theorem offLamp_status (n : Fin 2) : offLamp (A.LMP_n_STATUS n) = false := by decide +revert

theorem ftHold_apart_other (n : Fin 2) : ∀ x ∈ [cmpBit n 1, ftHold n 1], x.apart (ftHold n 0) = true := by decide +revert

/-- A front-end step at sample `a` (R146): its window and both holds show, and the mirrors stay. -/
theorem State.frontStep_acts (s : State) (n : Fin 2) (a : Nat) :
    (∀ sel ≤ 4, (s.frontStep n a).reg (lampMirror n sel) = s.reg (lampMirror n sel)) ∧
    (s.frontStep n a).on (F.LMP_n_STATUS_SETTLING n) = true ∧ ((s.frontStep n a).lamp.get n).stepEnd = a + 96 ∧
    (s.frontStep n a).on (ftHold n 0) = true ∧ (s.frontStep n a).on (ftHold n 1) = true := by
  unfold State.frontStep
  extract_lets opened
  have hon : opened.on (F.LMP_n_STATUS_SETTLING n) = true := State.on_setB_same _ true
  have hreg (r : Nat) (hr : r ≠ A.LMP_n_STATUS n) : opened.reg r = s.reg r :=
    (State.reg_setB_ne _ _ _ r hr).trans (s.modLamp_reg n _ r)
  have hstep : (opened.lamp.get n).stepEnd = a + 96 := by
    unfold opened
    rw [State.setB_lamp, State.modLamp_get_self]
  clear_value opened
  have hmarked : ((opened.addMark n a (some (a + 96)) Flag.settle).lamp.get n).stepEnd = a + 96 := by
    rw [State.addMark, State.modLamp_get_self, hstep]
  have hkept := ((ChannelKept.refl n (comparatorBits n) (opened.addMark n a (some (a + 96)) Flag.settle)).holdCmp a (a + 96)
    (cmpBit_mem n 0) (ftHold_mem n 0)).holdCmp a (a + 96) (cmpBit_mem n 1) (ftHold_mem n 1)
  have hsecond := (ChannelKept.refl n [cmpBit n 1, ftHold n 1]
    ((opened.addMark n a (some (a + 96)) Flag.settle).holdCmp n 0 a (a + 96))).holdCmp (c := 1) a (a + 96)
    List.mem_cons_self (List.mem_cons_of_mem _ List.mem_cons_self)
  refine ⟨fun sel hsel => ?_, ?_, hkept.stepEnd.trans hmarked, ?_, State.holdCmp_ftHold _ n 1 _ _⟩
  · obtain ⟨hevt, hstatus, hedges, -⟩ := lampMirror_free n hsel
    rw [hkept.reg _ hevt hstatus hedges, State.addMark_reg, hreg _ hstatus]
  · rw [hkept.on _ rfl (settling_apart n), State.on_congr (State.addMark_reg _ _ _ _ _ _), hon]
  · rw [hsecond.on _ rfl (ftHold_apart_other n)]
    exact State.holdCmp_ftHold _ n 0 _ _

/-- A setting that makes a front-end step, once applied (R145, R146). -/
theorem State.stepApplied_acts (s : State) (n : Fin 2) {sel : Nat} (hsel : sel ≤ 4) (e : Entry) (a u : Nat)
    (mark : Long) :
    let t := ((s.setReg (lampMirror n sel) e.opnd).frontStep n a).markApplied u e mark
    t.reg (lampMirror n sel) = e.opnd ∧ t.on (F.LMP_n_STATUS_SETTLING n) = true ∧ (t.lamp.get n).stepEnd = a + 96 ∧
      t.on (ftHold n 0) = true ∧ t.on (ftHold n 1) = true := by
  intro t
  have hmark : LampPassed 0 _ t := State.markApplied_lamp _ u e mark
  obtain ⟨hmirror, hsettling, hstep, hhold0, hhold1⟩ := (s.setReg (lampMirror n sel) e.opnd).frontStep_acts n a
  have hoff := offLamp_status n
  refine ⟨?_, (hmark.on hoff).trans hsettling, ?_, (hmark.on hoff).trans hhold0, (hmark.on hoff).trans hhold1⟩
  · rw [hmark.reg _ (lampMirror_free n hsel).2.2.2, hmirror sel hsel, State.reg_setReg_self]
  · rw [hmark.lamp, hstep]

theorem attenEff_ok {n : Fin 2} {at_ : Long} {e : Entry} {tab : List Byte} {s : State}
    (h : e.opnd.toNat % 32 ≠ 31 ∧ e.opnd.toNat < 32) :
    attenEff n at_ e tab s = .ok ((s.setReg (lampMirror n 0) e.opnd).frontStep n (s.sampleOf at_)) := by
  have hres : ¬(e.opnd.toNat / 32 != 0) = true := by simpa using h.2
  exact (if_neg h.1).trans (if_neg hres)

theorem attenEff_error {n : Fin 2} {at_ : Long} {e : Entry} {tab : List Byte} {s : State}
    (h : ¬(e.opnd.toNat % 32 ≠ 31 ∧ e.opnd.toNat < 32)) : ∃ c, attenEff n at_ e tab s = .error c := by
  by_cases hcode : e.opnd.toNat % 32 = 31
  · exact ⟨1, if_pos hcode⟩
  · have hres : (e.opnd.toNat / 32 != 0) = true := by simpa [hcode] using h
    exact ⟨2, (if_neg hcode).trans (if_pos hres)⟩

theorem preampEff_ok {n : Fin 2} {at_ : Long} {e : Entry} {tab : List Byte} {s : State} (h : e.opnd.toNat < 2) :
    preampEff n at_ e tab s = .ok ((s.setReg (lampMirror n 1) e.opnd).frontStep n (s.sampleOf at_)) :=
  if_neg (by simpa using h)

theorem preampEff_error {n : Fin 2} {at_ : Long} {e : Entry} {tab : List Byte} {s : State} (h : ¬e.opnd.toNat < 2) :
    ∃ c, preampEff n at_ e tab s = .error c := ⟨2, if_pos (by simpa using h)⟩

/-! ### Comparator settings (R155 to R157) -/

theorem ftThrEff_ok {n : Fin 2} {at_ : Long} {e : Entry} {tab : List Byte} {s : State} (h : e.opnd.toNat < 1024) :
    ftThrEff n at_ e tab s = .ok ((s.setReg (lampMirror n e.sel) e.opnd).holdCmp n (if e.sel = 2 then 0 else 1)
      (s.sampleOf at_) (s.sampleOf at_ + 64)) := if_neg (by simpa using h)

theorem ftThrEff_error {n : Fin 2} {at_ : Long} {e : Entry} {tab : List Byte} {s : State} (h : ¬e.opnd.toNat < 1024) :
    ∃ c, ftThrEff n at_ e tab s = .error c := ⟨2, if_pos (by simpa using h)⟩

/-- A threshold holds its comparator, once applied (R155, R157). -/
theorem State.thresholdApplied_acts (s : State) (n c : Fin 2) {sel : Nat} (hsel : sel ≤ 4) (e : Entry) (a b u : Nat)
    (mark : Long) :
    let t := ((s.setReg (lampMirror n sel) e.opnd).holdCmp n c a b).markApplied u e mark
    t.reg (lampMirror n sel) = e.opnd ∧ t.on (ftHold n c) = true := by
  intro t
  have hmark : LampPassed 0 _ t := State.markApplied_lamp _ u e mark
  have hkept := (ChannelKept.refl n (comparatorBits n) (s.setReg (lampMirror n sel) e.opnd)).holdCmp a b
    (cmpBit_mem n c) (ftHold_mem n c)
  obtain ⟨hevt, hstatus, hedges, hoff⟩ := lampMirror_free n hsel
  refine ⟨?_, (hmark.on (offLamp_ftHold n c)).trans (State.holdCmp_ftHold _ n c a b)⟩
  rw [hmark.reg _ hoff, hkept.reg _ hevt hstatus hedges, State.reg_setReg_self]

@[simp] theorem State.freshCmp_reg (s : State) (n c : Fin 2) (changed v : Bool) (a : Nat) :
    (s.freshCmp n c changed v).reg a = s.reg a := by
  unfold State.freshCmp
  split <;> rfl

/-- The state that recomputes both contributions once `FT_CTRL` reads its operand and the outputs of changed polarities are
fresh (R156, R157). -/
theorem ftCtrlEff_ok {n : Fin 2} {at_ : Long} {b0 b1 : Bool} {e : Entry} {tab : List Byte} {s : State}
    (h : e.opnd.toNat < 65536) : ∃ (t : State) (a : Nat), t.reg (lampMirror n 4) = e.opnd ∧
      ftCtrlEff n at_ b0 b1 e tab s = .ok (((t.updCmp n 0 a).updCmp n 1 a).updPins) := by
  unfold ftCtrlEff
  rw [if_neg (by simpa using h)]
  refine ⟨_, _, ?_, rfl⟩
  rw [State.freshCmp_reg, State.freshCmp_reg, State.reg_setReg_self]

theorem ftCtrlEff_error {n : Fin 2} {at_ : Long} {b0 b1 : Bool} {e : Entry} {tab : List Byte} {s : State}
    (h : ¬e.opnd.toNat < 65536) : ∃ c, ftCtrlEff n at_ b0 b1 e tab s = .error c := ⟨2, if_pos (by simpa using h)⟩

theorem cmpBit_apart_other (n : Fin 2) : ∀ x ∈ [cmpBit n 1], x.apart (cmpBit n 0) = true := by decide +revert

theorem LampPassed.level {k : Nat} {s t : State} (h : LampPassed k s t) (n c : Fin 2) : t.level n c = s.level n c := by
  have hcmp : t.cmp n c = s.cmp n c := by rw [State.cmp, h.lamp, State.cmp]
  exact State.level_congr (h.on (lampMirror_free n (sel := 4) (by decide)).2.2.2) (h.on (offLamp_ftHold n c))
    (congrArg Cmp.live hcmp) (congrArg Cmp.kept hcmp)

/-- Recomputing both contributions makes each the one that the settings and its hold give, and leaves the mirrors (R156). -/
theorem State.updBoth_acts (s : State) (n : Fin 2) (a : Nat) :
    let t := ((s.updCmp n 0 a).updCmp n 1 a).updPins
    t.reg (lampMirror n 4) = s.reg (lampMirror n 4) ∧ ∀ c, t.on (cmpBit n c) = t.level n c := by
  intro t
  have hkept := ((ChannelKept.refl n (comparatorBits n) s).updCmp a (cmpBit_mem n 0)).updCmp a (cmpBit_mem n 1)
  have hsecond := (ChannelKept.refl n [cmpBit n 1] (s.updCmp n 0 a)).updCmp (c := 1) a List.mem_cons_self
  obtain ⟨hevt, hstatus, hedges, -⟩ := lampMirror_free n (sel := 4) (by decide)
  have hlevel (c : Fin 2) : t.level n c = ((s.updCmp n 0 a).updCmp n 1 a).level n c :=
    State.level_congr (State.updPins_on _ _) (State.updPins_on _ _) (by rw [State.cmp, State.updPins_lamp, State.cmp])
      (by rw [State.cmp, State.updPins_lamp, State.cmp])
  refine ⟨(State.updPins_reg _ _).trans (hkept.reg _ hevt hstatus hedges), fun c => ?_⟩
  rw [hlevel c, State.updCmp_level, (State.updPins_on _ _ : t.on (cmpBit n c) = _)]
  match c with
  | 0 => rw [hsecond.on _ rfl (cmpBit_apart_other n), State.updCmp_cmpBit, State.updCmp_level]
  | 1 => rw [State.updCmp_cmpBit]

/-- The marks of an applied `FT_CTRL` leave its contributions (R156). -/
theorem State.updBothApplied_acts (s : State) (n : Fin 2) (a u : Nat) (e : Entry) (mark : Long)
    (h : s.reg (lampMirror n 4) = e.opnd) :
    let t := (((s.updCmp n 0 a).updCmp n 1 a).updPins).markApplied u e mark
    t.reg (lampMirror n 4) = e.opnd ∧ ∀ c, t.on (cmpBit n c) = t.level n c := by
  intro t
  have hmark : LampPassed 0 _ t := State.markApplied_lamp _ u e mark
  obtain ⟨hmirror, hcontrib⟩ := s.updBoth_acts n a
  refine ⟨?_, fun c => ?_⟩
  · rw [hmark.reg _ (lampMirror_free n (by decide)).2.2.2, hmirror, h]
  · rw [hmark.on (offLamp_status n : offLamp (cmpBit n c).addr = false), hmark.level, hcontrib]

/-! ### Arrival (R162) -/

theorem State.setQueue_self (s : State) (u : Fin 15) (q : List Entry) : (s.setQueue u q).tl.queues[u] = q := by
  rw [State.setQueue, State.updPending, State.setF_tl, State.setF_tl, State.updLevel, State.setF_tl]
  exact Vector.getElem_set_self _

theorem State.openWindow_queues (s : State) (u sel : Nat) (t : Long) : (s.openWindow u sel t).tl.queues = s.tl.queues := by
  rw [State.openWindow, State.updAffect, State.setB_tl]

/-- The marks of a LATE entry leave the queues (R128). -/
theorem State.markLate_queues (s : State) (u sel : Nat) (t : Long) : (s.markLate u sel t).tl.queues = s.tl.queues := by
  rw [State.markLate, State.tlMarker, State.marker, State.toEnabled_tl, State.openWindow_queues, State.raise_tl, State.setF_tl,
    State.incSat_tl]

theorem execLampEntryArrive_none {s : State} {u : Fin 15} (h : splitTransit s.tl.queues[u] = none) :
    exec (.lampEntryArrive u) s = .next s := by
  show execLampEntryArrive u s = _
  rw [execLampEntryArrive, h]

/-- An entry whose target has passed is reported and LATE; another is stored (R162). -/
theorem execLampEntryArrive_some {s : State} {u : Fin 15} {a b : List Entry} {e : Entry}
    (h : splitTransit s.tl.queues[u] = some (a, e, b)) : exec (.lampEntryArrive u) s =
      .next (if !e.imm && decide (e.target.toNat < s.time.tick.toNat) then
          (s.setQueue u (a ++ { e with phase := .reported } :: b)).markLate u e.sel e.target
        else s.setQueue u (a ++ { e with phase := .stored, from_ := s.time.samples } :: b)) := by
  show execLampEntryArrive u s = _
  rw [execLampEntryArrive, h]

/-- Settles O20: an entry clause is its effect under the marks of an applied entry, which leave the lamp channels, and its
refusals; the arrival is a case split on the entry in transit and on its target. -/
theorem lampEntriesAct : Obligations.LampEntriesAct := by
  refine ⟨fun s n label b0 b1 => ⟨?atten, ?preamp, ?ftThr, ?ftCtrl⟩, fun s u => ?arrive⟩
  case atten =>
    exact entryActs_of_effect rfl (lampRefuse_counts n _)
      (fun e _ v _ hgood => ⟨_, attenEff_ok hgood, v.stepApplied_acts n (by decide) e _ _⟩)
      fun _ _ _ _ hbad => attenEff_error hbad
  case preamp =>
    exact entryActs_of_effect rfl (lampRefuse_counts n _)
      (fun e _ v _ hgood => ⟨_, preampEff_ok hgood, v.stepApplied_acts n (by decide) e _ _⟩)
      fun _ _ _ _ hbad => preampEff_error hbad
  case ftThr =>
    refine entryActs_of_effect rfl (lampRefuse_counts n _) (fun e _ v hsel hgood => ?_) fun _ _ _ _ hbad => ftThrEff_error hbad
    have hle : e.sel ≤ 4 := by
      simp only [Bool.or_eq_true, decide_eq_true_eq] at hsel
      omega
    exact ⟨_, ftThrEff_ok hgood, v.thresholdApplied_acts n _ hle e _ _ _⟩
  case ftCtrl =>
    refine entryActs_of_effect rfl (lampRefuse_counts n _) (fun e _ v _ hgood => ?_) fun _ _ _ _ hbad => ftCtrlEff_error hbad
    obtain ⟨w, a, hmirror, heff⟩ := ftCtrlEff_ok (n := n) (at_ := label) (b0 := b0) (b1 := b1) (tab := []) (s := v) hgood
    exact ⟨_, heff, fun mark => w.updBothApplied_acts n a _ e mark hmirror⟩
  case arrive =>
    cases hsplit : splitTransit s.tl.queues[u] with
    | none => exact ⟨s, execLampEntryArrive_none hsplit, rfl⟩
    | some x =>
      obtain ⟨a, e, b⟩ := x
      refine ⟨_, execLampEntryArrive_some hsplit, ?_⟩
      dsimp only
      by_cases hlate : e.imm = false ∧ e.target.toNat < s.time.tick.toNat
      · rw [if_pos (by simpa using hlate), if_pos hlate, if_pos hlate, State.markLate_queues, State.setQueue_self]
      · rw [if_neg (by simpa using hlate), if_neg hlate, if_neg hlate, State.setQueue_self]

end Sys2Proof.Machine
end
